-- ==== Sys2Proof/Word.lean ====
section
/-! DEFINITION. The word types of the KG3248 and the plain data that commands carry. -/

namespace Sys2Proof

/-- A register word (R10). -/
abbrev Word := BitVec 32

/-- One byte of a memory or of a frame. -/
abbrev Byte := BitVec 8

/-- A field of a register: the register's offset, the field's lowest bit and its width (R9). -/
structure Fld where
  off : Nat
  lo  : Nat
  w   : Nat
  deriving DecidableEq, Repr, Inhabited

/-- One row of a register table: base offset, the repetitions (count and stride, widest stride first), the reset value,
the bits a software write stores, and the bits in which a written 1 clears (R13). -/
structure RegDesc where
  base  : Nat
  dims  : List (Nat × Nat)
  reset : Nat
  rw    : Nat
  w1c   : Nat
  deriving DecidableEq, Repr, Inhabited

/-- The status with which a DRAM access completes (R392, R399, R402, R403, R407). -/
inductive DStatus where
  | ok | ue | frozen | nomap | migrating | revoked
  deriving DecidableEq, Repr, Inhabited

/-- What the code of R394 found in a block that was read; the KG3248 observes it, it does not decide it. -/
inductive RdCheck where
  | clean
  | correctable (group : Fin 10)
  | uncorrectable
  deriving DecidableEq, Repr, Inhabited

/-- What an access of a unit of the device meets in a block beyond what its memory decides (R394, R399): an error that the code
corrects, or a status other than OK. -/
inductive Finding where
  | ce (group : Fin 10)
  | fail (st : DStatus)
  deriving DecidableEq, Repr, Inhabited

/-- What the accesses of a row meet, in order: each finding after as many of the row's blocks that meet none. -/
abbrev Seen := List (Nat × Finding)

/-- An operand, and what the accesses of its row meet (R394, R399). -/
structure Met (α : Type) where
  val  : α
  seen : Seen
  deriving DecidableEq, Repr, Inhabited

/-- An operand, and the cycles that a window holds beyond its instructions and points (R195). -/
structure Waited (α : Type) where
  val    : α
  cycles : Nat
  deriving DecidableEq, Repr, Inhabited

/-- An operand, and whether its row falls into the cycle of an update of what it concerns (R196, R255, R260, R501). -/
structure Same (α : Type) where
  val  : α
  same : Bool
  deriving DecidableEq, Repr, Inhabited

/-- An operand, and for how many samples its line has held its level (R373). -/
structure Steady (α : Type) where
  val  : α
  held : Nat
  deriving DecidableEq, Repr, Inhabited

/-- A column command of the DRAM (R396): the class it may serve, which of the requests in reach, and what a read meets. -/
structure Column where
  classK : Bool
  nth    : Nat
  chk    : RdCheck
  deriving DecidableEq, Repr, Inhabited

/-- What a lane's checker hears (R464 to R466): the bits from the far end, or in near-end loopback `own` bits of its own pattern. -/
structure LaneBits where
  lane : Fin 12
  bits : List Bool
  own  : Nat
  deriving DecidableEq, Repr, Inhabited

/-- An ALIGN block (R467): its lane number, and the count of the port's blocks at which it arrives. -/
structure AlignAt where
  num : Fin 4
  at_ : Nat
  deriving DecidableEq, Repr, Inhabited

/-- FEC blocks or codewords that were corrected, and that could not be, since the last row that brings them (R486). -/
structure Fec where
  corr   : Nat
  uncorr : Nat
  deriving DecidableEq, Repr, Inhabited

/-- An Ethernet port, and what its FEC has met. -/
structure PortFec where
  port : Fin 2
  fec  : Fec
  deriving DecidableEq, Repr, Inhabited

/-- The outcome of the header ECC check of R275. -/
inductive Ecc where
  | good | fixed | bad
  deriving DecidableEq, Repr, Inhabited

/-- The header of a CSI-2 packet as it reaches a camera port, first byte in bits [7:0] (R274, R275). -/
structure CsiHdr where
  port : Fin 8
  word : BitVec 32
  deriving DecidableEq, Repr, Inhabited

/-- A long CSI-2 packet (R275): header, payload and checksum. -/
structure LongPkt where
  hdr     : CsiHdr
  payload : List Byte
  crc     : BitVec 16
  deriving DecidableEq, Repr, Inhabited

/-- A DRAM request (R395, R397): who asks, its class (true is K), the bytes it names, and the data of a write. -/
structure DramReq where
  requester : Nat
  classK    : Bool
  addr      : BitVec 40
  len       : Nat
  data      : Option (List Byte)
  deriving DecidableEq, Repr, Inhabited

/-- What a CAP packet of R471 carries. -/
structure CapInfo where
  part    : BitVec 16
  rev     : BitVec 8
  role    : Fin 3        -- 0: UP; 1: DOWN; 2: HOST
  lanes   : Nat
  creditT : Nat
  creditN : Nat
  addr    : BitVec 16
  valid   : Bool
  deriving DecidableEq, Repr, Inhabited

/-- A block of the 64b/66b code as a Colud Link port deals with it (R467): control or data, and its 64 bits. -/
structure LnkBlock where
  ctl  : Bool
  word : BitVec 64
  deriving DecidableEq, Repr, Inhabited

/-- A Colud Link packet (R472). -/
structure LnkPkt where
  ty      : BitVec 4
  host    : Bool
  hops    : BitVec 8
  dest    : BitVec 16
  src     : BitVec 16
  tag     : BitVec 32
  payload : List Byte
  deriving DecidableEq, Repr, Inhabited

/-- The Ethernet origin of a command frame: what a response is addressed to (R318, R489). -/
structure EthPeer where
  v6   : Bool
  mac  : BitVec 48
  ip   : BitVec 128
  port : BitVec 16
  deriving DecidableEq, Repr, Inhabited

/-- An IEEE 1149.1 operation on the test access port (R618). -/
inductive TapOp where
  | trstLow
  | trstHigh
  | bypass (bits : List Bool)
  | idcode
  | sample (pins : List (Nat × Bool))
  | preload (cells : List (Nat × Bool))
  | extest (pins : List (Nat × Bool))
  deriving DecidableEq, Repr, Inhabited

end Sys2Proof
end

