-- ==== Sys2Proof/Syntax.lean ====
section
/-! DEFINITION. The commands and events of the KG3248: one constructor for every row of spec/opcode_table.json, in the
table's order. A word operand `v` is the 32-bit word written to the register that the row names; for an Aimapor row
`n` is how many words the engine has fetched ahead of the instruction once it issues (R120). The cycle of a hardware update into
which a `Same` write falls is that of the row before it for SCNn_CYC_MAX and FE_MAX (R196, R260), and that of the edge whose row
follows it for BANK (R255). -/

namespace Sys2Proof

/-- One command or event of the table of steps. -/
inductive Instr where
  /-- VOLLEY_EDGE (R32). -/
  | volleyEdge
  /-- LOCAL_TICK (R31). -/
  | localTick
  /-- VOL_ENABLE (R25). -/
  | volEnable (v : Word)
  /-- VOL_LOCK (R25). -/
  | volLock
  /-- VOL_DISABLE (R30). -/
  | volDisable (v : Word)
  /-- RELOCK (R28). -/
  | relock (v : Word)
  /-- POINT_SLOT (R34). -/
  | pointSlot (j : Fin 10)
  /-- POINT_DEADLINE (R39). -/
  | pointDeadline (win : Nat)
  /-- DEAD_BALL_LIMIT (R43). -/
  | deadBallLimit (b : Fin 32)
  /-- OUTPUT_MERGE (R32). -/
  | outputMerge
  /-- HOLD_DARK_TIMEOUT (R336). -/
  | holdDarkTimeout (b : Fin 32)
  /-- LATCH_INSTANT (R241). -/
  | latchInstant
  /-- CLE_COMMIT (R246). -/
  | cleCommit (k : Fin 16)
  /-- CLE_COMMIT_DEADLINE (R49). -/
  | cleCommitDeadline
  /-- CLE_LATE_LIMIT (R50). -/
  | cleLateLimit (k : Fin 16)
  /-- CORRECTION_SWITCH (R36). -/
  | correctionSwitch
  /-- FOLLOWING_ERROR (R259). -/
  | followingError (b : Fin 32)
  /-- TRACE_DONE (R266). -/
  | traceDone (b : Fin 32)
  /-- DBLOG_RD_WRITE (R62). -/
  | dblogRdWrite (v : Word)
  /-- GRID_WRITE (R72). -/
  | gridWrite (b : Fin 32) (v : Word)
  /-- GRID_READ (R72). -/
  | gridRead (b : Fin 32)
  /-- CHANNEL_ENABLE (R87). -/
  | channelEnable (b : Fin 32) (v : Word)
  /-- CHANNEL_DISABLE (R87). -/
  | channelDisable (b : Fin 32) (v : Word)
  /-- CHANNEL_START_TIMEOUT (R87). -/
  | channelStartTimeout (b : Fin 32)
  /-- RX_PHASE_SEARCH_DONE (R82). -/
  | rxPhaseSearchDone (b : Fin 32) (phase : Fin 4)
  /-- STAT_WORD (R83). -/
  | statWord (b : Fin 32) (slot : Fin 10) (w : BitVec 40)
  /-- HEAD_LOST (R85). -/
  | headLost (b : Fin 32)
  /-- LASER_INPUT_CHANGE (R96). -/
  | laserInputChange (b : Fin 32) (rdy alm : Bool)
  /-- PD_ENABLE (R102). -/
  | pdEnable (n : Fin 64) (v : Word)
  /-- PD_DISABLE (R102). -/
  | pdDisable (n : Fin 64) (v : Word)
  /-- BACK_REFLECTION (R103). -/
  | backReflection (b : Fin 32)
  /-- SAFE_STOP_SEQUENCE (R105). -/
  | safeStopSequence (b : Fin 32)
  /-- ILK_OPEN (R110). -/
  | ilkOpen (i : Fin 4)
  /-- ILK_REARM (R110). -/
  | ilkRearm (v : Word)
  /-- SCN_ENABLE (R620). -/
  | scnEnable (b : Fin 32) (v : Word)
  /-- SCN_DISABLE (R620). -/
  | scnDisable (b : Fin 32) (v : Waited Word)
  /-- PAGE_SET (R118). -/
  | pageSet (b : Fin 32) (v : Word)
  /-- PAGE_CLR (R118). -/
  | pageClr (b : Fin 32) (v : Word)
  /-- POINT_COMPUTE (R130). -/
  | pointCompute (b : Fin 32) (waited : Nat)
  /-- MOVE (R141). -/
  | move (b : Fin 32) (n : Fin 5)
  /-- MARK (R142). -/
  | mark (b : Fin 32) (n : Fin 5)
  /-- ARC (R145). -/
  | arc (b : Fin 32) (n : Fin 5)
  /-- SKY_IN (R148). -/
  | skyIn (b : Fin 32) (n : Fin 5)
  /-- SKY_OUT (R149). -/
  | skyOut (b : Fin 32) (n : Fin 5)
  /-- WOB (R151). -/
  | wob (b : Fin 32) (n : Fin 5)
  /-- POWER (R153). -/
  | power (b : Fin 32) (n : Fin 5)
  /-- RAMP (R154). -/
  | ramp (b : Fin 32) (n : Fin 5)
  /-- SPEED (R155). -/
  | speed (b : Fin 32) (n : Fin 5)
  /-- DWELL (R156). -/
  | dwell (b : Fin 32) (n : Fin 5)
  /-- WAITV (R173). -/
  | waitv (b : Fin 32) (n : Fin 5)
  /-- CLAIM (R176). -/
  | claim (b : Fin 32) (n : Fin 5)
  /-- CLAIMT (R177). -/
  | claimt (b : Fin 32) (n : Fin 5)
  /-- RELEASE (R178). -/
  | release (b : Fin 32) (n : Fin 5)
  /-- RELEASE_ALL (R178). -/
  | releaseAll (b : Fin 32) (n : Fin 5)
  /-- PULL_P (R179). -/
  | pullP (b : Fin 32) (n : Fin 5)
  /-- PULL_W (R180). -/
  | pullW (b : Fin 32) (n : Fin 5)
  /-- PASSPT (R181). -/
  | passpt (b : Fin 32) (n : Fin 5)
  /-- SYNC (R183). -/
  | sync (b : Fin 32) (n : Fin 5)
  /-- SYNC_B (R184). -/
  | syncB (b : Fin 32) (n : Fin 5)
  /-- SYNC_TIMEOUT (R185). -/
  | syncTimeout (b : Fin 32)
  /-- CALL (R166). -/
  | call (b : Fin 32) (n : Fin 5)
  /-- RET (R166). -/
  | ret (b : Fin 32) (n : Fin 5)
  /-- LOOP (R167). -/
  | loop (b : Fin 32) (n : Fin 5)
  /-- ENDL (R167). -/
  | endl (b : Fin 32) (n : Fin 5)
  /-- BR (R165). -/
  | br (b : Fin 32) (n : Fin 5)
  /-- BRC (R164). -/
  | brc (b : Fin 32) (n : Fin 5)
  /-- LDI (R168). -/
  | ldi (b : Fin 32) (n : Fin 5)
  /-- ADD (R168). -/
  | add (b : Fin 32) (n : Fin 5)
  /-- SUB (R168). -/
  | sub (b : Fin 32) (n : Fin 5)
  /-- AND (R168). -/
  | and (b : Fin 32) (n : Fin 5)
  /-- OR (R168). -/
  | or (b : Fin 32) (n : Fin 5)
  /-- SHL (R169). -/
  | shl (b : Fin 32) (n : Fin 5)
  /-- SHR (R169). -/
  | shr (b : Fin 32) (n : Fin 5)
  /-- CMP (R163). -/
  | cmp (b : Fin 32) (n : Fin 5)
  /-- LD (R170). -/
  | ld (b : Fin 32) (n : Fin 5)
  /-- ST (R170). -/
  | st (b : Fin 32) (n : Fin 5)
  /-- SETP (R186). -/
  | setp (b : Fin 32) (n : Fin 5)
  /-- CAMW (R187). -/
  | camw (b : Fin 32) (n : Fin 5)
  /-- TAG (R188). -/
  | tag (b : Fin 32) (n : Fin 5)
  /-- TRAP (R189). -/
  | trap (b : Fin 32) (n : Fin 5)
  /-- HALT (R190). -/
  | halt (b : Fin 32) (n : Waited (Fin 5))
  /-- COURT_MAP_WRITE (R205). -/
  | courtMapWrite (i : Fin 32768) (v : Word)
  /-- MAP_LOAD (R207). -/
  | mapLoad (v : Word)
  /-- MAP_LOAD_DONE (R207). -/
  | mapLoadDone (got : Met (Fin 8))
  /-- ARB_ENABLE (R237). -/
  | arbEnable (v : Word)
  /-- ARB_DISABLE (R622). -/
  | arbDisable (v : Word)
  /-- ROUND_PUBLISH (R213). -/
  | roundPublish (cyc : BitVec 12)
  /-- GRANT_REVOKED (R223). -/
  | grantRevoked (b : Fin 32)
  /-- POOL_STAGE_READ_DONE (R227). -/
  | poolStageReadDone (p : Fin 64) (slot : Fin 4096) (seen : Seen)
  /-- POOL_ENABLE (R231). -/
  | poolEnable (p : Fin 64) (v : Word)
  /-- POOL_DISABLE (R231). -/
  | poolDisable (p : Fin 64) (v : Word)
  /-- POOL_LOADED_WRITE (R225). -/
  | poolLoadedWrite (p : Fin 64) (v : Word)
  /-- RWLOG_RD_WRITE (R233). -/
  | rwlogRdWrite (v : Word)
  /-- CLE_ENABLE (R240). -/
  | cleEnable (k : Fin 16) (v : Word)
  /-- CLE_DISABLE (R240). -/
  | cleDisable (k : Fin 16) (v : Word)
  /-- INT_RESET (R243). -/
  | intReset (b : Fin 32) (v : Word)
  /-- BANK_VALUE_WRITE (R254). -/
  | bankValueWrite (b : Fin 32) (bank : Fin 2) (reg : Fin 16) (v : Word)
  /-- BANK_WRITE (R255). -/
  | bankWrite (b : Fin 32) (v : Same Word)
  /-- BKLOAD (R257). -/
  | bkload (b : Fin 32) (v : Word)
  /-- BKLOAD_DONE (R257). -/
  | bkloadDone (b : Fin 32) (got : Met (Fin 16))
  /-- TRACE_ARM (R265). -/
  | traceArm (b : Fin 32) (v : Word)
  /-- TRACE_FORCE (R265). -/
  | traceForce (b : Fin 32) (v : Word)
  /-- TRACE_STOP (R265). -/
  | traceStop (b : Fin 32) (v : Word)
  /-- CAM_PORT_ENABLE (R277). -/
  | camPortEnable (n : Fin 8) (v : Word)
  /-- CAM_PORT_READY (R277). -/
  | camPortReady (n : Fin 8)
  /-- CAM_PORT_DISABLE (R277). -/
  | camPortDisable (n : Fin 8) (v : Word)
  /-- DPHY_SKEW_CALIBRATION (R272). -/
  | dphySkewCalibration (n : Fin 8)
  /-- ULTRA_LOW_POWER_STATE (R272). -/
  | ultraLowPowerState (n : Fin 8) (enter : Bool)
  /-- FRAME_START (R274). -/
  | frameStart (h : CsiHdr)
  /-- FRAME_END (R274). -/
  | frameEnd (h : CsiHdr)
  /-- PIXEL_LINE (R283). -/
  | pixelLine (h : CsiHdr) (payload : List Byte) (crc : BitVec 16)
  /-- LINE_START (R274). -/
  | lineStart (h : CsiHdr)
  /-- LINE_END (R274). -/
  | lineEnd (h : CsiHdr)
  /-- GENERIC_SHORT (R274). -/
  | genericShort (h : CsiHdr)
  /-- EMBEDDED_DATA (R274). -/
  | embeddedData (pkt : LongPkt)
  /-- CAM_UNKNOWN (R312). -/
  | camUnknown (pkt : LongPkt)
  /-- CAM_PHY_ERR (R312). -/
  | camPhyErr (n : Fin 8)
  /-- FRAME_TIMEOUT (R312). -/
  | frameTimeout (c : Fin 36)
  /-- LINE_PICK (R284). -/
  | linePick
  /-- RECORD_COMPLETE (R298). -/
  | recordComplete (c : Fin 36)
  /-- ARCHIVE_RECORD_WRITTEN (R305). -/
  | archiveRecordWritten (m : Met (Fin 4))
  /-- ARC_RD_WRITE (R305). -/
  | arcRdWrite (m : Fin 4) (v : Word)
  /-- CTX_ENABLE (R281). -/
  | ctxEnable (c : Fin 36) (v : Word)
  /-- CTX_DISABLE (R281). -/
  | ctxDisable (c : Fin 36) (v : Word)
  /-- CTX_COMMIT (R307). -/
  | ctxCommit (c : Fin 36) (v : Word)
  /-- CCI_WRITE_DONE (R308). -/
  | cciWriteDone (n : Fin 8) (ack : Bool)
  /-- CCI_TIMEOUT (R311). -/
  | cciTimeout (n : Fin 8)
  /-- FEAT_READ (R299). -/
  | featRead (c : Fin 36)
  /-- TABLE_WRITE (R294). -/
  | tableWrite (t : Fin 4) (i : Fin 2048) (v : Word)
  /-- TRIGGER_PULSE_END (R301). -/
  | triggerPulseEnd (m : Fin 4)
  /-- STROBE_REQUEST_RISE (R302). -/
  | strobeRequestRise (m : Fin 4)
  /-- STROBE_REQUEST_FALL (R302). -/
  | strobeRequestFall (m : Fin 4)
  /-- PING (R326). In this row and the next ones `frame` is what arrives: from E0 and E1 the Ethernet frame from its destination
  address on, without FCS (R488), from the other sources the command frame itself. -/
  | ping (src : Fin 7) (frame : List Byte)
  /-- READ_REG (R326). -/
  | readReg (src : Fin 7) (frame : List Byte)
  /-- WRITE_REG (R326). -/
  | writeReg (src : Fin 7) (frame : List Byte)
  /-- READ_MEM (R326). -/
  | readMem (src : Fin 7) (frame : Met (List Byte))
  /-- WRITE_MEM (R326). -/
  | writeMem (src : Fin 7) (frame : Met (List Byte))
  /-- SNAP (R568). -/
  | snap (src : Fin 7) (frame : List Byte)
  /-- BATCH_LOAD (R333). -/
  | batchLoad (src : Fin 7) (frame : List Byte)
  /-- BATCH_LOAD_DONE (R333). -/
  | batchLoadDone (seen : Seen)
  /-- BATCH_ARM (R334). -/
  | batchArm (src : Fin 7) (frame : List Byte)
  /-- BATCH_START (R335). -/
  | batchStart (src : Fin 7) (frame : List Byte)
  /-- BATCH_HOLD (R336). -/
  | batchHold (src : Fin 7) (frame : List Byte)
  /-- BATCH_RESUME (R337). -/
  | batchResume (src : Fin 7) (frame : List Byte)
  /-- BATCH_ABORT (R338). -/
  | batchAbort (src : Fin 7) (frame : List Byte)
  /-- BATCH_STATUS (R326). -/
  | batchStatus (src : Fin 7) (frame : List Byte)
  /-- SAFE_STOP (R340). -/
  | safeStop (src : Fin 7) (frame : List Byte)
  /-- BEAM_RESTART (R341). -/
  | beamRestart (src : Fin 7) (frame : List Byte)
  /-- CANCEL (R327). -/
  | cancel (src : Fin 7) (frame : List Byte)
  /-- JOURNAL_READ (R345). -/
  | journalRead (src : Fin 7) (frame : List Byte)
  /-- SESSION (R322). -/
  | session (src : Fin 7) (frame : List Byte)
  /-- BAD_OPCODE (R326). -/
  | badOpcode (src : Fin 7) (frame : List Byte)
  /-- MGT_CMD_GO (R320). -/
  | mgtCmdGo (v : Word)
  /-- JOURNAL_MIRROR_ENABLE (R344). -/
  | journalMirrorEnable (v : Word)
  /-- JOURNAL_MIRROR_WRITE (R344). -/
  | journalMirrorWrite (seen : Seen)
  /-- AXIS_ENABLE (R349). -/
  | axisEnable (a : Fin 8) (v : Word)
  /-- AXIS_DISABLE (R349). -/
  | axisDisable (a : Fin 8) (v : Word)
  /-- GO (R354). -/
  | go (a : Fin 8)
  /-- RUN_POS (R352). -/
  | runPos (a : Fin 8)
  /-- RUN_NEG (R352). -/
  | runNeg (a : Fin 8)
  /-- STOP_SOFT (R356). -/
  | stopSoft (a : Fin 8)
  /-- STOP_HARD (R356). -/
  | stopHard (a : Fin 8)
  /-- RESUME (R356). -/
  | resume (a : Fin 8)
  /-- HOME (R370). -/
  | home (a : Fin 8)
  /-- PROFILE_TICK (R354). -/
  | profileTick (a : Fin 8) (adcA adcB : BitVec 12)
  /-- AXIS_PWM_PERIOD (R359). -/
  | axisPwmPeriod (a : Fin 8)
  /-- STANDSTILL_CURRENT_STEP (R363). -/
  | standstillCurrentStep (a : Fin 8)
  /-- AX_STALL (R366). -/
  | axStall (a : Fin 8)
  /-- AX_OVERCURRENT (R367). -/
  | axOvercurrent (a : Fin 8)
  /-- LIMIT_INPUT_CHANGE (R368). -/
  | limitInputChange (i : Fin 16) (level : Bool)
  /-- QE_ENABLE (R380). -/
  | qeEnable (q : Fin 8) (raw : BitVec 3) (v : Word)
  /-- QE_COUNT (R374). -/
  | qeCount (q : Fin 8) (a b : Steady Bool) (dt : Nat)
  /-- QE_REJECT (R373). -/
  | qeReject (q : Fin 8) (line : Steady (Fin 3))
  /-- QE_OVERSPEED (R376). -/
  | qeOverspeed (q : Fin 8) (line : Fin 2)
  /-- QE_INDEX (R378). -/
  | qeIndex (q : Fin 8) (level : Steady Bool)
  /-- QE_STUCK (R379). -/
  | qeStuck (q : Fin 8) (line : Fin 3)
  /-- QE_SPEED_TIMEOUT (R377). -/
  | qeSpeedTimeout (q : Fin 8)
  /-- EO_ENABLE (R381). -/
  | eoEnable (e : Fin 4) (v : Word)
  /-- EO_STEP (R382). -/
  | eoStep (e : Fin 4)
  /-- MEM_CHANNEL_ENABLE (R390). -/
  | memChannelEnable (m : Fin 2) (v : Word)
  /-- MEM_CHANNEL_READY (R390). -/
  | memChannelReady (m : Fin 2) (trained : Bool)
  /-- MEM_CHANNEL_DISABLE (R390). -/
  | memChannelDisable (m : Fin 2) (v : Word)
  /-- DRAM_REQUEST (R397). -/
  | dramRequest (r : DramReq)
  /-- DRAM_READ_COMPLETE (R402). -/
  | dramReadComplete (m : Fin 2) (col : Column)
  /-- RET_REVOKE (R399). -/
  | retRevoke (requester : Nat)
  /-- MEM_FREEZE_RELEASE (R404). -/
  | memFreezeRelease (v : Word)
  /-- MIGRATION_BLOCK_COPY (R407). -/
  | migrationBlockCopy (m : Fin 2) (chk : RdCheck)
  /-- REFRESH (R410). -/
  | refresh (m : Fin 2)
  /-- MR4_READ (R410). -/
  | mr4Read (m : Fin 2) (hot : Bool)
  /-- ACG_TABLE_CLEAR (R416). -/
  | acgTableClear (m : Fin 2)
  /-- LOST_CLEAR (R411). -/
  | lostClear (m : Fin 2) (v : Word)
  /-- SELF_REFRESH_ENTER (R412). -/
  | selfRefreshEnter (m : Fin 2) (v : Word)
  /-- SELF_REFRESH_EXIT (R412). -/
  | selfRefreshExit (m : Fin 2) (v : Word)
  /-- INIT (R413). -/
  | init (m : Fin 2) (v : Word)
  /-- INIT_DONE (R413). -/
  | initDone (m : Fin 2)
  /-- RETRAIN (R414). -/
  | retrain (m : Fin 2) (beyond : Bool)
  /-- FULL_TRAINING (R415). -/
  | fullTraining (m : Fin 2) (v : Word)
  /-- TRAIN_DONE (R415). -/
  | trainDone (m : Fin 2) (failed : Bool)
  /-- SCRUB_READ (R418). -/
  | scrubRead (m : Fin 2) (chk : RdCheck)
  /-- DIAG_READ (R419). -/
  | diagRead (v : Word)
  /-- DIAG_READ_DONE (R419). -/
  | diagReadDone (flip : BitVec 512) (chk : BitVec 128)
  /-- DMA_ENABLE (R423). -/
  | dmaEnable (c : Fin 32) (v : Word)
  /-- DMA_DISABLE (R423). -/
  | dmaDisable (c : Fin 32) (v : Word)
  /-- DOORBELL (R429). -/
  | doorbell (c : Fin 32) (v : Word)
  /-- ABORT (R432). -/
  | abort (c : Fin 32) (v : Word)
  /-- DESC_FETCH_DONE (R426). -/
  | descFetchDone (c : Fin 32) (seen : Seen)
  /-- BURST_ISSUE (R435). -/
  | burstIssue
  /-- BURST_COMPLETE (R438). -/
  | burstComplete (c : Fin 32) (seen : Seen)
  /-- ACCESS_RETRY (R438). -/
  | accessRetry (c : Fin 32)
  /-- DESC_COMPLETE (R430). -/
  | descComplete (c : Fin 32)
  /-- CODEC_ENABLE (R440). -/
  | codecEnable (n : Fin 16) (v : Word)
  /-- CODEC_DISABLE (R440). -/
  | codecDisable (n : Fin 16) (v : Word)
  /-- CODEC_RESET (R440). -/
  | codecReset (n : Fin 16) (v : Word)
  /-- DECOMPRESS_BLOCK (R445). -/
  | decompressBlock (n : Fin 16) (seen : Seen)
  /-- COMPRESS_BLOCK_END (R447). -/
  | compressBlockEnd (n : Fin 16) (seen : Seen)
  /-- CODEC_REVOKED (R586). -/
  | codecRevoked (n : Fin 16)
  /-- LANE_ENABLE (R457). -/
  | laneEnable (l : Fin 12) (v : Word)
  /-- LANE_READY (R457). -/
  | laneReady (l : Fin 12)
  /-- LANE_DISABLE (R457). -/
  | laneDisable (l : Fin 12) (v : Word)
  /-- LANE_LOS (R459). -/
  | laneLos (l : Fin 12)
  /-- LANE_LOL (R459). -/
  | laneLol (l : Fin 12)
  /-- BLOCK_LOCK (R460). -/
  | blockLock (l : Fin 12) (headers : List Bool)
  /-- LANE_BLOCK_LOSS (R460). -/
  | laneBlockLoss (l : Fin 12) (headers : List Bool)
  /-- SLIP (R461). -/
  | slip (l : Fin 12) (v : Word)
  /-- EYE_SWEEP (R463). -/
  | eyeSweep (l : Fin 12) (w : BitVec 6) (h : BitVec 10)
  /-- PRBS_SYNC (R464). -/
  | prbsSync (x : LaneBits)
  /-- PRBS_SYNC_LOSS (R464). -/
  | prbsSyncLoss (l : Fin 12) (bits : List Bool) (own : Nat)
  /-- INJ (R465). -/
  | inj (l : Fin 12) (v : Word)
  /-- LINK_ENABLE (R468). -/
  | linkEnable (p : Fin 4) (v : Word)
  /-- LINK_DISABLE (R469). -/
  | linkDisable (p : Fin 4) (v : Word)
  /-- DETECT_DONE (R469). -/
  | detectDone (p : Fin 4)
  /-- TRAIN_ADAPT_DONE (R469). -/
  | trainAdaptDone (p : Fin 4)
  /-- TRAIN (R469). -/
  | train (p : Fin 4) (ready : Bool)
  /-- LOCK_DONE (R469). -/
  | lockDone (p : Fin 4)
  /-- LINK_TRAIN_FAIL (R469). -/
  | linkTrainFail (p : Fin 4)
  /-- CAP (R471). -/
  | cap (p : Fin 4) (crcOk : Bool) (c : CapInfo)
  /-- LINK_DOWN (R470). -/
  | linkDown (p : Fin 4)
  /-- CREDIT (R476). -/
  | credit (p : Fin 4) (t n : Nat)
  /-- CREDIT_DROP (R477). -/
  | creditDrop (p : Fin 4)
  /-- CMD (R475). -/
  | cmd (p : Fin 4) (blocks : List LnkBlock)
  /-- RSP (R474). -/
  | rsp (p : Fin 4) (blocks : List LnkBlock)
  /-- BCAST (R474). -/
  | bcast (p : Fin 4) (blocks : List LnkBlock)
  /-- EVENT (R474). -/
  | event (p : Fin 4) (blocks : List LnkBlock)
  /-- ETH_CMD_FORWARD (R479). -/
  | ethCmdForward (e : Fin 2) (fec : Fec) (frame : List Byte)
  /-- FWD_ENTRY_TIMEOUT (R479). -/
  | fwdEntryTimeout (i : Fin 64)
  /-- KICKOFF (R480). -/
  | kickoff (v : Word)
  /-- KICK_COUNT (R481). -/
  | kickCount (p : Fin 4) (crcOk : Bool) (reply : Bool) (n : Nat)
  /-- KICK_BUDGET_EXPIRY (R481). -/
  | kickBudgetExpiry (p : Fin 4)
  /-- KICK_ASSIGN (R482). -/
  | kickAssign (p : Fin 4) (crcOk : Bool) (base : BitVec 16) (size : Nat)
  /-- ETH_PORT_ENABLE (R487). -/
  | ethPortEnable (e : Fin 2) (v : Word)
  /-- ETH_LINK_UP (R487). -/
  | ethLinkUp (e : PortFec)
  /-- ETH_LINK_DOWN (R487). -/
  | ethLinkDown (e : PortFec)
  /-- ARP_REQUEST (R488). -/
  | arpRequest (e : Fin 2) (frame : List Byte)
  /-- ICMP_ECHO_REQUEST (R488). -/
  | icmpEchoRequest (e : Fin 2) (frame : List Byte)
  /-- NEIGHBOUR_SOLICITATION (R488). -/
  | neighbourSolicitation (e : Fin 2) (frame : List Byte)
  /-- PTP_FRAME (R510). -/
  | ptpFrame (e : Fin 2) (frame : List Byte) (fec : Int)
  /-- ETH_FRAME_DROP (R488). -/
  | ethFrameDrop (e : PortFec) (badFcs : Bool)
  /-- PTP_SEND (R512). -/
  | ptpSend (e : Fin 2) (v : Word)
  /-- PTP_DEPARTURE (R512). -/
  | ptpDeparture (e : Fin 2) (fec : Int)
  /-- TXTS_POP (R513). -/
  | txtsPop (e : Fin 2) (v : Word)
  /-- RXQ_POP (R513). -/
  | rxqPop (e : Fin 2) (v : Word)
  /-- TB_ENABLE (R499). -/
  | tbEnable (n : Fin 4) (v : Word)
  /-- TB_DISABLE (R499). -/
  | tbDisable (n : Fin 4) (v : Word)
  /-- TB_NS_READ (R500). -/
  | tbNsRead (n : Fin 4)
  /-- TIM_CAP (R500). -/
  | timCap (v : Word)
  /-- SET (R501). -/
  | set (n : Fin 4) (v : Word)
  /-- ADJ (R501). -/
  | adj (n : Fin 4) (v : Word)
  /-- MEAS_SAMPLE (R504). -/
  | measSample (n : Fin 4) (v : Word)
  /-- SERVO_SAMPLE (R504). -/
  | servoSample (n : Same (Fin 4))
  /-- BASE_OFFSET_CAPTURE (R503). -/
  | baseOffsetCapture (n : Fin 4)
  /-- TB_HOLDOVER (R506). -/
  | tbHoldover (n : Fin 4)
  /-- TIME_EXCHANGE (R507). -/
  | timeExchange
  /-- TIME (R507). -/
  | time (p : Fin 4) (crcOk : Bool) (response : Bool) (t2 t3 : Int)
  /-- LINK_TIME_BAD (R508). -/
  | linkTimeBad
  /-- SINK_ENABLE (R521). -/
  | sinkEnable (n : Fin 12) (v : Word)
  /-- SINK_DISABLE (R521). -/
  | sinkDisable (n : Fin 12) (v : Word)
  /-- COMMON_PERIOD_START (R520). -/
  | commonPeriodStart
  /-- SINK_PERIOD_START (R518). -/
  | sinkPeriodStart (n : Fin 12)
  /-- SINK_ON_TIME_END (R518). -/
  | sinkOnTimeEnd (n : Fin 12)
  /-- STROBE_LONG (R523). -/
  | strobeLong (n : Fin 12)
  /-- LS_TSD (R524). -/
  | lsTsd
  /-- TSD_RELEASE (R525). -/
  | tsdRelease (v : Word)
  /-- LW_ENABLE (R531). -/
  | lwEnable (n : Fin 2) (v : Word)
  /-- LW_DISABLE (R531). -/
  | lwDisable (n : Fin 2) (v : Word)
  /-- LW_GO (R530). -/
  | lwGo (n : Fin 2) (v : Word)
  /-- LW_SYNC (R530). -/
  | lwSync (n : Fin 2) (v : Word)
  /-- LGT_LW_SYNC (R530). -/
  | lgtLwSync (v : Word)
  /-- LW_DONE (R530). -/
  | lwDone (n : Fin 2)
  /-- BOOT_DONE (R538). -/
  | bootDone
  /-- IMAGE (R540). -/
  | image (v : Word)
  /-- CONFIRM (R540). -/
  | confirm (v : Word)
  /-- KEY (R540). -/
  | key (v : Word)
  /-- UPDATE_DONE (R540). -/
  | updateDone (seen : Seen) (flashOk : Bool)
  /-- WDT_KICK (R541). -/
  | wdtKick (v : Word)
  /-- WDT_EXPIRE (R541). -/
  | wdtExpire
  /-- EVENT_RECORD (R545). -/
  | eventRecord
  /-- EVR_D0_READ (R547). -/
  | evrD0Read
  /-- THERMAL_SAMPLE (R551). -/
  | thermalSample (t : List Int)
  /-- TS_BROKEN (R550). -/
  | tsBroken (i : Fin 12)
  /-- TS_BROKEN_CLEAR (R550). -/
  | tsBrokenClear (v : Word) (healthy : BitVec 12)
  /-- THROTTLE_GATE (R553). -/
  | throttleGate
  /-- VM_SAMPLE (R554). -/
  | vmSample (mv : List (BitVec 16))
  /-- PROOF (R555). -/
  | proof (v : Word)
  /-- CAL_ABORT (R555). -/
  | calAbort (v : Word)
  /-- PROOF_ITEM_DONE (R556). -/
  | proofItemDone (seen : Seen) (vals : List Int)
  /-- TAKE (R568). -/
  | take (v : Word)
  /-- FABRIC_TIMEOUT (R564). -/
  | fabricTimeout (off : BitVec 24) (write : Bool)
  /-- SPI_TARGET_TRANSACTION (R616). -/
  | spiTargetTransaction (mosi : List Byte) (readWords : Nat)
  /-- REGISTER_WRITE (R570). -/
  | registerWrite (off : BitVec 24) (v : Same Word)
  /-- GLB_SWRST (R580). -/
  | glbSwrst (v : Word)
  /-- SOFTWARE_RESET (R580). -/
  | softwareReset
  /-- PORST_N (R579). -/
  | porstN (bootSel : BitVec 2) (chainRoot : Bool)
  /-- SYSRST_N (R580). -/
  | sysrstN
  /-- SUPPLY_DETECTOR_RESET (R603). -/
  | supplyDetectorReset
  /-- CLOCK_LOSS (R610). -/
  | clockLoss
  /-- REFCLK_156_LOSS (R610). -/
  | refclk156Loss
  /-- TST_UNLOCK (R587). -/
  | tstUnlock (v : Word)
  /-- PD_SAMPLE (R98). -/
  | pdSample (n : Fin 64) (vin err : Int)
  /-- ILK_CLOSE (R110). -/
  | ilkClose (i : Fin 4)
  /-- COIL_DRIVE_END (R361). -/
  | coilDriveEnd (a : Fin 8) (coilB : Bool)
  /-- LANE_SIGNAL_RETURN (R459). -/
  | laneSignalReturn (l : Fin 12)
  /-- LANE_CDR_LOCK (R459). -/
  | laneCdrLock (l : Fin 12)
  /-- IDLE (R470). -/
  | idle (p : Fin 4)
  /-- ALIGN (R467). -/
  | align (l : Fin 12) (x : AlignAt)
  /-- TAKE_BYTES_WRITTEN (R179). -/
  | takeBytesWritten (b : Fin 32)
  /-- ILLEGAL_INSTRUCTION (R133). -/
  | illegalInstruction (b : Fin 32) (n : Fin 5)
  /-- SINK_ARRAY_HOT (R525). -/
  | sinkArrayHot (hot : Bool)
  /-- INTERNAL_PLL_LOCK (R582). -/
  | internalPllLock
  /-- REFCLK_25_RESTORED (R610). -/
  | refclk25Restored
  /-- SUPPLY_DETECTOR_RELEASE (R603). -/
  | supplyDetectorRelease
  /-- TEST_ACCESS_PORT (R618). -/
  | testAccessPort (op : TapOp)
  deriving DecidableEq, Repr, Inhabited

end Sys2Proof
end

