-- ==== Sys2Proof/Config.lean ====
section
/-! DEFINITION. What one part fixes and what the spec leaves open: constants without a body stand for values of which the
spec gives none, or for functions that stand outside the spec; the rest are figures of the spec. -/

namespace Sys2Proof

/-- Is the part a KG3248-EB? (R1; the part's grade is not the model's to choose: assumption 2.) -/
opaque Config.gradeE : Bool

/-- By how much a computed point of a moving beam differs from the exact motion: 0, 1 or 2 stands for -1, 0 or +1 um (R128;
assumption 6). -/
opaque Config.pointDev : Nat → Fin 3

/-- Does a column command need an activate (R416)? (assumption 14) -/
opaque Config.activates : Nat → Bool

/-- How many blocks the initialisation fill writes between two requests (R413; assumption 14). -/
opaque Config.fillStep : Nat → Nat

/-- The cycles that an engine waited before a fill of its buffer for which no operand gives them (R195; assumption 90). -/
opaque Config.waited : Nat → Fin 4005

/-- The address that LAST_CE and LAST_UE show for a block of a rank that no address maps to (R402; assumption 15). -/
opaque Config.unmappedAddr : Nat → Nat

/-- How many cycles of the last line that a Volley picked fall into the next one (R315; assumption 104). -/
opaque Config.pickLater : Nat → Nat

/-- What the archive write of a picked line meets (R394; assumption 104). -/
opaque Config.pickMeets : Nat → Seen

/-- The value of a pixel of a line that did not arrive, as a neighbour of one that did (R292; assumption 18). -/
opaque Config.missingPixel : Nat → Nat → Nat → Fin 4096

/-- A mean over no pixel (R303; assumption 18). -/
opaque Config.emptyMean : Nat → BitVec 16

/-- The cycles that CLEn_CYC shows for a Volley in which the engine was late (R242; assumption 19). -/
opaque Config.lateCycles : Nat → BitVec 12

/-- The on-time figure of a full step without a non-blanked sample (R364; assumption 20). -/
opaque Config.noSamples : Nat → Fin 1024

/-- Did a transaction meet the ready signal that a perturbation point held low (R589)? (assumption 21) -/
opaque Config.tstMet : Nat → Bool

/-- An offset between two bases that does not fit a signed 48-bit value (R503, R504; assumption 23). -/
opaque Config.wideOffset : Nat → BitVec 48

/-- Is a half of a unit of 2^-16 ns rounded up where R507 halves an odd sum? (assumption 23) -/
opaque Config.halfUp : Nat → Bool

/-- The trims that a lane's continuous adaptation has in use (R462; assumption 25). -/
opaque Config.rxTrims : Nat → BitVec 32

/-- Which of the sensors that share the highest reading SENSOR names (R549, R560; assumption 30). -/
opaque Config.tieSensor : Nat → Nat

/-- The sensors that are not broken when a write of CPT_TS_BROKEN arrives by a path that does not say so (R550; assumption 30). -/
opaque Config.healthy : Nat → BitVec 12

/-- What a slot of the SPI NOR holds after a write, an erase or a read-back that failed (R540; assumption 29). -/
opaque Config.badFlash : Nat → List Byte

/-- The bytes that the SPI NOR holds before R536 bounds them (assumption 116). -/
opaque Config.flashRaw : Nat

/-- The bytes of the state sector that mark the states of slot A and slot B (R536; assumption 116). -/
opaque Config.slotMarks : Nat → Nat → List Byte

/-- How far a CONFIRM had come when a reset ended it: 0 before the slot was marked, n + 1 after n fuse bits (R607; assumption 66). -/
opaque Config.fuseCut : Nat → Nat

/-- Which bits of KEYHASH a KEY had blown when a reset ended it (R607; assumption 66). -/
opaque Config.keyCut : Nat → Nat

/-- When EN of a lamp wire is cleared: 0 in the gap before the frame; then at the end of the bit under way how many bits have left, up
to one frame (R531; assumption 117). -/
opaque Config.lampCut : Nat → Nat

/-- Is a quality figure of Proof that falls between two units rounded up (R556, R558)? (assumption 31) -/
opaque Config.calUp : Nat → Bool

/-- The ratio G of a frame whose channel B sums to 0 and whose channel A does too (R556; assumption 31). -/
opaque Config.zeroRatio : Nat → BitVec 16

/-- RESULT, DETAIL, INDEX and VOLLEY that a duplicate repeats of an entry that the journal does not hold (R323; assumption 32). -/
opaque Config.noEntry : Nat → BitVec 256

/-- Reset value of the microstep tables: T[i] = round(4,095 sin((2i + 1) pi / 1,024)) (R357). -/
def Config.stepTable : List Nat :=
  [13, 38, 63, 88, 113, 138, 163, 188, 213, 239, 264, 289, 314, 339, 364, 389,
   414, 439, 464, 489, 514, 539, 564, 588, 613, 638, 663, 688, 712, 737, 762, 787] ++
  [811, 836, 860, 885, 909, 934, 958, 983, 1007, 1032, 1056, 1080, 1104, 1128, 1153, 1177,
   1201, 1225, 1249, 1273, 1296, 1320, 1344, 1368, 1391, 1415, 1439, 1462, 1485, 1509, 1532, 1555] ++
  [1579, 1602, 1625, 1648, 1671, 1694, 1717, 1739, 1762, 1785, 1807, 1830, 1852, 1875, 1897, 1919,
   1941, 1964, 1986, 2007, 2029, 2051, 2073, 2094, 2116, 2137, 2159, 2180, 2201, 2223, 2244, 2265] ++
  [2285, 2306, 2327, 2348, 2368, 2389, 2409, 2429, 2449, 2470, 2490, 2509, 2529, 2549, 2569, 2588,
   2608, 2627, 2646, 2665, 2684, 2703, 2722, 2741, 2759, 2778, 2796, 2815, 2833, 2851, 2869, 2887] ++
  [2904, 2922, 2940, 2957, 2974, 2992, 3009, 3026, 3043, 3059, 3076, 3093, 3109, 3125, 3141, 3157,
   3173, 3189, 3205, 3221, 3236, 3251, 3267, 3282, 3297, 3311, 3326, 3341, 3355, 3370, 3384, 3398] ++
  [3412, 3426, 3439, 3453, 3466, 3480, 3493, 3506, 3519, 3532, 3544, 3557, 3569, 3581, 3594, 3606,
   3617, 3629, 3641, 3652, 3663, 3675, 3686, 3696, 3707, 3718, 3728, 3739, 3749, 3759, 3769, 3778] ++
  [3788, 3798, 3807, 3816, 3825, 3834, 3843, 3851, 3860, 3868, 3876, 3884, 3892, 3900, 3908, 3915,
   3922, 3929, 3936, 3943, 3950, 3957, 3963, 3969, 3975, 3981, 3987, 3993, 3998, 4004, 4009, 4014] ++
  [4019, 4023, 4028, 4033, 4037, 4041, 4045, 4049, 4053, 4056, 4059, 4063, 4066, 4069, 4071, 4074,
   4076, 4079, 4081, 4083, 4085, 4087, 4088, 4089, 4091, 4092, 4093, 4093, 4094, 4095, 4095, 4095]

end Sys2Proof
end

