-- ==== Sys2Proof/Machine/RegMap.lean ====
section
/-! DEFINITION. The register map of the KG3248: where each register and each of its fields lies, which bits software
writes, which bits a 1 clears, and what the register reads after reset; taken from the register tables of the spec
(R1, R58 to R61, R112, R113, R157 to R159, R198, R199, R236, R237, R268 to R270, R314, R315, R346, R347, R383 to R385,
R420, R421, R453, R454, R490 to R495, R514, R515, R532, R533, R559, R560, R592, R593). A `_NAME` after a register's name is
a field of it. Reserved bits of a register that software can write are stored as written (R13, R16, R566). -/

namespace Sys2Proof.Machine

/-- RO. Part, grade, revision (R1). -/
def GLB_IDENT : Nat := 0x000000
/-- RO. Part number -/
def GLB_IDENT_PART : Fld := ⟨GLB_IDENT, 16, 16⟩
/-- RO. 0x0: KG3248-IB; 0x1: KG3248-EB; other values are not issued -/
def GLB_IDENT_GRADE : Fld := ⟨GLB_IDENT, 12, 4⟩
/-- RO. Silicon revision, upper nibble letter (0xA = A, 0xB = B), lower nibble number -/
def GLB_IDENT_REV : Fld := ⟨GLB_IDENT, 0, 8⟩
/-- RW. Enable, source, relock (R58). -/
def GLB_VOL_CTRL : Nat := 0x000100
/-- RW. Enables the Volley generator (R25, R30) -/
def GLB_VOL_CTRL_EN : Fld := ⟨GLB_VOL_CTRL, 0, 1⟩
/-- RW. 0: TB0; 1: LOCAL (R29) -/
def GLB_VOL_CTRL_SRC : Fld := ⟨GLB_VOL_CTRL, 1, 1⟩
/-- WO. Writing 1 requests relock (R28) -/
def GLB_VOL_CTRL_RELOCK : Fld := ⟨GLB_VOL_CTRL, 2, 1⟩
/-- RO, W1C. State, lock and latched faults (R58). -/
def GLB_VOL_STATUS : Nat := 0x000104
/-- RO. Function state per R18 -/
def GLB_VOL_STATUS_STATE : Fld := ⟨GLB_VOL_STATUS, 0, 3⟩
/-- RO. 1: edges are steered to TB0 -/
def GLB_VOL_STATUS_LOCK : Fld := ⟨GLB_VOL_STATUS, 3, 1⟩
/-- W1C. Lock was lost (R27) -/
def GLB_VOL_STATUS_UNLOCKED : Fld := ⟨GLB_VOL_STATUS, 8, 1⟩
/-- W1C. Edge error exceeded the limit (R57) -/
def GLB_VOL_STATUS_ALIGN : Fld := ⟨GLB_VOL_STATUS, 9, 1⟩
/-- W1C. A dead-ball record was dropped (R45) -/
def GLB_VOL_STATUS_DBLOG_FULL : Fld := ⟨GLB_VOL_STATUS, 10, 1⟩
/-- RO. Volley number [31:0] (R58). -/
def GLB_VOL_NUM_LO : Nat := 0x000108
/-- RO. Volley number [63:32] (R58). -/
def GLB_VOL_NUM_HI : Nat := 0x00010C
/-- RO. Edge error e of the last edge (R58). -/
def GLB_VOL_EDGE_ERR : Nat := 0x000110
/-- RO. Signed edge error e, two's complement, in units of 1/256 ns -/
def GLB_VOL_EDGE_ERR_E : Fld := ⟨GLB_VOL_EDGE_ERR, 0, 32⟩
/-- RW. Alignment limit (R58). -/
def GLB_VOL_ALIGN_LIM : Nat := 0x000114
/-- RW. Alignment limit in ns, 1 to 65,535; 0 acts as 1 -/
def GLB_VOL_ALIGN_LIM_LIMIT : Fld := ⟨GLB_VOL_ALIGN_LIM, 0, 16⟩
/-- RW. Dead-ball and late-CLE limits (R58). -/
def GLB_VOL_LIMITS : Nat := 0x000118
/-- RW. Consecutive dead-ball limit; 0 disables (R43) -/
def GLB_VOL_LIMITS_DB_LIMIT : Fld := ⟨GLB_VOL_LIMITS, 0, 8⟩
/-- RW. Consecutive late-CLE limit; 0 disables (R50) -/
def GLB_VOL_LIMITS_CLE_LIMIT : Fld := ⟨GLB_VOL_LIMITS, 8, 8⟩
/-- RO. Schedule queue occupancy (R58). -/
def GLB_VOL_SCHED : Nat := 0x00011C
/-- RO. Timed commands in the queue, 0 to 64 -/
def GLB_VOL_SCHED_USED : Fld := ⟨GLB_VOL_SCHED, 0, 7⟩
/-- RO. Highest USED since reset; never falls -/
def GLB_VOL_SCHED_PEAK : Fld := ⟨GLB_VOL_SCHED, 8, 7⟩
/-- RW. Dead-ball log read index (R58). -/
def GLB_DBLOG_RD : Nat := 0x000130
/-- RW. Log index, 0 to 511 -/
def GLB_DBLOG_RD_INDEX : Fld := ⟨GLB_DBLOG_RD, 0, 9⟩
/-- RO. Dead-ball log write index (R58). -/
def GLB_DBLOG_WR : Nat := 0x000134
/-- RO. Log index, 0 to 511 -/
def GLB_DBLOG_WR_INDEX : Fld := ⟨GLB_DBLOG_WR, 0, 9⟩
/-- RW. Dropped dead-ball records, saturating (R58). -/
def GLB_DBLOG_DROP : Nat := 0x000138
/-- SN. Snapshot of Volley number [31:0] (R58). -/
def GLB_VOL_NUM_SN_LO : Nat := 0x000140
/-- SN. Snapshot of Volley number [63:32] (R58). -/
def GLB_VOL_NUM_SN_HI : Nat := 0x000144
/-- RW. Dead balls of beam n, saturating (R58). -/
def SCN_DB_CNT (n : Nat) : Nat := 0x0C0080 + n * 0x2000
/-- RW. Volleys of slip of beam n, saturating (R58). -/
def SCN_SLIP (n : Nat) : Nat := 0x0C0084 + n * 0x2000
/-- RO, W1C. Consecutive dead balls and limit latch (R58). -/
def SCN_DB_RUN (n : Nat) : Nat := 0x0C0088 + n * 0x2000
/-- RO. Consecutive dead balls, saturating at 0xFFFF -/
def SCN_DB_RUN_RUN (n : Nat) : Fld := ⟨(SCN_DB_RUN n), 0, 16⟩
/-- W1C. Beam stopped by DB_LIMIT -/
def SCN_DB_RUN_LIMIT_HIT (n : Nat) : Fld := ⟨(SCN_DB_RUN n), 16, 1⟩
/-- RW. Late Volleys of CLE n, saturating (R58). -/
def CLE_LATE_CNT (n : Nat) : Nat := 0x100080 + n * 0x1000
/-- RO, W1C. Late flag, consecutive count and limit latch (R58). -/
def CLE_LATE (n : Nat) : Nat := 0x100084 + n * 0x1000
/-- RO. Consecutive late Volleys, saturating at 0xFFFF -/
def CLE_LATE_RUN (n : Nat) : Fld := ⟨(CLE_LATE n), 0, 16⟩
/-- W1C. At least one late Volley -/
def CLE_LATE_LATE (n : Nat) : Fld := ⟨(CLE_LATE n), 16, 1⟩
/-- W1C. Beams stopped by CLE_LIMIT -/
def CLE_LATE_LIMIT_HIT (n : Nat) : Fld := ⟨(CLE_LATE n), 17, 1⟩
/-- RW. Enable, mode, head stop (R112). -/
def BIO_CTRL (n : Nat) : Nat := 0x110000 + n * 0x400
/-- RW. Enables the channel (R87) -/
def BIO_CTRL_EN (n : Nat) : Fld := ⟨(BIO_CTRL n), 0, 1⟩
/-- RW. 0: XY2-100 compatible; 1: XY-HD (R74) -/
def BIO_CTRL_MODE (n : Nat) : Fld := ⟨(BIO_CTRL n), 1, 1⟩
/-- RW. Head fault or loss stops the beam (R86) -/
def BIO_CTRL_HEAD_STOP (n : Nat) : Fld := ⟨(BIO_CTRL n), 2, 1⟩
/-- RO, W1C. State and latched faults (R112). -/
def BIO_STATUS (n : Nat) : Nat := 0x110004 + n * 0x400
/-- RO. Function state per R18 -/
def BIO_STATUS_STATE (n : Nat) : Fld := ⟨(BIO_STATUS n), 0, 3⟩
/-- RO. Safe stop in progress or complete -/
def BIO_STATUS_SAFE (n : Nat) : Fld := ⟨(BIO_STATUS n), 3, 1⟩
/-- RO. Park position reached -/
def BIO_STATUS_PARKED (n : Nat) : Fld := ⟨(BIO_STATUS n), 4, 1⟩
/-- RO. Actual positions valid (R83) -/
def BIO_STATUS_ACT_VALID (n : Nat) : Fld := ⟨(BIO_STATUS n), 5, 1⟩
/-- RO. Filtered LI_RDYn, 1 = asserted -/
def BIO_STATUS_RDY_LVL (n : Nat) : Fld := ⟨(BIO_STATUS n), 6, 1⟩
/-- RO. Filtered LI_ALMn, 1 = asserted -/
def BIO_STATUS_ALM_LVL (n : Nat) : Fld := ⟨(BIO_STATUS n), 7, 1⟩
/-- W1C. R84 -/
def BIO_STATUS_HEAD_FAULT (n : Nat) : Fld := ⟨(BIO_STATUS n), 8, 1⟩
/-- W1C. R85 -/
def BIO_STATUS_HEAD_LOST (n : Nat) : Fld := ⟨(BIO_STATUS n), 9, 1⟩
/-- W1C. R71 -/
def BIO_STATUS_FIELD_CLIP (n : Nat) : Fld := ⟨(BIO_STATUS n), 10, 1⟩
/-- W1C. R96 -/
def BIO_STATUS_LASER_ALM (n : Nat) : Fld := ⟨(BIO_STATUS n), 11, 1⟩
/-- W1C. R96 -/
def BIO_STATUS_LASER_NRDY (n : Nat) : Fld := ⟨(BIO_STATUS n), 12, 1⟩
/-- W1C. R103 -/
def BIO_STATUS_BR_TRIP (n : Nat) : Fld := ⟨(BIO_STATUS n), 13, 1⟩
/-- W1C. R73 -/
def BIO_STATUS_CFG_REFUSED (n : Nat) : Fld := ⟨(BIO_STATUS n), 14, 1⟩
/-- RW, RO. Port offset, receive phase (R112). -/
def BIO_SP_CFG (n : Nat) : Nat := 0x110008 + n * 0x400
/-- RW. Port offset in 25 ns steps, 0 to 39 (R75) -/
def BIO_SP_CFG_OFFSET (n : Nat) : Fld := ⟨(BIO_SP_CFG n), 0, 6⟩
/-- RO. Return sample phase, quarter bits (R82) -/
def BIO_SP_CFG_RX_PHASE (n : Nat) : Fld := ⟨(BIO_SP_CFG n), 8, 2⟩
/-- RW. Head origin X, signed µm (R112). -/
def BIO_HEAD_X0 (n : Nat) : Nat := 0x11000C + n * 0x400
/-- RW. Head origin Y, signed µm (R112). -/
def BIO_HEAD_Y0 (n : Nat) : Nat := 0x110010 + n * 0x400
/-- RW. Node pitch P (R112). -/
def BIO_GRID_PITCH (n : Nat) : Nat := 0x110014 + n * 0x400
/-- RW. P in µm, 1 to 65,535; 0 acts as 1 -/
def BIO_GRID_PITCH_PITCH (n : Nat) : Fld := ⟨(BIO_GRID_PITCH n), 0, 16⟩
/-- RW. Z gain, signed Q16.16 codes per µm (R112). -/
def BIO_ZGAIN (n : Nat) : Nat := 0x110018 + n * 0x400
/-- RW. Grid node index (R112). -/
def BIO_GRID_ADDR (n : Nat) : Nat := 0x11001C + n * 0x400
/-- RW. Node index (R72) -/
def BIO_GRID_ADDR_ADDR (n : Nat) : Fld := ⟨(BIO_GRID_ADDR n), 0, 13⟩
/-- RW. Node bits [31:0] (R112). -/
def BIO_GRID_DATA_LO (n : Nat) : Nat := 0x110020 + n * 0x400
/-- RW. Node bits [63:32]; write stores the node (R112). -/
def BIO_GRID_DATA_HI (n : Nat) : Nat := 0x110024 + n * 0x400
/-- RW. Gate delays, input filter, alarm polarity (R112). -/
def BIO_LASER_CFG (n : Nat) : Nat := 0x110028 + n * 0x400
/-- RW. 25 ns steps, 0 to 39 (R94) -/
def BIO_LASER_CFG_GATE_ON_DLY (n : Nat) : Fld := ⟨(BIO_LASER_CFG n), 0, 6⟩
/-- RW. 25 ns steps, 0 to 39 (R94) -/
def BIO_LASER_CFG_GATE_OFF_DLY (n : Nat) : Fld := ⟨(BIO_LASER_CFG n), 8, 6⟩
/-- RW. Input filter samples (R95) -/
def BIO_LASER_CFG_FILT (n : Nat) : Fld := ⟨(BIO_LASER_CFG n), 16, 8⟩
/-- RW. Alarm polarity (R95) -/
def BIO_LASER_CFG_ALM_POL (n : Nat) : Fld := ⟨(BIO_LASER_CFG n), 24, 1⟩
/-- RW. DAC code for G = 0 points (R112). -/
def BIO_IDLE_CODE (n : Nat) : Nat := 0x11002C + n * 0x400
/-- RW. R92 -/
def BIO_IDLE_CODE_CODE (n : Nat) : Fld := ⟨(BIO_IDLE_CODE n), 0, 16⟩
/-- RW. Highest DAC code (R112). -/
def BIO_PWR_LIM (n : Nat) : Nat := 0x110030 + n * 0x400
/-- RW. R90 -/
def BIO_PWR_LIM_LIM (n : Nat) : Fld := ⟨(BIO_PWR_LIM n), 0, 16⟩
/-- RW. Park X code (R112). -/
def BIO_PARK_X (n : Nat) : Nat := 0x110034 + n * 0x400
/-- RW. Signed park code -/
def BIO_PARK_X_CODE (n : Nat) : Fld := ⟨(BIO_PARK_X n), 0, 24⟩
/-- RW. Park Y code (R112). -/
def BIO_PARK_Y (n : Nat) : Nat := 0x110038 + n * 0x400
/-- RW. Signed park code -/
def BIO_PARK_Y_CODE (n : Nat) : Fld := ⟨(BIO_PARK_Y n), 0, 24⟩
/-- RW. Park Z code (R112). -/
def BIO_PARK_Z (n : Nat) : Nat := 0x11003C + n * 0x400
/-- RW. Signed park code -/
def BIO_PARK_Z_CODE (n : Nat) : Fld := ⟨(BIO_PARK_Z n), 0, 24⟩
/-- RW. Park step per slot (R112). -/
def BIO_PARK_STEP (n : Nat) : Nat := 0x110040 + n * 0x400
/-- RW. 1 to 0xFF_FFFF; 0 acts as 1 -/
def BIO_PARK_STEP_STEP (n : Nat) : Fld := ⟨(BIO_PARK_STEP n), 0, 24⟩
/-- RW. Head status mask (R112). -/
def BIO_HEAD_STAT_MASK (n : Nat) : Nat := 0x110044 + n * 0x400
/-- RW. R84 -/
def BIO_HEAD_STAT_MASK_BITS (n : Nat) : Fld := ⟨(BIO_HEAD_STAT_MASK n), 0, 24⟩
/-- RW. Expected head status (R112). -/
def BIO_HEAD_STAT_EXP (n : Nat) : Nat := 0x110048 + n * 0x400
/-- RW. R84 -/
def BIO_HEAD_STAT_EXP_BITS (n : Nat) : Fld := ⟨(BIO_HEAD_STAT_EXP n), 0, 24⟩
/-- RO. Last head status word (R112). -/
def BIO_HEAD_STAT (n : Nat) : Nat := 0x11004C + n * 0x400
/-- RO. Actual X code, sign-extended (R112). -/
def BIO_ACT_X (n : Nat) : Nat := 0x110050 + n * 0x400
/-- RO. Actual Y code, sign-extended (R112). -/
def BIO_ACT_Y (n : Nat) : Nat := 0x110054 + n * 0x400
/-- RO. Actual Z code, sign-extended (R112). -/
def BIO_ACT_Z (n : Nat) : Nat := 0x110058 + n * 0x400
/-- RO. Correction M now active (R112). -/
def BIO_CORR (n : Nat) : Nat := 0x11005C + n * 0x400
/-- RO. R89 -/
def BIO_CORR_M (n : Nat) : Fld := ⟨(BIO_CORR n), 0, 16⟩
/-- RW. Rejected return words, saturating (R112). -/
def BIO_STAT_ERR_CNT (n : Nat) : Nat := 0x110060 + n * 0x400
/-- RW. Clipped points, saturating (R112). -/
def BIO_CLIP_CNT (n : Nat) : Nat := 0x110064 + n * 0x400
/-- RW. Power clips, saturating (R112). -/
def BIO_PWR_CLIP_CNT (n : Nat) : Nat := 0x110068 + n * 0x400
/-- RO. Cause of the last safe stop (R104) (R112). -/
def BIO_SS_CAUSE (n : Nat) : Nat := 0x11006C + n * 0x400
/-- RO. R104; 0 means none since reset -/
def BIO_SS_CAUSE_CAUSE (n : Nat) : Fld := ⟨(BIO_SS_CAUSE n), 0, 4⟩
/-- RO. Volley of the last safe stop [31:0] (R112). -/
def BIO_SS_VOLLEY_LO (n : Nat) : Nat := 0x110070 + n * 0x400
/-- RO. Volley of the last safe stop [63:32] (R112). -/
def BIO_SS_VOLLEY_HI (n : Nat) : Nat := 0x110074 + n * 0x400
/-- RW. Back-reflection trip (R112). -/
def BIO_BR_CFG (n : Nat) : Nat := 0x110078 + n * 0x400
/-- RW. Trip level in ADC codes -/
def BIO_BR_CFG_LIM (n : Nat) : Fld := ⟨(BIO_BR_CFG n), 0, 12⟩
/-- RW. Consecutive samples; 0 disables (R103) -/
def BIO_BR_CFG_COUNT (n : Nat) : Fld := ⟨(BIO_BR_CFG n), 16, 8⟩
/-- RW. Enable, gain, offset trim (R112). -/
def BIO_PD_CFG (n : Nat) : Nat := 0x118000 + n * 0x40
/-- RW. Enables the channel (R102) -/
def BIO_PD_CFG_EN (n : Nat) : Fld := ⟨(BIO_PD_CFG n), 0, 1⟩
/-- RW. R97 -/
def BIO_PD_CFG_GAIN (n : Nat) : Fld := ⟨(BIO_PD_CFG n), 1, 2⟩
/-- RW. Signed trim (R97) -/
def BIO_PD_CFG_OFFSET (n : Nat) : Fld := ⟨(BIO_PD_CFG n), 4, 10⟩
/-- RO, W1C. State, saturation latch (R112). -/
def BIO_PD_STATUS (n : Nat) : Nat := 0x118004 + n * 0x40
/-- RO. Function state per R18 -/
def BIO_PD_STATUS_STATE (n : Nat) : Fld := ⟨(BIO_PD_STATUS n), 0, 3⟩
/-- W1C. R101 -/
def BIO_PD_STATUS_SAT (n : Nat) : Fld := ⟨(BIO_PD_STATUS n), 3, 1⟩
/-- RO. Last Volley record (R100) (R112). -/
def BIO_PD_VAL (n : Nat) : Nat := 0x118008 + n * 0x40
/-- RO. Volley value (R99) -/
def BIO_PD_VAL_VAL (n : Nat) : Fld := ⟨(BIO_PD_VAL n), 0, 16⟩
/-- RO. Samples, 0 to 100, taken while the gate that R91 decides for beam b's slot in force at the sample instant was high; the delays of R94 play no part -/
def BIO_PD_VAL_GATED (n : Nat) : Fld := ⟨(BIO_PD_VAL n), 16, 7⟩
/-- RO. At least one sample was 4,095 -/
def BIO_PD_VAL_SAT (n : Nat) : Fld := ⟨(BIO_PD_VAL n), 24, 1⟩
/-- RO. Invalid: dead-ball Volley (R44), the beam was in safe stop, or the channel was not READY for the whole Volley -/
def BIO_PD_VAL_INV (n : Nat) : Fld := ⟨(BIO_PD_VAL n), 25, 1⟩
/-- RO. Latest raw sample, [11:0] (R112). -/
def BIO_PD_SAMPLE (n : Nat) : Nat := 0x11800C + n * 0x40
/-- RW. Saturated Volleys, saturating (R112). -/
def BIO_PD_SAT_CNT (n : Nat) : Nat := 0x118010 + n * 0x40
/-- RO, W1C. Input levels, openings, force (R112). -/
def SAF_ILK_STATUS : Nat := 0x180000
/-- RO. 1 = closed, one bit per input -/
def SAF_ILK_STATUS_LEVEL : Fld := ⟨SAF_ILK_STATUS, 0, 4⟩
/-- W1C. R110 -/
def SAF_ILK_STATUS_OPENED : Fld := ⟨SAF_ILK_STATUS, 8, 4⟩
/-- RO. Interlock force active (R109); 1 from every device reset (R581) until the rearm of R110 -/
def SAF_ILK_STATUS_FORCE : Fld := ⟨SAF_ILK_STATUS, 12, 1⟩
/-- WO. Rearm key (R112). -/
def SAF_ILK_REARM : Nat := 0x180004
/-- RW. Openings of ILKn, saturating (R112). -/
def SAF_ILK_CNT (n : Nat) : Nat := 0x180008 + n * 0x4
/-- RW. Enable (R157). -/
def SCN_CTRL (n : Nat) : Nat := 0x0C0000 + n * 0x2000
/-- RW. Enables the engine function per R18 -/
def SCN_CTRL_EN (n : Nat) : Fld := ⟨(SCN_CTRL n), 0, 1⟩
/-- RO, W1C. State, run, wait reason, latched flags (R157). -/
def SCN_STATUS (n : Nat) : Nat := 0x0C0004 + n * 0x2000
/-- RO. Function state per R18 -/
def SCN_STATUS_STATE (n : Nat) : Fld := ⟨(SCN_STATUS n), 0, 3⟩
/-- RO. 1: the engine is running -/
def SCN_STATUS_RUN (n : Nat) : Fld := ⟨(SCN_STATUS n), 3, 1⟩
/-- RO. What the engine waits for; see the table below -/
def SCN_STATUS_WAIT (n : Nat) : Fld := ⟨(SCN_STATUS n), 4, 4⟩
/-- W1C. R123 -/
def SCN_STATUS_CFG_REFUSED (n : Nat) : Fld := ⟨(SCN_STATUS n), 9, 1⟩
/-- W1C. R150 -/
def SCN_STATUS_SKY_EXT (n : Nat) : Fld := ⟨(SCN_STATUS n), 10, 1⟩
/-- W1C. Barrier timeout (R185) -/
def SCN_STATUS_SYNC_TO (n : Nat) : Fld := ⟨(SCN_STATUS n), 8, 1⟩
/-- W1C. R191 -/
def SCN_STATUS_TRAPPED (n : Nat) : Fld := ⟨(SCN_STATUS n), 11, 1⟩
/-- RO. Halted by HALT since the last start -/
def SCN_STATUS_HALTED (n : Nat) : Fld := ⟨(SCN_STATUS n), 12, 1⟩
/-- RW. Program counter (R117) (R157). -/
def SCN_PC (n : Nat) : Nat := 0x0C0008 + n * 0x2000
/-- RW. Bits [2:0] read 0 (R117) -/
def SCN_PC_PC (n : Nat) : Fld := ⟨(SCN_PC n), 0, 16⟩
/-- RW. Z, N, C, B (R157). -/
def SCN_FLAGS (n : Nat) : Nat := 0x0C000C + n * 0x2000
/-- RW. Zero flag -/
def SCN_FLAGS_Z (n : Nat) : Fld := ⟨(SCN_FLAGS n), 0, 1⟩
/-- RW. Negative flag -/
def SCN_FLAGS_N (n : Nat) : Fld := ⟨(SCN_FLAGS n), 1, 1⟩
/-- RW. Carry flag -/
def SCN_FLAGS_C (n : Nat) : Fld := ⟨(SCN_FLAGS n), 2, 1⟩
/-- RW. Blocked flag (R115) -/
def SCN_FLAGS_B (n : Nat) : Fld := ⟨(SCN_FLAGS n), 3, 1⟩
/-- RW. Program position X, signed µm (R157). -/
def SCN_PX (n : Nat) : Nat := 0x0C0010 + n * 0x2000
/-- RW. Program position Y, signed µm (R157). -/
def SCN_PY (n : Nat) : Nat := 0x0C0014 + n * 0x2000
/-- RW. Program position Z, signed µm (R157). -/
def SCN_PZ (n : Nat) : Nat := 0x0C0018 + n * 0x2000
/-- RW. Power (R157). -/
def SCN_PW (n : Nat) : Nat := 0x0C001C + n * 0x2000
/-- RW. Power -/
def SCN_PW_PW (n : Nat) : Fld := ⟨(SCN_PW n), 0, 16⟩
/-- RW. Marking speed, µm/s (R157). -/
def SCN_SP (n : Nat) : Nat := 0x0C0020 + n * 0x2000
/-- RW. 1 to 16,777,215; 0 acts as 1 -/
def SCN_SP_SP (n : Nat) : Fld := ⟨(SCN_SP n), 0, 24⟩
/-- RW. Jump speed limit, µm/s (R157). -/
def SCN_JUMP_V (n : Nat) : Nat := 0x0C0024 + n * 0x2000
/-- RW. 1 to 40,000,000; 0 acts as 1; a write above 40,000,000 stores 40,000,000 -/
def SCN_JUMP_V_V (n : Nat) : Fld := ⟨(SCN_JUMP_V n), 0, 32⟩
/-- RW. Jump acceleration limit, mm/s² (R157). -/
def SCN_JUMP_A (n : Nat) : Nat := 0x0C0028 + n * 0x2000
/-- RW. 1 to 0xFFFF_FFFF; 0 acts as 1 -/
def SCN_JUMP_A_A (n : Nat) : Fld := ⟨(SCN_JUMP_A n), 0, 32⟩
/-- RW. Jump jerk limit, m/s³ (R157). -/
def SCN_JUMP_J (n : Nat) : Nat := 0x0C002C + n * 0x2000
/-- RW. 1 to 0xFFFF_FFFF; 0 acts as 1 -/
def SCN_JUMP_J_J (n : Nat) : Fld := ⟨(SCN_JUMP_J n), 0, 32⟩
/-- RW. Skywriting acceleration limit, mm/s² (R157). -/
def SCN_SKY_A (n : Nat) : Nat := 0x0C0030 + n * 0x2000
/-- RW. 1 to 0xFFFF_FFFF; 0 acts as 1 -/
def SCN_SKY_A_A (n : Nat) : Fld := ⟨(SCN_SKY_A n), 0, 32⟩
/-- RW. Skywriting jerk limit, m/s³ (R157). -/
def SCN_SKY_J (n : Nat) : Nat := 0x0C0034 + n * 0x2000
/-- RW. 1 to 0xFFFF_FFFF; 0 acts as 1 -/
def SCN_SKY_J_J (n : Nat) : Fld := ⟨(SCN_SKY_J n), 0, 32⟩
/-- RO. Present bits, pages 0 to 31 (R157). -/
def SCN_PAGE_LO (n : Nat) : Nat := 0x0C0038 + n * 0x2000
/-- RO. Present bits, pages 32 to 63 (R157). -/
def SCN_PAGE_HI (n : Nat) : Nat := 0x0C003C + n * 0x2000
/-- WO. Set present bits (R118) (R157). -/
def SCN_PAGE_SET (n : Nat) : Nat := 0x0C0040 + n * 0x2000
/-- WO. First page -/
def SCN_PAGE_SET_FIRST (n : Nat) : Fld := ⟨(SCN_PAGE_SET n), 0, 6⟩
/-- WO. Number of pages, 1 to 64; 0 acts as 1 -/
def SCN_PAGE_SET_COUNT (n : Nat) : Fld := ⟨(SCN_PAGE_SET n), 8, 7⟩
/-- WO. Clear present bits (R118) (R157). -/
def SCN_PAGE_CLR (n : Nat) : Nat := 0x0C0044 + n * 0x2000
/-- WO. First page -/
def SCN_PAGE_CLR_FIRST (n : Nat) : Fld := ⟨(SCN_PAGE_CLR n), 0, 6⟩
/-- WO. Number of pages, 1 to 64; 0 acts as 1 -/
def SCN_PAGE_CLR_COUNT (n : Nat) : Fld := ⟨(SCN_PAGE_CLR n), 8, 7⟩
/-- RW. Points placed [31:0] (R157). -/
def SCN_PT_CNT_LO (n : Nat) : Nat := 0x0C00C0 + n * 0x2000
/-- RW. Points placed [63:32] (R157). -/
def SCN_PT_CNT_HI (n : Nat) : Nat := 0x0C00C4 + n * 0x2000
/-- RW. Gate-high points placed [31:0] (R157). -/
def SCN_ON_CNT_LO (n : Nat) : Nat := 0x0C00C8 + n * 0x2000
/-- RW. Gate-high points placed [63:32] (R157). -/
def SCN_ON_CNT_HI (n : Nat) : Nat := 0x0C00CC + n * 0x2000
/-- SN. Snapshot of points placed [31:0] (R157). -/
def SCN_PT_CNT_SN_LO (n : Nat) : Nat := 0x0C00D0 + n * 0x2000
/-- SN. Snapshot of points placed [63:32] (R157). -/
def SCN_PT_CNT_SN_HI (n : Nat) : Nat := 0x0C00D4 + n * 0x2000
/-- SN. Snapshot of gate-high points [31:0] (R157). -/
def SCN_ON_CNT_SN_LO (n : Nat) : Nat := 0x0C00D8 + n * 0x2000
/-- SN. Snapshot of gate-high points [63:32] (R157). -/
def SCN_ON_CNT_SN_HI (n : Nat) : Nat := 0x0C00DC + n * 0x2000
/-- RW. Extended skywriting runs, saturating (R157). -/
def SCN_SKY_EXT_CNT (n : Nat) : Nat := 0x0C00E0 + n * 0x2000
/-- RW. General register Gg, g = 0 to 15 (R157). -/
def SCN_G (n i : Nat) : Nat := 0x0C0100 + n * 0x2000 + i * 0x4
/-- RO. Trap cause and address (R198). -/
def SCN_TRAP (n : Nat) : Nat := 0x0C0048 + n * 0x2000
/-- RO. R192 -/
def SCN_TRAP_CAUSE (n : Nat) : Fld := ⟨(SCN_TRAP n), 0, 4⟩
/-- RO. Address of the trapping instruction -/
def SCN_TRAP_PC (n : Nat) : Fld := ⟨(SCN_TRAP n), 16, 16⟩
/-- RO. Trap detail (R191) (R198). -/
def SCN_TRAP_INFO (n : Nat) : Nat := 0x0C004C + n * 0x2000
/-- RO. Last TAG value (R198). -/
def SCN_TAG (n : Nat) : Nat := 0x0C0050 + n * 0x2000
/-- RO. Last HALT code (R198). -/
def SCN_HALT_CODE (n : Nat) : Nat := 0x0C0054 + n * 0x2000
/-- RO. Used cycles of the last window (R198). -/
def SCN_CYC_LAST (n : Nat) : Nat := 0x0C0058 + n * 0x2000
/-- RO. R196; 0xFFFF: dead ball -/
def SCN_CYC_LAST_USED (n : Nat) : Fld := ⟨(SCN_CYC_LAST n), 0, 16⟩
/-- RW. Highest used cycles (R198). -/
def SCN_CYC_MAX (n : Nat) : Nat := 0x0C005C + n * 0x2000
/-- RW. R196 -/
def SCN_CYC_MAX_MAX (n : Nat) : Fld := ⟨(SCN_CYC_MAX n), 0, 16⟩
/-- RW. Warning threshold (R198). -/
def SCN_BUDGET_WARN (n : Nat) : Nat := 0x0C0060 + n * 0x2000
/-- RW. Cycles; 0 disables (R197) -/
def SCN_BUDGET_WARN_LIMIT (n : Nat) : Fld := ⟨(SCN_BUDGET_WARN n), 0, 13⟩
/-- RW. Windows over the threshold, saturating (R198). -/
def SCN_BUDGET_WARN_CNT (n : Nat) : Nat := 0x0C0064 + n * 0x2000
/-- RO. Stack depths, claims, take (R198). -/
def SCN_STACK (n : Nat) : Nat := 0x0C0068 + n * 0x2000
/-- RO. Call stack entries, 0 to 16 -/
def SCN_STACK_CALLS (n : Nat) : Fld := ⟨(SCN_STACK n), 0, 5⟩
/-- RO. Loop stack entries, 0 to 8 -/
def SCN_STACK_LOOPS (n : Nat) : Fld := ⟨(SCN_STACK n), 8, 4⟩
/-- RO. Regions in the claim set, 0 to 8 -/
def SCN_STACK_CLAIMS (n : Nat) : Fld := ⟨(SCN_STACK n), 16, 4⟩
/-- RO. A take is outstanding -/
def SCN_STACK_TAKE (n : Nat) : Fld := ⟨(SCN_STACK n), 20, 1⟩
/-- RW. Enable, check mode (R236). -/
def ARB_CTRL : Nat := 0x0B0000
/-- RW. Enables the arbiter per R18; READY at the first Volley edge after EN while the Volley generator is READY -/
def ARB_CTRL_EN : Fld := ⟨ARB_CTRL, 0, 1⟩
/-- RW. 0: MASK; 1: TRAP (R222) -/
def ARB_CTRL_CHECK : Fld := ⟨ARB_CTRL, 1, 1⟩
/-- RO, W1C. State and latched faults (R236). -/
def ARB_STATUS : Nat := 0x0B0004
/-- RO. Function state per R18 -/
def ARB_STATUS_STATE : Fld := ⟨ARB_STATUS, 0, 3⟩
/-- W1C. R205, R207 -/
def ARB_STATUS_MAP_ERR : Fld := ⟨ARB_STATUS, 8, 1⟩
/-- W1C. R206 -/
def ARB_STATUS_CFG_REFUSED : Fld := ⟨ARB_STATUS, 9, 1⟩
/-- W1C. R233 -/
def ARB_STATUS_RWLOG_FULL : Fld := ⟨ARB_STATUS, 10, 1⟩
/-- RW. Columns and rows minus 1 (R236). -/
def ARB_MAP_GEOM : Nat := 0x0B0008
/-- RW. R201 -/
def ARB_MAP_GEOM_COLS_M1 : Fld := ⟨ARB_MAP_GEOM, 0, 7⟩
/-- RW. R201 -/
def ARB_MAP_GEOM_ROWS_M1 : Fld := ⟨ARB_MAP_GEOM, 8, 7⟩
/-- RW. Tile width and height, µm (R236). -/
def ARB_MAP_TILE : Nat := 0x0B000C
/-- RW. µm, 1 to 65,535; 0 acts as 1 -/
def ARB_MAP_TILE_TW : Fld := ⟨ARB_MAP_TILE, 0, 16⟩
/-- RW. µm, 1 to 65,535; 0 acts as 1 -/
def ARB_MAP_TILE_TH : Fld := ⟨ARB_MAP_TILE, 16, 16⟩
/-- RW. Map origin X, signed µm (R236). -/
def ARB_MAP_X0 : Nat := 0x0B0010
/-- RW. Map origin Y, signed µm (R236). -/
def ARB_MAP_Y0 : Nat := 0x0B0014
/-- RW. Separation of class s = 0 to 3, µm (R236). -/
def ARB_SEP (n : Nat) : Nat := 0x0B0018 + n * 0x4
/-- RW. µm, 0 to 16,777,215 -/
def ARB_SEP_SEP (n : Nat) : Fld := ⟨(ARB_SEP n), 0, 24⟩
/-- RW. Starvation guard (R216) (R236). -/
def ARB_STARVE : Nat := 0x0B0028
/-- RW. 0 disables (R216) -/
def ARB_STARVE_ROUNDS : Fld := ⟨ARB_STARVE, 0, 16⟩
/-- RW. Revoke timeout (R223) (R236). -/
def ARB_REVOKE : Nat := 0x0B002C
/-- RW. 0 disables (R223) -/
def ARB_REVOKE_ROUNDS : Fld := ⟨ARB_REVOKE, 0, 24⟩
/-- RW. Flow direction of sector k = 0 to 3 (R236). -/
def ARB_GAS_DIR (n : Nat) : Nat := 0x0B0030 + n * 0x10
/-- RW. Signed Q1.15 -/
def ARB_GAS_DIR_UX (n : Nat) : Fld := ⟨(ARB_GAS_DIR n), 0, 16⟩
/-- RW. Signed Q1.15 -/
def ARB_GAS_DIR_UY (n : Nat) : Fld := ⟨(ARB_GAS_DIR n), 16, 16⟩
/-- RW. Half-angle cosine (R236). -/
def ARB_GAS_COS (n : Nat) : Nat := 0x0B0034 + n * 0x10
/-- RW. Unsigned Q1.15, 0 to 32,768; a write above 32,768 stores 32,768 -/
def ARB_GAS_COS_COS (n : Nat) : Fld := ⟨(ARB_GAS_COS n), 0, 16⟩
/-- RW. Sector length, µm; 0 disables (R236). -/
def ARB_GAS_LEN (n : Nat) : Nat := 0x0B0038 + n * 0x10
/-- RW. µm; 0 disables the sector -/
def ARB_GAS_LEN_LEN (n : Nat) : Fld := ⟨(ARB_GAS_LEN n), 0, 24⟩
/-- RW. Map load address [31:0] (R236). -/
def ARB_MAP_LOAD_LO : Nat := 0x0B0070
/-- RW. Map load address [39:32] (R236). -/
def ARB_MAP_LOAD_HI : Nat := 0x0B0074
/-- RW. Address bits [39:32] -/
def ARB_MAP_LOAD_HI_ADDR : Fld := ⟨ARB_MAP_LOAD_HI, 0, 8⟩
/-- WO, RO, W1C. Start, busy, done, error (R207) (R236). -/
def ARB_MAP_LOAD_CTRL : Nat := 0x0B0078
/-- WO. R207 -/
def ARB_MAP_LOAD_CTRL_GO : Fld := ⟨ARB_MAP_LOAD_CTRL, 0, 1⟩
/-- RO. R207 -/
def ARB_MAP_LOAD_CTRL_BUSY : Fld := ⟨ARB_MAP_LOAD_CTRL, 8, 1⟩
/-- W1C. R207 -/
def ARB_MAP_LOAD_CTRL_DONE : Fld := ⟨ARB_MAP_LOAD_CTRL, 9, 1⟩
/-- W1C. R207 -/
def ARB_MAP_LOAD_CTRL_ERR : Fld := ⟨ARB_MAP_LOAD_CTRL, 10, 1⟩
/-- RO. Round cycles (R217) (R236). -/
def ARB_ROUND_CYC : Nat := 0x0B0080
/-- RO. Cycles of the last round -/
def ARB_ROUND_CYC_LAST : Fld := ⟨ARB_ROUND_CYC, 0, 12⟩
/-- RO. Highest LAST since reset; never falls -/
def ARB_ROUND_CYC_MAX : Fld := ⟨ARB_ROUND_CYC, 16, 12⟩
/-- RW. Grants, saturating (R236). -/
def ARB_GRANT_CNT : Nat := 0x0B0100
/-- RW. Claims denied, tile held, saturating (R236). -/
def ARB_DENY_HELD : Nat := 0x0B0104
/-- RW. Denied, separation, saturating (R236). -/
def ARB_DENY_SEP : Nat := 0x0B0108
/-- RW. Denied, gas flow, saturating (R236). -/
def ARB_DENY_GAS : Nat := 0x0B010C
/-- RW. Denied, cool-down, saturating (R236). -/
def ARB_DENY_COOL : Nat := 0x0B0110
/-- RW. Denied, reservation, saturating (R236). -/
def ARB_DENY_RESV : Nat := 0x0B0114
/-- RW. Refused claims, per round, saturating (R236). -/
def ARB_DENY_REFUSED : Nat := 0x0B0118
/-- RW. Rework log read index, [7:0] (R236). -/
def ARB_RWLOG_RD : Nat := 0x0B0140
/-- RO. Rework log write index, [7:0] (R236). -/
def ARB_RWLOG_WR : Nat := 0x0B0144
/-- RW. Dropped rework records, saturating (R236). -/
def ARB_RWLOG_DROP : Nat := 0x0B0148
/-- RW. Slot state query address (R236). -/
def ARB_SSTATE_ADDR : Nat := 0x0B0150
/-- RW. Slots WORD × 16 to WORD × 16 + 15 -/
def ARB_SSTATE_ADDR_WORD : Fld := ⟨ARB_SSTATE_ADDR, 0, 8⟩
/-- RW. Pool number -/
def ARB_SSTATE_ADDR_POOL : Fld := ⟨ARB_SSTATE_ADDR, 16, 6⟩
/-- RO. 16 slot states (R236). -/
def ARB_SSTATE_DATA : Nat := 0x0B0154
/-- RO. Bits [2j+1:2j]: state of slot WORD × 16 + j (R226); 0b00 for unloaded slots -/
def ARB_SSTATE_DATA_STATES : Fld := ⟨ARB_SSTATE_DATA, 0, 32⟩
/-- RW. Tile query index, [13:0] (R236). -/
def ARB_TILE_Q : Nat := 0x0B0158
/-- RO. Holder and cool-down of the queried tile (R236). -/
def ARB_TILE_QD : Nat := 0x0B015C
/-- RO. Holding beam -/
def ARB_TILE_QD_BEAM : Fld := ⟨ARB_TILE_QD, 0, 5⟩
/-- RO. 1: the tile is held -/
def ARB_TILE_QD_HELD : Fld := ⟨ARB_TILE_QD, 5, 1⟩
/-- RO. Cool-down count (R212) -/
def ARB_TILE_QD_COOL_REM : Fld := ⟨ARB_TILE_QD, 16, 12⟩
/-- RO, W1C. Grants, held slots, latched flags of beam n (R236). -/
def ARB_BEAM_STATUS (n : Nat) : Nat := 0x0B0400 + n * 0x20
/-- RO. Bit i: claim entry i granted -/
def ARB_BEAM_STATUS_GRANTED (n : Nat) : Fld := ⟨(ARB_BEAM_STATUS n), 0, 8⟩
/-- RO. Slots held, 0 to 8 -/
def ARB_BEAM_STATUS_HELD (n : Nat) : Fld := ⟨(ARB_BEAM_STATUS n), 8, 4⟩
/-- W1C. R219 -/
def ARB_BEAM_STATUS_REFUSED (n : Nat) : Fld := ⟨(ARB_BEAM_STATUS n), 16, 1⟩
/-- W1C. R222 -/
def ARB_BEAM_STATUS_CHECK_FAIL (n : Nat) : Fld := ⟨(ARB_BEAM_STATUS n), 17, 1⟩
/-- W1C. R229 -/
def ARB_BEAM_STATUS_HELD_FULL (n : Nat) : Fld := ⟨(ARB_BEAM_STATUS n), 18, 1⟩
/-- W1C. R223 -/
def ARB_BEAM_STATUS_REVOKED (n : Nat) : Fld := ⟨(ARB_BEAM_STATUS n), 19, 1⟩
/-- RW. Failed Court checks, saturating (R236). -/
def ARB_BEAM_CHECK_CNT (n : Nat) : Nat := 0x0B0404 + n * 0x20
/-- RW. Denied claims, saturating (R236). -/
def ARB_BEAM_DENY_CNT (n : Nat) : Nat := 0x0B0408 + n * 0x20
/-- RO. Revoke count (R223), saturating at 0xFFFF_FFFF (R236). -/
def ARB_BEAM_IDLE (n : Nat) : Nat := 0x0B040C + n * 0x20
/-- RW. Enable, keep, urgency of pool n (R236). -/
def ARB_POOL_CTRL (n : Nat) : Nat := 0x0B1000 + n * 0x40
/-- RW. R231 -/
def ARB_POOL_CTRL_EN (n : Nat) : Fld := ⟨(ARB_POOL_CTRL n), 0, 1⟩
/-- RW. R231 -/
def ARB_POOL_CTRL_KEEP (n : Nat) : Fld := ⟨(ARB_POOL_CTRL n), 1, 1⟩
/-- RW. Urgency of takes (R215) -/
def ARB_POOL_CTRL_URG (n : Nat) : Fld := ⟨(ARB_POOL_CTRL n), 8, 8⟩
/-- RO. State, exhausted, staged count (R236). -/
def ARB_POOL_STATUS (n : Nat) : Nat := 0x0B1004 + n * 0x40
/-- RO. Function state per R18 -/
def ARB_POOL_STATUS_STATE (n : Nat) : Fld := ⟨(ARB_POOL_STATUS n), 0, 3⟩
/-- RO. Condition of R228 holds -/
def ARB_POOL_STATUS_EXHAUSTED (n : Nat) : Fld := ⟨(ARB_POOL_STATUS n), 3, 1⟩
/-- RO. Staged slots, 0 to 16 -/
def ARB_POOL_STATUS_STAGED (n : Nat) : Fld := ⟨(ARB_POOL_STATUS n), 4, 5⟩
/-- RW. Slot base [31:0]; [11:0] read 0 (R236). -/
def ARB_POOL_BASE_LO (n : Nat) : Nat := 0x0B1008 + n * 0x40
/-- RW. Slot base [39:32] (R236). -/
def ARB_POOL_BASE_HI (n : Nat) : Nat := 0x0B100C + n * 0x40
/-- RW. Address bits [39:32] -/
def ARB_POOL_BASE_HI_ADDR (n : Nat) : Fld := ⟨(ARB_POOL_BASE_HI n), 0, 8⟩
/-- RW. Slots, 1 to 4,096 (R236). -/
def ARB_POOL_SIZE (n : Nat) : Nat := 0x0B1010 + n * 0x40
/-- RW. R231 -/
def ARB_POOL_SIZE_SIZE (n : Nat) : Fld := ⟨(ARB_POOL_SIZE n), 0, 13⟩
/-- RW. Loaded slots (R225) (R236). -/
def ARB_POOL_LOADED (n : Nat) : Nat := 0x0B1014 + n * 0x40
/-- RW. R225 -/
def ARB_POOL_LOADED_LOADED (n : Nat) : Fld := ⟨(ARB_POOL_LOADED n), 0, 13⟩
/-- RO. FREE and HELD slot counts (R236). -/
def ARB_POOL_COUNT_A (n : Nat) : Nat := 0x0B1018 + n * 0x40
/-- RO. Slot counts among slots 0 to LOADED - 1 -/
def ARB_POOL_COUNT_A_FREE (n : Nat) : Fld := ⟨(ARB_POOL_COUNT_A n), 0, 13⟩
/-- RO. Slot counts among slots 0 to LOADED - 1 -/
def ARB_POOL_COUNT_A_HELD (n : Nat) : Fld := ⟨(ARB_POOL_COUNT_A n), 16, 13⟩
/-- RO. DONE and RETIRED slot counts (R236). -/
def ARB_POOL_COUNT_B (n : Nat) : Nat := 0x0B101C + n * 0x40
/-- RO. Slot counts -/
def ARB_POOL_COUNT_B_DONE (n : Nat) : Fld := ⟨(ARB_POOL_COUNT_B n), 0, 13⟩
/-- RO. Slot counts -/
def ARB_POOL_COUNT_B_RETIRED (n : Nat) : Fld := ⟨(ARB_POOL_COUNT_B n), 16, 13⟩
/-- RW. Granted takes, saturating (R236). -/
def ARB_POOL_TAKES (n : Nat) : Nat := 0x0B1020 + n * 0x40
/-- RW. NONE_FREE decisions, saturating (R236). -/
def ARB_POOL_NONE (n : Nat) : Nat := 0x0B1024 + n * 0x40
/-- RW. Enable, trace view (R268). -/
def CLE_CTRL (n : Nat) : Nat := 0x100000 + n * 0x1000
/-- RW. R240 -/
def CLE_CTRL_EN (n : Nat) : Fld := ⟨(CLE_CTRL n), 0, 1⟩
/-- RW. R261 -/
def CLE_CTRL_VIEW (n : Nat) : Fld := ⟨(CLE_CTRL n), 1, 1⟩
/-- RO. State (R268). -/
def CLE_STATUS (n : Nat) : Nat := 0x100004 + n * 0x1000
/-- RO. Function state per R18 -/
def CLE_STATUS_STATE (n : Nat) : Fld := ⟨(CLE_STATUS n), 0, 3⟩
/-- RO. Cycles used (R268). -/
def CLE_CYC (n : Nat) : Nat := 0x100008 + n * 0x1000
/-- RO. Cycles of the last Volley -/
def CLE_CYC_LAST (n : Nat) : Fld := ⟨(CLE_CYC n), 0, 12⟩
/-- RO. Highest LAST since reset; never falls -/
def CLE_CYC_MAX (n : Nat) : Fld := ⟨(CLE_CYC n), 16, 12⟩
/-- RW. Mode, K, phase, options (R268). -/
def CLE_B_CFG (b : Nat) : Nat := 0x100100 + b / 2 * 0x1000 + b % 2 * 0x200
/-- RW. R243 -/
def CLE_B_CFG_MODE (b : Nat) : Fld := ⟨(CLE_B_CFG b), 0, 2⟩
/-- RW. R251 -/
def CLE_B_CFG_K (b : Nat) : Fld := ⟨(CLE_B_CFG b), 4, 5⟩
/-- RW. R251 -/
def CLE_B_CFG_PH (b : Nat) : Fld := ⟨(CLE_B_CFG b), 12, 4⟩
/-- RW. R244 -/
def CLE_B_CFG_NORM (b : Nat) : Fld := ⟨(CLE_B_CFG b), 16, 1⟩
/-- RW. R245 -/
def CLE_B_CFG_OSEL (b : Nat) : Fld := ⟨(CLE_B_CFG b), 17, 2⟩
/-- RW. R243 -/
def CLE_B_CFG_ISTART (b : Nat) : Fld := ⟨(CLE_B_CFG b), 19, 1⟩
/-- RW. R244 -/
def CLE_B_CFG_GMIN (b : Nat) : Fld := ⟨(CLE_B_CFG b), 24, 7⟩
/-- RW. Active bank, arm, transfer (R268). -/
def CLE_B_BANK (b : Nat) : Nat := 0x100104 + b / 2 * 0x1000 + b % 2 * 0x200
/-- RW. Active bank (R255) -/
def CLE_B_BANK_ACT (b : Nat) : Fld := ⟨(CLE_B_BANK b), 0, 1⟩
/-- RW. Switch at SWAT; cleared at the switch -/
def CLE_B_BANK_ARM (b : Nat) : Fld := ⟨(CLE_B_BANK b), 1, 1⟩
/-- RW. R256 -/
def CLE_B_BANK_XFER (b : Nat) : Fld := ⟨(CLE_B_BANK b), 2, 1⟩
/-- RW. Switch Volley [31:0] (R268). -/
def CLE_B_SWAT_LO (b : Nat) : Nat := 0x100108 + b / 2 * 0x1000 + b % 2 * 0x200
/-- RW. Switch Volley [63:32] (R268). -/
def CLE_B_SWAT_HI (b : Nat) : Nat := 0x10010C + b / 2 * 0x1000 + b % 2 * 0x200
/-- RW. Inner set point, [15:0] (R268). -/
def CLE_B_SPI (b : Nat) : Nat := 0x100110 + b / 2 * 0x1000 + b % 2 * 0x200
/-- RW. Outer set point, [15:0] (R268). -/
def CLE_B_SPO (b : Nat) : Nat := 0x100114 + b / 2 * 0x1000 + b % 2 * 0x200
/-- RW. M in OPEN mode, [15:0] (R268). -/
def CLE_B_MFIX (b : Nat) : Nat := 0x100118 + b / 2 * 0x1000 + b % 2 * 0x200
/-- RO, W1C. Loop flags and latches (R268). -/
def CLE_B_STATUS (b : Nat) : Nat := 0x10011C + b / 2 * 0x1000 + b % 2 * 0x200
/-- RO. R247, last Volley -/
def CLE_B_STATUS_M_HI (b : Nat) : Fld := ⟨(CLE_B_STATUS b), 0, 1⟩
/-- RO. R247, last Volley -/
def CLE_B_STATUS_M_LO (b : Nat) : Fld := ⟨(CLE_B_STATUS b), 1, 1⟩
/-- RO. R247, last Volley -/
def CLE_B_STATUS_I_CLAMP (b : Nat) : Fld := ⟨(CLE_B_STATUS b), 2, 1⟩
/-- RO. R251, last run -/
def CLE_B_STATUS_IO_CLAMP (b : Nat) : Fld := ⟨(CLE_B_STATUS b), 3, 1⟩
/-- W1C. R259 -/
def CLE_B_STATUS_FE_TRIP (b : Nat) : Fld := ⟨(CLE_B_STATUS b), 8, 1⟩
/-- W1C. R255, R257 -/
def CLE_B_STATUS_SW_LATE (b : Nat) : Fld := ⟨(CLE_B_STATUS b), 9, 1⟩
/-- RO. Last committed M, [15:0] (R268). -/
def CLE_B_M (b : Nat) : Nat := 0x100120 + b / 2 * 0x1000 + b % 2 * 0x200
/-- RO. R250, [15:0] (R268). -/
def CLE_B_SPI_EFF (b : Nat) : Nat := 0x100124 + b / 2 * 0x1000 + b % 2 * 0x200
/-- RO. Trim, signed 32-bit (R268). -/
def CLE_B_TRIM (b : Nat) : Nat := 0x100128 + b / 2 * 0x1000 + b % 2 * 0x200
/-- RO. Last inner measurement (R268). -/
def CLE_B_YI (b : Nat) : Nat := 0x10012C + b / 2 * 0x1000 + b % 2 * 0x200
/-- RO. Last outer measurement (R268). -/
def CLE_B_YO (b : Nat) : Nat := 0x100130 + b / 2 * 0x1000 + b % 2 * 0x200
/-- RO. Inner integrator [31:0] (R268). -/
def CLE_B_II_LO (b : Nat) : Nat := 0x100134 + b / 2 * 0x1000 + b % 2 * 0x200
/-- RO. Inner integrator [47:32] (R268). -/
def CLE_B_II_HI (b : Nat) : Nat := 0x100138 + b / 2 * 0x1000 + b % 2 * 0x200
/-- RO. Outer integrator [31:0] (R268). -/
def CLE_B_IO_LO (b : Nat) : Nat := 0x10013C + b / 2 * 0x1000 + b % 2 * 0x200
/-- RO. Outer integrator [47:32] (R268). -/
def CLE_B_IO_HI (b : Nat) : Nat := 0x100140 + b / 2 * 0x1000 + b % 2 * 0x200
/-- WO. Integrator reset (R243) (R268). -/
def CLE_B_INT_RESET (b : Nat) : Nat := 0x100144 + b / 2 * 0x1000 + b % 2 * 0x200
/-- WO. Bit 0 inner, bit 1 outer -/
def CLE_B_INT_RESET_RST (b : Nat) : Fld := ⟨(CLE_B_INT_RESET b), 0, 2⟩
/-- RO. R253 [31:0] (R268). -/
def CLE_B_WR_VOL_LO (b : Nat) : Nat := 0x100148 + b / 2 * 0x1000 + b % 2 * 0x200
/-- RO. R253 [63:32] (R268). -/
def CLE_B_WR_VOL_HI (b : Nat) : Nat := 0x10014C + b / 2 * 0x1000 + b % 2 * 0x200
/-- RW. Limit, time (R268). -/
def CLE_B_FE_CFG (b : Nat) : Nat := 0x100150 + b / 2 * 0x1000 + b % 2 * 0x200
/-- RW. Codes; 0 disables (R259) -/
def CLE_B_FE_CFG_LIM (b : Nat) : Fld := ⟨(CLE_B_FE_CFG b), 0, 24⟩
/-- RW. Volleys; 0 acts as 1 -/
def CLE_B_FE_CFG_TIME (b : Nat) : Fld := ⟨(CLE_B_FE_CFG b), 24, 8⟩
/-- RW. Lag in slots, [5:0] (R268). -/
def CLE_B_FE_LAG (b : Nat) : Nat := 0x100154 + b / 2 * 0x1000 + b % 2 * 0x200
/-- RO. Last figure and axis (R268). -/
def CLE_B_FE_LAST (b : Nat) : Nat := 0x100158 + b / 2 * 0x1000 + b % 2 * 0x200
/-- RO. Last figure; 0 when absent -/
def CLE_B_FE_LAST_ERR (b : Nat) : Fld := ⟨(CLE_B_FE_LAST b), 0, 24⟩
/-- RO. 0: X; 1: Y; 2: Z -/
def CLE_B_FE_LAST_AXIS (b : Nat) : Fld := ⟨(CLE_B_FE_LAST b), 24, 2⟩
/-- RW. Highest figure (R260), [23:0] (R268). -/
def CLE_B_FE_MAX (b : Nat) : Nat := 0x10015C + b / 2 * 0x1000 + b % 2 * 0x200
/-- RO. Count of R259, [7:0] (R268). -/
def CLE_B_FE_RUN (b : Nat) : Nat := 0x100160 + b / 2 * 0x1000 + b % 2 * 0x200
/-- RW. Held inner Volleys, saturating (R268). -/
def CLE_B_IHOLD_CNT (b : Nat) : Nat := 0x100164 + b / 2 * 0x1000 + b % 2 * 0x200
/-- RW. Outer runs without a measurement, saturating (R268). -/
def CLE_B_OSTALE_CNT (b : Nat) : Nat := 0x100168 + b / 2 * 0x1000 + b % 2 * 0x200
/-- RW. Clamped Volleys, saturating (R268). -/
def CLE_B_MCLAMP_CNT (b : Nat) : Nat := 0x10016C + b / 2 * 0x1000 + b % 2 * 0x200
/-- RW. Bank load address [31:0] (R268). -/
def CLE_B_BKLOAD_LO (b : Nat) : Nat := 0x100170 + b / 2 * 0x1000 + b % 2 * 0x200
/-- RW. Bank load address [39:32] (R268). -/
def CLE_B_BKLOAD_HI (b : Nat) : Nat := 0x100174 + b / 2 * 0x1000 + b % 2 * 0x200
/-- RW. Address bits [39:32] -/
def CLE_B_BKLOAD_HI_ADDR (b : Nat) : Fld := ⟨(CLE_B_BKLOAD_HI b), 0, 8⟩
/-- WO, RO, W1C. Go, busy, done, error (R268). -/
def CLE_B_BKLOAD_CTRL (b : Nat) : Nat := 0x100178 + b / 2 * 0x1000 + b % 2 * 0x200
/-- WO. R257 -/
def CLE_B_BKLOAD_CTRL_GO (b : Nat) : Fld := ⟨(CLE_B_BKLOAD_CTRL b), 0, 1⟩
/-- RO. R257 -/
def CLE_B_BKLOAD_CTRL_BUSY (b : Nat) : Fld := ⟨(CLE_B_BKLOAD_CTRL b), 8, 1⟩
/-- W1C. R257 -/
def CLE_B_BKLOAD_CTRL_DONE (b : Nat) : Fld := ⟨(CLE_B_BKLOAD_CTRL b), 9, 1⟩
/-- W1C. R257 -/
def CLE_B_BKLOAD_CTRL_ERR (b : Nat) : Fld := ⟨(CLE_B_BKLOAD_CTRL b), 10, 1⟩
/-- RW, WO. Trace control (R268). -/
def CLE_B_TRC_CTRL (b : Nat) : Nat := 0x100200 + b / 2 * 0x1000 + b % 2 * 0x200
/-- WO. R265 -/
def CLE_B_TRC_CTRL_ARM (b : Nat) : Fld := ⟨(CLE_B_TRC_CTRL b), 0, 1⟩
/-- WO. R265 -/
def CLE_B_TRC_CTRL_FORCE (b : Nat) : Fld := ⟨(CLE_B_TRC_CTRL b), 1, 1⟩
/-- WO. R265 -/
def CLE_B_TRC_CTRL_STOP (b : Nat) : Fld := ⟨(CLE_B_TRC_CTRL b), 2, 1⟩
/-- RW. R266 -/
def CLE_B_TRC_CTRL_SRC (b : Nat) : Fld := ⟨(CLE_B_TRC_CTRL b), 4, 4⟩
/-- RW. R266 -/
def CLE_B_TRC_CTRL_EDGE (b : Nat) : Fld := ⟨(CLE_B_TRC_CTRL b), 8, 1⟩
/-- RW. Node slot for LEVEL -/
def CLE_B_TRC_CTRL_LNODE (b : Nat) : Fld := ⟨(CLE_B_TRC_CTRL b), 9, 3⟩
/-- RW. R264; 0 means 256 -/
def CLE_B_TRC_CTRL_DEC (b : Nat) : Fld := ⟨(CLE_B_TRC_CTRL b), 16, 8⟩
/-- RO. State, count, write index (R268). -/
def CLE_B_TRC_STATUS (b : Nat) : Nat := 0x100204 + b / 2 * 0x1000 + b % 2 * 0x200
/-- RO. R265 -/
def CLE_B_TRC_STATUS_STATE (b : Nat) : Fld := ⟨(CLE_B_TRC_STATUS b), 0, 2⟩
/-- RO. Next write index, in bits [15:4] -/
def CLE_B_TRC_STATUS_WR (b : Nat) : Fld := ⟨(CLE_B_TRC_STATUS b), 4, 12⟩
/-- RO. Valid samples, 0 to 4,096 -/
def CLE_B_TRC_STATUS_COUNT (b : Nat) : Fld := ⟨(CLE_B_TRC_STATUS b), 16, 13⟩
/-- RW. Pre-trigger samples, [11:0] (R268). -/
def CLE_B_TRC_PRE (b : Nat) : Nat := 0x100208 + b / 2 * 0x1000 + b % 2 * 0x200
/-- RW. Level, [15:0] (R268). -/
def CLE_B_TRC_LEVEL (b : Nat) : Nat := 0x10020C + b / 2 * 0x1000 + b % 2 * 0x200
/-- RW. Trigger Volley [31:0] (R268). -/
def CLE_B_TRC_AT_LO (b : Nat) : Nat := 0x100210 + b / 2 * 0x1000 + b % 2 * 0x200
/-- RW. Trigger Volley [63:32] (R268). -/
def CLE_B_TRC_AT_HI (b : Nat) : Nat := 0x100214 + b / 2 * 0x1000 + b % 2 * 0x200
/-- RO. Trigger and first index (R268). -/
def CLE_B_TRC_TRIG (b : Nat) : Nat := 0x100218 + b / 2 * 0x1000 + b % 2 * 0x200
/-- RO. Trigger sample index -/
def CLE_B_TRC_TRIG_IDX (b : Nat) : Fld := ⟨(CLE_B_TRC_TRIG b), 0, 12⟩
/-- RO. Oldest valid index (R267) -/
def CLE_B_TRC_TRIG_FIRST (b : Nat) : Fld := ⟨(CLE_B_TRC_TRIG b), 16, 12⟩
/-- RO. Trigger sample Volley [31:0] (R268). -/
def CLE_B_TRC_TRIG_VOL_LO (b : Nat) : Nat := 0x10021C + b / 2 * 0x1000 + b % 2 * 0x200
/-- RO. Trigger sample Volley [63:32] (R268). -/
def CLE_B_TRC_TRIG_VOL_HI (b : Nat) : Nat := 0x100220 + b / 2 * 0x1000 + b % 2 * 0x200
/-- RW. Node slot s = 0 to 7 (R268). -/
def CLE_B_TRC_NODE (b c : Nat) : Nat := 0x100240 + b / 2 * 0x1000 + b % 2 * 0x200 + c * 0x4
/-- RW. R262 -/
def CLE_B_TRC_NODE_SRC (b c : Nat) : Fld := ⟨(CLE_B_TRC_NODE b c), 0, 6⟩
/-- RW. 0 to 47; a write above 47 stores 47 -/
def CLE_B_TRC_NODE_SHIFT (b c : Nat) : Fld := ⟨(CLE_B_TRC_NODE b c), 8, 6⟩
/-- RW. Q8.24 (R269). -/
def CLE_BK_KP (b c : Nat) : Nat := 0x100180 + b / 2 * 0x1000 + b % 2 * 0x200 + c * 0x40
/-- RW. Q8.24 (R269). -/
def CLE_BK_KI (b c : Nat) : Nat := 0x100184 + b / 2 * 0x1000 + b % 2 * 0x200 + c * 0x40
/-- RW. Q8.24 (R269). -/
def CLE_BK_KD (b c : Nat) : Nat := 0x100188 + b / 2 * 0x1000 + b % 2 * 0x200 + c * 0x40
/-- RW. Q8.24 (R269). -/
def CLE_BK_KPO (b c : Nat) : Nat := 0x10018C + b / 2 * 0x1000 + b % 2 * 0x200 + c * 0x40
/-- RW. Q8.24 (R269). -/
def CLE_BK_KIO (b c : Nat) : Nat := 0x100190 + b / 2 * 0x1000 + b % 2 * 0x200 + c * 0x40
/-- RW. MMIN [15:0], MMAX [31:16] (R269). -/
def CLE_BK_MLIM (b c : Nat) : Nat := 0x100194 + b / 2 * 0x1000 + b % 2 * 0x200 + c * 0x40
/-- RW. Signed; a write below -65,535 stores -65,535 (R269). -/
def CLE_BK_TMIN (b c : Nat) : Nat := 0x100198 + b / 2 * 0x1000 + b % 2 * 0x200 + c * 0x40
/-- RW. Signed; a write above 65,535 stores 65,535 (R269). -/
def CLE_BK_TMAX (b c : Nat) : Nat := 0x10019C + b / 2 * 0x1000 + b % 2 * 0x200 + c * 0x40
/-- RW. 48-bit signed, [31:0] (R254) (R269). -/
def CLE_BK_IMIN_LO (b c : Nat) : Nat := 0x1001A0 + b / 2 * 0x1000 + b % 2 * 0x200 + c * 0x40
/-- RW. [47:32] in [15:0] (R269). -/
def CLE_BK_IMIN_HI (b c : Nat) : Nat := 0x1001A4 + b / 2 * 0x1000 + b % 2 * 0x200 + c * 0x40
/-- RW. [31:0] (R269). -/
def CLE_BK_IMAX_LO (b c : Nat) : Nat := 0x1001A8 + b / 2 * 0x1000 + b % 2 * 0x200 + c * 0x40
/-- RW. [47:32] (R269). -/
def CLE_BK_IMAX_HI (b c : Nat) : Nat := 0x1001AC + b / 2 * 0x1000 + b % 2 * 0x200 + c * 0x40
/-- RW. [31:0] (R269). -/
def CLE_BK_IOMIN_LO (b c : Nat) : Nat := 0x1001B0 + b / 2 * 0x1000 + b % 2 * 0x200 + c * 0x40
/-- RW. [47:32] (R269). -/
def CLE_BK_IOMIN_HI (b c : Nat) : Nat := 0x1001B4 + b / 2 * 0x1000 + b % 2 * 0x200 + c * 0x40
/-- RW. [31:0] (R269). -/
def CLE_BK_IOMAX_LO (b c : Nat) : Nat := 0x1001B8 + b / 2 * 0x1000 + b % 2 * 0x200 + c * 0x40
/-- RW. [47:32] (R269). -/
def CLE_BK_IOMAX_HI (b c : Nat) : Nat := 0x1001BC + b / 2 * 0x1000 + b % 2 * 0x200 + c * 0x40
/-- RW. Melt-pool pause (R314). -/
def CAM_CTRL : Nat := 0x120000
/-- RW. R287 -/
def CAM_CTRL_MP_PAUSE : Fld := ⟨CAM_CTRL, 0, 1⟩
/-- W1C. Table write refused (R314). -/
def CAM_STATUS : Nat := 0x120004
/-- W1C. R294 -/
def CAM_STATUS_TAB_REFUSED : Fld := ⟨CAM_STATUS, 0, 1⟩
/-- RO. Busy pipeline cycles per Volley (R314). -/
def CAM_PIPE_LOAD : Nat := 0x120008
/-- RO. Busy cycles in the last Volley -/
def CAM_PIPE_LOAD_LAST : Fld := ⟨CAM_PIPE_LOAD, 0, 12⟩
/-- RO. Highest LAST since reset; never falls -/
def CAM_PIPE_LOAD_MAX : Fld := ⟨CAM_PIPE_LOAD, 16, 12⟩
/-- RW. Enable, lanes, swap, settle (R314). -/
def CAM_CP_CTRL (n : Nat) : Nat := 0x121000 + n * 0x100
/-- RW. R277 -/
def CAM_CP_CTRL_EN (n : Nat) : Fld := ⟨(CAM_CP_CTRL n), 0, 1⟩
/-- RW. 0b00: 1; 0b01: 2; 0b10: 4; 0b11 acts as 4 -/
def CAM_CP_CTRL_LANES (n : Nat) : Fld := ⟨(CAM_CP_CTRL n), 4, 2⟩
/-- RW. Bit 7: clock lane; bits 8 to 11: data lanes 0 to 3 -/
def CAM_CP_CTRL_PNSWAP (n : Nat) : Fld := ⟨(CAM_CP_CTRL n), 7, 5⟩
/-- RW. HS settle time in ns, 0 to 255; 0 selects 110 ns -/
def CAM_CP_CTRL_THS_SETTLE (n : Nat) : Fld := ⟨(CAM_CP_CTRL n), 16, 8⟩
/-- RO, W1C. State, error flags (R314). -/
def CAM_CP_STATUS (n : Nat) : Nat := 0x121004 + n * 0x100
/-- RO. Function state per R18 -/
def CAM_CP_STATUS_STATE (n : Nat) : Fld := ⟨(CAM_CP_STATUS n), 0, 3⟩
/-- W1C. Bit 8 ECC: a header error other than a single-bit one. Bit 9 CRC. Bit 10 LEN: either LEN row of R312. Bit 11 SYNC. Bit 12 UNKNOWN. Bit 13 PHY. Bit 14 OVF. A corrected single-bit header error sets no flag -/
def CAM_CP_STATUS_ECC (n : Nat) : Fld := ⟨(CAM_CP_STATUS n), 8, 1⟩
/-- W1C. Bit 8 ECC: a header error other than a single-bit one. Bit 9 CRC. Bit 10 LEN: either LEN row of R312. Bit 11 SYNC. Bit 12 UNKNOWN. Bit 13 PHY. Bit 14 OVF. A corrected single-bit header error sets no flag -/
def CAM_CP_STATUS_CRC (n : Nat) : Fld := ⟨(CAM_CP_STATUS n), 9, 1⟩
/-- W1C. Bit 8 ECC: a header error other than a single-bit one. Bit 9 CRC. Bit 10 LEN: either LEN row of R312. Bit 11 SYNC. Bit 12 UNKNOWN. Bit 13 PHY. Bit 14 OVF. A corrected single-bit header error sets no flag -/
def CAM_CP_STATUS_LEN (n : Nat) : Fld := ⟨(CAM_CP_STATUS n), 10, 1⟩
/-- W1C. Bit 8 ECC: a header error other than a single-bit one. Bit 9 CRC. Bit 10 LEN: either LEN row of R312. Bit 11 SYNC. Bit 12 UNKNOWN. Bit 13 PHY. Bit 14 OVF. A corrected single-bit header error sets no flag -/
def CAM_CP_STATUS_SYNC (n : Nat) : Fld := ⟨(CAM_CP_STATUS n), 11, 1⟩
/-- W1C. Bit 8 ECC: a header error other than a single-bit one. Bit 9 CRC. Bit 10 LEN: either LEN row of R312. Bit 11 SYNC. Bit 12 UNKNOWN. Bit 13 PHY. Bit 14 OVF. A corrected single-bit header error sets no flag -/
def CAM_CP_STATUS_UNKNOWN (n : Nat) : Fld := ⟨(CAM_CP_STATUS n), 12, 1⟩
/-- W1C. Bit 8 ECC: a header error other than a single-bit one. Bit 9 CRC. Bit 10 LEN: either LEN row of R312. Bit 11 SYNC. Bit 12 UNKNOWN. Bit 13 PHY. Bit 14 OVF. A corrected single-bit header error sets no flag -/
def CAM_CP_STATUS_PHY (n : Nat) : Fld := ⟨(CAM_CP_STATUS n), 13, 1⟩
/-- W1C. Bit 8 ECC: a header error other than a single-bit one. Bit 9 CRC. Bit 10 LEN: either LEN row of R312. Bit 11 SYNC. Bit 12 UNKNOWN. Bit 13 PHY. Bit 14 OVF. A corrected single-bit header error sets no flag -/
def CAM_CP_STATUS_OVF (n : Nat) : Fld := ⟨(CAM_CP_STATUS n), 14, 1⟩
/-- RW. I2C speed (R314). -/
def CAM_CP_CCI_CFG (n : Nat) : Nat := 0x121008 + n * 0x100
/-- RW. 0: 400 kHz; 1: 1 MHz -/
def CAM_CP_CCI_CFG_SPEED (n : Nat) : Fld := ⟨(CAM_CP_CCI_CFG n), 0, 1⟩
/-- RW. R312, in that order, saturating (R314). -/
def CAM_CP_ECC_FIX_CNT (n : Nat) : Nat := 0x121010 + n * 0x100
/-- RW. R312, in that order, saturating (R314). -/
def CAM_CP_ECC_ERR_CNT (n : Nat) : Nat := 0x121014 + n * 0x100
/-- RW. R312, in that order, saturating (R314). -/
def CAM_CP_CRC_ERR_CNT (n : Nat) : Nat := 0x121018 + n * 0x100
/-- RW. R312, in that order, saturating (R314). -/
def CAM_CP_LEN_ERR_CNT (n : Nat) : Nat := 0x12101C + n * 0x100
/-- RW. R312, in that order, saturating (R314). -/
def CAM_CP_SYNC_ERR_CNT (n : Nat) : Nat := 0x121020 + n * 0x100
/-- RW. R312, in that order, saturating (R314). -/
def CAM_CP_UNKNOWN_CNT (n : Nat) : Nat := 0x121024 + n * 0x100
/-- RW. R312, in that order, saturating (R314). -/
def CAM_CP_PHY_ERR_CNT (n : Nat) : Nat := 0x121028 + n * 0x100
/-- RW. R312, in that order, saturating (R314). -/
def CAM_CP_OVF_CNT (n : Nat) : Nat := 0x12102C + n * 0x100
/-- RO. Places in use, peak (R314). -/
def CAM_CP_LINES (n : Nat) : Nat := 0x121030 + n * 0x100
/-- RO. Places in use, 0 to 4 -/
def CAM_CP_LINES_USED (n : Nat) : Fld := ⟨(CAM_CP_LINES n), 0, 3⟩
/-- RO. Highest USED since reset -/
def CAM_CP_LINES_PEAK (n : Nat) : Fld := ⟨(CAM_CP_LINES n), 8, 3⟩
/-- RW, WO. Enable, port, channel, type, commit (R314). -/
def CAM_CTX_CTRL (n : Nat) : Nat := 0x122000 + n * 0x100
/-- RW. R281 -/
def CAM_CTX_CTRL_EN (n : Nat) : Fld := ⟨(CAM_CTX_CTRL n), 0, 1⟩
/-- RW. Port number -/
def CAM_CTX_CTRL_PORT (n : Nat) : Fld := ⟨(CAM_CTX_CTRL n), 4, 3⟩
/-- RW. Virtual channel -/
def CAM_CTX_CTRL_VC (n : Nat) : Fld := ⟨(CAM_CTX_CTRL n), 8, 4⟩
/-- RW. 0: RAW12; 1: RAW10 -/
def CAM_CTX_CTRL_DT (n : Nat) : Fld := ⟨(CAM_CTX_CTRL n), 12, 1⟩
/-- WO. R307 -/
def CAM_CTX_CTRL_COMMIT (n : Nat) : Fld := ⟨(CAM_CTX_CTRL n), 16, 1⟩
/-- RO, W1C. State, flags (R314). -/
def CAM_CTX_STATUS (n : Nat) : Nat := 0x122004 + n * 0x100
/-- RO. Function state per R18 -/
def CAM_CTX_STATUS_STATE (n : Nat) : Fld := ⟨(CAM_CTX_STATUS n), 0, 3⟩
/-- RO. A committed generation is not yet in force -/
def CAM_CTX_STATUS_PENDING (n : Nat) : Fld := ⟨(CAM_CTX_STATUS n), 3, 1⟩
/-- W1C. R286 -/
def CAM_CTX_STATUS_TRUNC (n : Nat) : Fld := ⟨(CAM_CTX_STATUS n), 8, 1⟩
/-- W1C. R311 -/
def CAM_CTX_STATUS_CCI_ERR (n : Nat) : Fld := ⟨(CAM_CTX_STATUS n), 9, 1⟩
/-- W1C. R282 -/
def CAM_CTX_STATUS_CFG_REFUSED (n : Nat) : Fld := ⟨(CAM_CTX_STATUS n), 10, 1⟩
/-- W1C. R305 -/
def CAM_CTX_STATUS_ARC_FULL (n : Nat) : Fld := ⟨(CAM_CTX_STATUS n), 11, 1⟩
/-- W1C. R301 -/
def CAM_CTX_STATUS_TRIG_LATE (n : Nat) : Fld := ⟨(CAM_CTX_STATUS n), 12, 1⟩
/-- RW. W, H (R314). -/
def CAM_CTX_GEOM (n : Nat) : Nat := 0x122008 + n * 0x100
/-- RW. R278 -/
def CAM_CTX_GEOM_W (n : Nat) : Fld := ⟨(CAM_CTX_GEOM n), 0, 13⟩
/-- RW. R278 -/
def CAM_CTX_GEOM_H (n : Nat) : Fld := ⟨(CAM_CTX_GEOM n), 16, 12⟩
/-- RW. Latency, phase, frame timeout (R314). -/
def CAM_CTX_CFG (n : Nat) : Nat := 0x12200C + n * 0x100
/-- RW. R310 -/
def CAM_CTX_CFG_LAT (n : Nat) : Fld := ⟨(CAM_CTX_CFG n), 0, 3⟩
/-- RW. R291 -/
def CAM_CTX_CFG_PHASE (n : Nat) : Fld := ⟨(CAM_CTX_CFG n), 4, 2⟩
/-- RW. Frame timeout in Volleys; 0 disables -/
def CAM_CTX_CFG_FTO (n : Nat) : Fld := ⟨(CAM_CTX_CFG n), 16, 16⟩
/-- RW. Defect slice (R314). -/
def CAM_CTX_DEF (n : Nat) : Nat := 0x122010 + n * 0x100
/-- RW. First entry (R289) -/
def CAM_CTX_DEF_BASE (n : Nat) : Fld := ⟨(CAM_CTX_DEF n), 0, 11⟩
/-- RW. Entries, 0 to 2,048 -/
def CAM_CTX_DEF_COUNT (n : Nat) : Fld := ⟨(CAM_CTX_DEF n), 16, 12⟩
/-- RW. Sensor I2C address, [6:0] (R314). -/
def CAM_CTX_CCI_DEV (n : Nat) : Nat := 0x122014 + n * 0x100
/-- RW. Sensor write item i = 0 to 3 (R314). -/
def CAM_CTX_CCI (n i : Nat) : Nat := 0x122018 + n * 0x100 + i * 0x4
/-- RW. Sensor register address -/
def CAM_CTX_CCI_REG (n i : Nat) : Fld := ⟨(CAM_CTX_CCI n i), 0, 16⟩
/-- RW. Data bytes minus 1 -/
def CAM_CTX_CCI_BYTES (n i : Nat) : Fld := ⟨(CAM_CTX_CCI n i), 16, 2⟩
/-- RW. 0: none; 1: ORG X; 2: ORG Y; 3: EXPO; 4: GAIN; 5 to 7 act as 0 -/
def CAM_CTX_CCI_SRC (n i : Nat) : Fld := ⟨(CAM_CTX_CCI n i), 20, 3⟩
/-- RO. Generations (R314). -/
def CAM_CTX_GEN (n : Nat) : Nat := 0x122028 + n * 0x100
/-- RO. Generation in force -/
def CAM_CTX_GEN_IN_FORCE (n : Nat) : Fld := ⟨(CAM_CTX_GEN n), 0, 16⟩
/-- RO. Last generation committed -/
def CAM_CTX_GEN_LAST (n : Nat) : Fld := ⟨(CAM_CTX_GEN n), 16, 16⟩
/-- RO. Frame number (R313) (R314). -/
def CAM_CTX_FRAME (n : Nat) : Nat := 0x12202C + n * 0x100
/-- RW. Truncated frames, saturating (R314). -/
def CAM_CTX_TRUNC_CNT (n : Nat) : Nat := 0x122030 + n * 0x100
/-- RW. Merged commits, saturating (R314). -/
def CAM_CTX_MERGE_CNT (n : Nat) : Nat := 0x122034 + n * 0x100
/-- RW. Failed sensor writes, saturating (R314). -/
def CAM_CTX_CCI_ERR_CNT (n : Nat) : Nat := 0x122038 + n * 0x100
/-- RW. Shadow origin (R314). -/
def CAM_CTX_ORG (n : Nat) : Nat := 0x122040 + n * 0x100
/-- RW. Window origin in sensor pixels -/
def CAM_CTX_ORG_X (n : Nat) : Fld := ⟨(CAM_CTX_ORG n), 0, 12⟩
/-- RW. Window origin in sensor pixels -/
def CAM_CTX_ORG_Y (n : Nat) : Fld := ⟨(CAM_CTX_ORG n), 16, 12⟩
/-- RW. Shadow exposure code, [23:0] (R314). -/
def CAM_CTX_EXPO (n : Nat) : Nat := 0x122044 + n * 0x100
/-- RW. Shadow gain code, [15:0] (R314). -/
def CAM_CTX_GAIN (n : Nat) : Nat := 0x122048 + n * 0x100
/-- RW. Shadow BLK0, BLK1 (R314). -/
def CAM_CTX_BLK01 (n : Nat) : Nat := 0x12204C + n * 0x100
/-- RW. Black levels by ph (R290) -/
def CAM_CTX_BLK01_BLK0 (n : Nat) : Fld := ⟨(CAM_CTX_BLK01 n), 0, 12⟩
/-- RW. Black levels by ph (R290) -/
def CAM_CTX_BLK01_BLK1 (n : Nat) : Fld := ⟨(CAM_CTX_BLK01 n), 16, 12⟩
/-- RW. Shadow BLK2, BLK3 (R314). -/
def CAM_CTX_BLK23 (n : Nat) : Nat := 0x122050 + n * 0x100
/-- RW. Black levels by ph (R290) -/
def CAM_CTX_BLK23_BLK0 (n : Nat) : Fld := ⟨(CAM_CTX_BLK23 n), 0, 12⟩
/-- RW. Black levels by ph (R290) -/
def CAM_CTX_BLK23_BLK1 (n : Nat) : Fld := ⟨(CAM_CTX_BLK23 n), 16, 12⟩
/-- RW. Shadow processing options (R314). -/
def CAM_CTX_PROC (n : Nat) : Nat := 0x122054 + n * 0x100
/-- RW. R292 -/
def CAM_CTX_PROC_EDGE_T (n : Nat) : Fld := ⟨(CAM_CTX_PROC n), 0, 12⟩
/-- RW. R293 -/
def CAM_CTX_PROC_RS (n : Nat) : Fld := ⟨(CAM_CTX_PROC n), 16, 3⟩
/-- RW. R293 -/
def CAM_CTX_PROC_TBL (n : Nat) : Fld := ⟨(CAM_CTX_PROC n), 20, 2⟩
/-- RW. 0: X; 1: Y (R296) -/
def CAM_CTX_PROC_LAXIS (n : Nat) : Fld := ⟨(CAM_CTX_PROC n), 24, 1⟩
/-- RW. R295 -/
def CAM_CTX_PROC_RUNMIN (n : Nat) : Fld := ⟨(CAM_CTX_PROC n), 28, 3⟩
/-- RW. Shadow TSEG, MINSIG (R314). -/
def CAM_CTX_SEG (n : Nat) : Nat := 0x122058 + n * 0x100
/-- RW. 0.1 K (R295) -/
def CAM_CTX_SEG_TSEG (n : Nat) : Fld := ⟨(CAM_CTX_SEG n), 0, 16⟩
/-- RW. R293 -/
def CAM_CTX_SEG_MINSIG (n : Nat) : Fld := ⟨(CAM_CTX_SEG n), 16, 13⟩
/-- RO. Latest record, i = 0 to 7 (R299) (R314). -/
def CAM_CTX_FEAT (n i : Nat) : Nat := 0x122060 + n * 0x100 + i * 0x4
/-- RO. Setting in force ORG (R314). -/
def CAM_CTX_ACT_ORG (n : Nat) : Nat := 0x1220C0 + n * 0x100
/-- RO. Setting in force EXPO (R314). -/
def CAM_CTX_ACT_EXPO (n : Nat) : Nat := 0x1220C4 + n * 0x100
/-- RO. Setting in force GAIN (R314). -/
def CAM_CTX_ACT_GAIN (n : Nat) : Nat := 0x1220C8 + n * 0x100
/-- RO. Setting in force BLK01 (R314). -/
def CAM_CTX_ACT_BLK01 (n : Nat) : Nat := 0x1220CC + n * 0x100
/-- RO. Setting in force BLK23 (R314). -/
def CAM_CTX_ACT_BLK23 (n : Nat) : Nat := 0x1220D0 + n * 0x100
/-- RO. Setting in force PROC (R314). -/
def CAM_CTX_ACT_PROC (n : Nat) : Nat := 0x1220D4 + n * 0x100
/-- RO. Setting in force SEG (R314). -/
def CAM_CTX_ACT_SEG (n : Nat) : Nat := 0x1220D8 + n * 0x100
/-- RW. Trigger Volley [31:0] (R314). -/
def CAM_LY_TRIG_AT_LO (n : Nat) : Nat := 0x124800 + n * 0x40
/-- RW. Trigger Volley [63:32] (R314). -/
def CAM_LY_TRIG_AT_HI (n : Nat) : Nat := 0x124804 + n * 0x40
/-- RW. Arm, width, period (R314). -/
def CAM_LY_TRIG (n : Nat) : Nat := 0x124808 + n * 0x40
/-- RW. R301 -/
def CAM_LY_TRIG_ARM (n : Nat) : Fld := ⟨(CAM_LY_TRIG n), 0, 1⟩
/-- RW. µs -/
def CAM_LY_TRIG_TW (n : Nat) : Fld := ⟨(CAM_LY_TRIG n), 8, 8⟩
/-- RW. Volleys; 0: one trigger -/
def CAM_LY_TRIG_PERIOD (n : Nat) : Fld := ⟨(CAM_LY_TRIG n), 16, 16⟩
/-- RW. Strobe delay, length (R314). -/
def CAM_LY_STRB (n : Nat) : Nat := 0x12480C + n * 0x40
/-- RW. 0.1 µs (R302) -/
def CAM_LY_STRB_DLY (n : Nat) : Fld := ⟨(CAM_LY_STRB n), 0, 16⟩
/-- RW. 0.1 µs; 0: no strobe -/
def CAM_LY_STRB_LEN (n : Nat) : Fld := ⟨(CAM_LY_STRB n), 16, 16⟩
/-- RW. Archive base [31:0] (R314). -/
def CAM_LY_ARC_BASE_LO (n : Nat) : Nat := 0x124810 + n * 0x40
/-- RW. Archive base [39:32] (R314). -/
def CAM_LY_ARC_BASE_HI (n : Nat) : Nat := 0x124814 + n * 0x40
/-- RW. Address bits [39:32] -/
def CAM_LY_ARC_BASE_HI_ADDR (n : Nat) : Fld := ⟨(CAM_LY_ARC_BASE_HI n), 0, 8⟩
/-- RW. Slots (R314). -/
def CAM_LY_ARC_CFG (n : Nat) : Nat := 0x124818 + n * 0x40
/-- RW. R304 -/
def CAM_LY_ARC_CFG_SLOTS (n : Nat) : Fld := ⟨(CAM_LY_ARC_CFG n), 0, 9⟩
/-- RW. Read index, [7:0] (R314). -/
def CAM_LY_ARC_RD (n : Nat) : Nat := 0x12481C + n * 0x40
/-- RO. Write index, [7:0] (R314). -/
def CAM_LY_ARC_WR (n : Nat) : Nat := 0x124820 + n * 0x40
/-- RW. Dropped frames, saturating (R314). -/
def CAM_LY_ARC_DROP (n : Nat) : Nat := 0x124824 + n * 0x40
/-- RW. Enable, sources, UDP port (R346). -/
def MGT_CMD_CTRL : Nat := 0x010400
/-- RW. Command function per R18; READY at once -/
def MGT_CMD_CTRL_EN : Fld := ⟨MGT_CMD_CTRL, 0, 1⟩
/-- RW. Bit 4: E0 and E1; bit 5: Colud Link; bit 6: REG; bit 7: broadcast -/
def MGT_CMD_CTRL_SRC_EN : Fld := ⟨MGT_CMD_CTRL, 4, 4⟩
/-- RW. UDP port (R318) -/
def MGT_CMD_CTRL_PORT : Fld := ⟨MGT_CMD_CTRL, 16, 16⟩
/-- RO, W1C. State and latched flags (R346). -/
def MGT_CMD_STATUS : Nat := 0x010404
/-- RO. Function state per R18 -/
def MGT_CMD_STATUS_STATE : Fld := ⟨MGT_CMD_STATUS, 0, 3⟩
/-- W1C. R321 -/
def MGT_CMD_STATUS_BAD_FRAME : Fld := ⟨MGT_CMD_STATUS, 8, 1⟩
/-- W1C. R333 -/
def MGT_CMD_STATUS_LOAD_ERR : Fld := ⟨MGT_CMD_STATUS, 9, 1⟩
/-- W1C. R335 -/
def MGT_CMD_STATUS_START_FAIL : Fld := ⟨MGT_CMD_STATUS, 10, 1⟩
/-- W1C. R344 -/
def MGT_CMD_STATUS_MIR_SKIP : Fld := ⟨MGT_CMD_STATUS, 11, 1⟩
/-- RW. Accepted frames; wraps at 0xFFFF_FFFF (R346). -/
def MGT_CMD_ACC_CNT : Nat := 0x010408
/-- RW. Dropped frames (R321), saturating (R346). -/
def MGT_CMD_BAD_CNT : Nat := 0x01040C
/-- RW. Stale frames (R322), saturating (R346). -/
def MGT_CMD_STALE_CNT : Nat := 0x010410
/-- RO. Last SEQ, n = 0 to 8; MGT_SEQ7 reads 0 (R322) (R346). -/
def MGT_SEQ (n : Nat) : Nat := 0x010420 + n * 0x4
/-- RO. Batch state (R346). -/
def MGT_BATCH_STATUS : Nat := 0x010480
/-- RO. R332 -/
def MGT_BATCH_STATUS_STATE : Fld := ⟨MGT_BATCH_STATUS, 0, 4⟩
/-- RO. R333 (R346). -/
def MGT_BATCH_ID : Nat := 0x010484
/-- RO. R333 (R346). -/
def MGT_BATCH_LAYER : Nat := 0x010488
/-- RO. BEAMS of the Batch (R346). -/
def MGT_BATCH_MASK : Nat := 0x01048C
/-- RO. Beams of the last failed start (R335) (R346). -/
def MGT_BATCH_FAIL : Nat := 0x010490
/-- RO. R339 (R346). -/
def MGT_BATCH_SAFE : Nat := 0x010494
/-- RO. Start Volley [31:0] (R346). -/
def MGT_BATCH_START_VOL_LO : Nat := 0x010498
/-- RO. Start Volley [63:32] (R346). -/
def MGT_BATCH_START_VOL_HI : Nat := 0x01049C
/-- RO. Descriptor address [31:0] (R346). -/
def MGT_BATCH_DESC_LO : Nat := 0x0104A0
/-- RO. Descriptor address [39:32] (R346). -/
def MGT_BATCH_DESC_HI : Nat := 0x0104A4
/-- RO. Address bits [39:32] -/
def MGT_BATCH_DESC_HI_ADDR : Fld := ⟨MGT_BATCH_DESC_HI, 0, 8⟩
/-- RO. Next journal index (R346). -/
def MGT_JNL_WR : Nat := 0x010600
/-- RW. Selected index (R345) (R346). -/
def MGT_JNL_SEL : Nat := 0x010604
/-- RW. Mirror base [31:0] (R346). -/
def MGT_JNL_MIR_LO : Nat := 0x010608
/-- RW. Mirror base [39:32], enable (R346). -/
def MGT_JNL_MIR_HI : Nat := 0x01060C
/-- RW. Address bits [39:32] -/
def MGT_JNL_MIR_HI_ADDR : Fld := ⟨MGT_JNL_MIR_HI, 0, 8⟩
/-- RW. R344 -/
def MGT_JNL_MIR_HI_EN : Fld := ⟨MGT_JNL_MIR_HI, 31, 1⟩
/-- RO. Next index to mirror (R346). -/
def MGT_JNL_MIR_WR : Nat := 0x010610
/-- RW. Skipped entries, saturating (R346). -/
def MGT_JNL_MIR_SKIP : Nat := 0x010614
/-- RO. Selected entry word i = 0 to 7 (R346). -/
def MGT_JNL_D (n : Nat) : Nat := 0x010620 + n * 0x4
/-- RW. REG source frame buffer (R320) (R346). -/
def MGT_CMD_BUF (n : Nat) : Nat := 0x011000 + n * 0x4
/-- WO, RO, W1C. Go, busy, done (R346). -/
def MGT_CMD_GO : Nat := 0x011400
/-- WO. R320 -/
def MGT_CMD_GO_GO : Fld := ⟨MGT_CMD_GO, 0, 1⟩
/-- RO. R320 -/
def MGT_CMD_GO_BUSY : Fld := ⟨MGT_CMD_GO, 8, 1⟩
/-- W1C. R320 -/
def MGT_CMD_GO_DONE : Fld := ⟨MGT_CMD_GO, 9, 1⟩
/-- RW. Enable, options (R383). -/
def MOT_AX_CTRL (n : Nat) : Nat := 0x130000 + n * 0x100
/-- RW. R349 -/
def MOT_AX_CTRL_EN (n : Nat) : Fld := ⟨(MOT_AX_CTRL n), 0, 1⟩
/-- RW. R365 -/
def MOT_AX_CTRL_LA_EN (n : Nat) : Fld := ⟨(MOT_AX_CTRL n), 1, 1⟩
/-- RW. R366 -/
def MOT_AX_CTRL_STALL_ACT (n : Nat) : Fld := ⟨(MOT_AX_CTRL n), 2, 1⟩
/-- RW. 0: soft; 1: hard (R369) -/
def MOT_AX_CTRL_LIM_STOP (n : Nat) : Fld := ⟨(MOT_AX_CTRL n), 3, 1⟩
/-- RO, W1C. States and latched flags (R383). -/
def MOT_AX_STATUS (n : Nat) : Nat := 0x130004 + n * 0x100
/-- RO. Function state per R18 -/
def MOT_AX_STATUS_STATE (n : Nat) : Fld := ⟨(MOT_AX_STATUS n), 0, 3⟩
/-- RO. R353 -/
def MOT_AX_STATUS_MSTATE (n : Nat) : Fld := ⟨(MOT_AX_STATUS n), 4, 3⟩
/-- RO. R362 -/
def MOT_AX_STATUS_STRONG (n : Nat) : Fld := ⟨(MOT_AX_STATUS n), 7, 1⟩
/-- RO. R371, R372 -/
def MOT_AX_STATUS_HOMED (n : Nat) : Fld := ⟨(MOT_AX_STATUS n), 8, 1⟩
/-- W1C. R366 -/
def MOT_AX_STATUS_STALL (n : Nat) : Fld := ⟨(MOT_AX_STATUS n), 9, 1⟩
/-- W1C. R369 -/
def MOT_AX_STATUS_LIM_P (n : Nat) : Fld := ⟨(MOT_AX_STATUS n), 10, 1⟩
/-- W1C. R369 -/
def MOT_AX_STATUS_LIM_N (n : Nat) : Fld := ⟨(MOT_AX_STATUS n), 11, 1⟩
/-- W1C. R372 -/
def MOT_AX_STATUS_HOME_FAIL (n : Nat) : Fld := ⟨(MOT_AX_STATUS n), 12, 1⟩
/-- W1C. R367 -/
def MOT_AX_STATUS_OC (n : Nat) : Fld := ⟨(MOT_AX_STATUS n), 13, 1⟩
/-- W1C. R351 -/
def MOT_AX_STATUS_CFG_REFUSED (n : Nat) : Fld := ⟨(MOT_AX_STATUS n), 14, 1⟩
/-- WO. Command (R352), [3:0] (R383). -/
def MOT_AX_CMD (n : Nat) : Nat := 0x130008 + n * 0x100
/-- RW. Commanded position, signed microsteps (R383). -/
def MOT_AX_POS (n : Nat) : Nat := 0x13000C + n * 0x100
/-- RW. Target, signed microsteps (R383). -/
def MOT_AX_TARGET (n : Nat) : Nat := 0x130010 + n * 0x100
/-- RO. R356, signed (R383). -/
def MOT_AX_REMAIN (n : Nat) : Nat := 0x130014 + n * 0x100
/-- RW. Microsteps/s, [20:0], 1 to 2,000,000 (R383). -/
def MOT_AX_VMAX (n : Nat) : Nat := 0x130018 + n * 0x100
/-- RW. Microsteps/s², 1 to 0xFFFF_FFFF (R383). -/
def MOT_AX_AMAX (n : Nat) : Nat := 0x13001C + n * 0x100
/-- RW. Microsteps/s², 1 to 0xFFFF_FFFF (R383). -/
def MOT_AX_DMAX (n : Nat) : Nat := 0x130020 + n * 0x100
/-- RW. VSTART [15:0], VSTOP [31:16] (R383). -/
def MOT_AX_VSS (n : Nat) : Nat := 0x130024 + n * 0x100
/-- RO. Profile speed, signed (R383). -/
def MOT_AX_VACT (n : Nat) : Nat := 0x130028 + n * 0x100
/-- RW. IRUN, IHOLD, IRUN_MAX, HOLD_DLY (R383). -/
def MOT_AX_CUR (n : Nat) : Nat := 0x13002C + n * 0x100
/-- RW. Running scale -/
def MOT_AX_CUR_IRUN (n : Nat) : Fld := ⟨(MOT_AX_CUR n), 0, 8⟩
/-- RW. Standstill scale -/
def MOT_AX_CUR_IHOLD (n : Nat) : Fld := ⟨(MOT_AX_CUR n), 8, 8⟩
/-- RW. R365; a value below IRUN acts as IRUN -/
def MOT_AX_CUR_IRUN_MAX (n : Nat) : Fld := ⟨(MOT_AX_CUR n), 16, 8⟩
/-- RW. ms (R363) -/
def MOT_AX_CUR_HOLD_DLY (n : Nat) : Fld := ⟨(MOT_AX_CUR n), 24, 8⟩
/-- RW. Blank, decay, fast time, VGAIN (R383). -/
def MOT_AX_CHOP (n : Nat) : Nat := 0x130030 + n * 0x100
/-- RW. µs -/
def MOT_AX_CHOP_BLANK (n : Nat) : Fld := ⟨(MOT_AX_CHOP n), 0, 3⟩
/-- RW. R361 -/
def MOT_AX_CHOP_DECAY (n : Nat) : Fld := ⟨(MOT_AX_CHOP n), 4, 2⟩
/-- RW. µs -/
def MOT_AX_CHOP_FAST_T (n : Nat) : Fld := ⟨(MOT_AX_CHOP n), 8, 4⟩
/-- RW. R360 -/
def MOT_AX_CHOP_VGAIN (n : Nat) : Fld := ⟨(MOT_AX_CHOP n), 16, 16⟩
/-- RW. R362, [23:0] (R383). -/
def MOT_AX_QS_THR (n : Nat) : Nat := 0x130034 + n * 0x100
/-- RW. R362, [23:0] (R383). -/
def MOT_AX_QS_HYST (n : Nat) : Nat := 0x130038 + n * 0x100
/-- RW. UP, DN, STEP (R383). -/
def MOT_AX_LA (n : Nat) : Nat := 0x13003C + n * 0x100
/-- RW. R365 -/
def MOT_AX_LA_UP (n : Nat) : Fld := ⟨(MOT_AX_LA n), 0, 10⟩
/-- RW. R365 -/
def MOT_AX_LA_DN (n : Nat) : Fld := ⟨(MOT_AX_LA n), 16, 10⟩
/-- RW. 0 acts as 1 -/
def MOT_AX_LA_STEP (n : Nat) : Fld := ⟨(MOT_AX_LA n), 28, 4⟩
/-- RW. THR, N (R383). -/
def MOT_AX_STALL (n : Nat) : Nat := 0x130040 + n * 0x100
/-- RW. 0 disables (R366) -/
def MOT_AX_STALL_THR (n : Nat) : Fld := ⟨(MOT_AX_STALL n), 0, 10⟩
/-- RW. R366 -/
def MOT_AX_STALL_N (n : Nat) : Fld := ⟨(MOT_AX_STALL n), 16, 8⟩
/-- RW. R364 (R383). -/
def MOT_AX_LOAD_KV (n : Nat) : Nat := 0x130044 + n * 0x100
/-- RO. LOAD, SCALE (R383). -/
def MOT_AX_LOAD (n : Nat) : Nat := 0x130048 + n * 0x100
/-- RO. R364 -/
def MOT_AX_LOAD_LOAD (n : Nat) : Fld := ⟨(MOT_AX_LOAD n), 0, 10⟩
/-- RO. R358 -/
def MOT_AX_LOAD_SCALE (n : Nat) : Fld := ⟨(MOT_AX_LOAD n), 16, 8⟩
/-- RW. Sense codes, [11:0]; 0 disables (R383). -/
def MOT_AX_OC_LIM (n : Nat) : Nat := 0x13004C + n * 0x100
/-- RW. OFS_A [11:0], OFS_B [27:16] (R383). -/
def MOT_AX_SENSE_OFS (n : Nat) : Nat := 0x130050 + n * 0x100
/-- RW. Limit and home selectors (R383). -/
def MOT_AX_LIMSEL (n : Nat) : Nat := 0x130054 + n * 0x100
/-- RW. R368 -/
def MOT_AX_LIMSEL_POS_SEL (n : Nat) : Fld := ⟨(MOT_AX_LIMSEL n), 0, 5⟩
/-- RW. R368 -/
def MOT_AX_LIMSEL_NEG_SEL (n : Nat) : Fld := ⟨(MOT_AX_LIMSEL n), 8, 5⟩
/-- RW. R368 -/
def MOT_AX_LIMSEL_HOME_SEL (n : Nat) : Fld := ⟨(MOT_AX_LIMSEL n), 16, 5⟩
/-- RW. Mode, direction, encoder (R383). -/
def MOT_AX_HOME_CFG (n : Nat) : Nat := 0x130058 + n * 0x100
/-- RW. R370 -/
def MOT_AX_HOME_CFG_MODE (n : Nat) : Fld := ⟨(MOT_AX_HOME_CFG n), 0, 2⟩
/-- RW. 0: +; 1: - -/
def MOT_AX_HOME_CFG_DIR (n : Nat) : Fld := ⟨(MOT_AX_HOME_CFG n), 4, 1⟩
/-- RW. Quadrature input -/
def MOT_AX_HOME_CFG_QE (n : Nat) : Fld := ⟨(MOT_AX_HOME_CFG n), 8, 3⟩
/-- RW. R371 -/
def MOT_AX_HOME_CFG_QEZERO (n : Nat) : Fld := ⟨(MOT_AX_HOME_CFG n), 12, 1⟩
/-- RW. V1 [15:0], V2 [31:16] (R383). -/
def MOT_AX_HOME_V (n : Nat) : Nat := 0x13005C + n * 0x100
/-- RW. Microsteps; 0 disables (R383). -/
def MOT_AX_HOME_MAXD (n : Nat) : Nat := 0x130060 + n * 0x100
/-- RW. Signed microsteps (R383). -/
def MOT_AX_HOME_OFS (n : Nat) : Nat := 0x130064 + n * 0x100
/-- RO. Last reference (R383). -/
def MOT_AX_HOME_REF (n : Nat) : Nat := 0x130068 + n * 0x100
/-- RW. Stalls, saturating (R383). -/
def MOT_AX_STALL_CNT (n : Nat) : Nat := 0x13006C + n * 0x100
/-- RO. Last ADC codes A [11:0], B [27:16] (R383). -/
def MOT_AX_SENSE (n : Nat) : Nat := 0x130070 + n * 0x100
/-- RW. Table entry, [11:0] (R383). -/
def MOT_AX_TBL (n i : Nat) : Nat := 0x131000 + n * 0x400 + i * 0x4
/-- RW. Enable, filter, options (R384). -/
def PFB_QE_CFG (n : Nat) : Nat := 0x140000 + n * 0x40
/-- RW. R380 -/
def PFB_QE_CFG_EN (n : Nat) : Fld := ⟨(PFB_QE_CFG n), 0, 1⟩
/-- RW. MOTION cycles (R373) -/
def PFB_QE_CFG_FILT (n : Nat) : Fld := ⟨(PFB_QE_CFG n), 8, 8⟩
/-- RW. Bits: A, B, I -/
def PFB_QE_CFG_POL (n : Nat) : Fld := ⟨(PFB_QE_CFG n), 16, 3⟩
/-- RW. R374 -/
def PFB_QE_CFG_DIR (n : Nat) : Fld := ⟨(PFB_QE_CFG n), 20, 1⟩
/-- RW. R378 -/
def PFB_QE_CFG_IGATE (n : Nat) : Fld := ⟨(PFB_QE_CFG n), 21, 1⟩
/-- RW. R378 -/
def PFB_QE_CFG_REZERO (n : Nat) : Fld := ⟨(PFB_QE_CFG n), 22, 1⟩
/-- RW. Bits: A, B, I (R379) -/
def PFB_QE_CFG_STUCK_EN (n : Nat) : Fld := ⟨(PFB_QE_CFG n), 24, 3⟩
/-- RO, W1C. State, levels, flags (R384). -/
def PFB_QE_STATUS (n : Nat) : Nat := 0x140004 + n * 0x40
/-- RO. Function state per R18 -/
def PFB_QE_STATUS_STATE (n : Nat) : Fld := ⟨(PFB_QE_STATUS n), 0, 3⟩
/-- RO. Filtered A, B, I -/
def PFB_QE_STATUS_LVL (n : Nat) : Fld := ⟨(PFB_QE_STATUS n), 4, 3⟩
/-- RO. R378 -/
def PFB_QE_STATUS_IDX_SEEN (n : Nat) : Fld := ⟨(PFB_QE_STATUS n), 7, 1⟩
/-- W1C. R375 -/
def PFB_QE_STATUS_ILLEGAL (n : Nat) : Fld := ⟨(PFB_QE_STATUS n), 8, 1⟩
/-- W1C. R378 -/
def PFB_QE_STATUS_IDX_ERR (n : Nat) : Fld := ⟨(PFB_QE_STATUS n), 9, 1⟩
/-- W1C. R376 -/
def PFB_QE_STATUS_OVERSPEED (n : Nat) : Fld := ⟨(PFB_QE_STATUS n), 10, 1⟩
/-- W1C. Bits: A, B, I (R379) -/
def PFB_QE_STATUS_STUCK (n : Nat) : Fld := ⟨(PFB_QE_STATUS n), 11, 3⟩
/-- W1C. R380 -/
def PFB_QE_STATUS_CFG_REFUSED (n : Nat) : Fld := ⟨(PFB_QE_STATUS n), 14, 1⟩
/-- RW. Counts, signed, wraps (R384). -/
def PFB_QE_POS (n : Nat) : Nat := 0x140008 + n * 0x40
/-- RW. Lines per index, [19:0]; 0 disables (R384). -/
def PFB_QE_LINES (n : Nat) : Nat := 0x14000C + n * 0x40
/-- RW. Counts, [7:0] (R384). -/
def PFB_QE_IDX_TOL (n : Nat) : Nat := 0x140010 + n * 0x40
/-- RO. POS at the last index (R384). -/
def PFB_QE_IDX_POS (n : Nat) : Nat := 0x140014 + n * 0x40
/-- RO. R377, signed (R384). -/
def PFB_QE_SPEED (n : Nat) : Nat := 0x140018 + n * 0x40
/-- RW. ms, [15:0] (R384). -/
def PFB_QE_STUCK_T (n : Nat) : Nat := 0x14001C + n * 0x40
/-- RW. Illegal transitions, saturating (R384). -/
def PFB_QE_ILL_CNT (n : Nat) : Nat := 0x140020 + n * 0x40
/-- RW. Index mismatches, saturating (R384). -/
def PFB_QE_IDX_ERR_CNT (n : Nat) : Nat := 0x140024 + n * 0x40
/-- RW. Rejected changes, saturating (R384). -/
def PFB_QE_REJ_CNT (n : Nat) : Nat := 0x140028 + n * 0x40
/-- RW. Index events, wraps (R384). -/
def PFB_QE_IDX_CNT (n : Nat) : Nat := 0x14002C + n * 0x40
/-- RW. Enable, source, invert, edge spacing (R384). -/
def PFB_EO_CFG (n : Nat) : Nat := 0x140400 + n * 0x20
/-- RW. R381 -/
def PFB_EO_CFG_EN (n : Nat) : Fld := ⟨(PFB_EO_CFG n), 0, 1⟩
/-- RW. R381 -/
def PFB_EO_CFG_SRC (n : Nat) : Fld := ⟨(PFB_EO_CFG n), 8, 4⟩
/-- RW. R381 -/
def PFB_EO_CFG_INV (n : Nat) : Fld := ⟨(PFB_EO_CFG n), 12, 1⟩
/-- RW. MOTION cycles (R382) -/
def PFB_EO_CFG_MIN_T (n : Nat) : Fld := ⟨(PFB_EO_CFG n), 16, 8⟩
/-- RO, W1C. State, lag (R384). -/
def PFB_EO_STATUS (n : Nat) : Nat := 0x140404 + n * 0x20
/-- RO. Function state per R18 -/
def PFB_EO_STATUS_STATE (n : Nat) : Fld := ⟨(PFB_EO_STATUS n), 0, 3⟩
/-- W1C. R382 -/
def PFB_EO_STATUS_LAG (n : Nat) : Fld := ⟨(PFB_EO_STATUS n), 8, 1⟩
/-- RW. [15:0] (R384). -/
def PFB_EO_NUM (n : Nat) : Nat := 0x140408 + n * 0x20
/-- RW. [15:0] (R384). -/
def PFB_EO_DEN (n : Nat) : Nat := 0x14040C + n * 0x20
/-- RW. Counts per index, [23:0]; 0: no index (R384). -/
def PFB_EO_OUT_CPR (n : Nat) : Nat := 0x140410 + n * 0x20
/-- RO. Emitted count, signed (R384). -/
def PFB_EO_POS (n : Nat) : Nat := 0x140414 + n * 0x20
/-- RW. Inactive level of LIMk, bit k (R384). -/
def PFB_LIM_POL : Nat := 0x140600
/-- RW. T in µs, [7:0] (R384). -/
def PFB_LIM_FILT : Nat := 0x140604
/-- RO. Bit k: LIMk active (R384). -/
def PFB_LIM_ACT : Nat := 0x140608
/-- RW. Interleave (R420). -/
def MEM_CTRL : Nat := 0x080000
/-- RW. R392 -/
def MEM_CTRL_ILV : Fld := ⟨MEM_CTRL, 0, 1⟩
/-- RO, W1C. Freeze, latched flags (R420). -/
def MEM_STATUS : Nat := 0x080004
/-- RO. R403 -/
def MEM_STATUS_FROZEN : Fld := ⟨MEM_STATUS, 0, 1⟩
/-- RO. Channel whose error froze the controller -/
def MEM_STATUS_FCAUSE : Fld := ⟨MEM_STATUS, 1, 1⟩
/-- W1C. R391, R412, R415 -/
def MEM_STATUS_CFG_REFUSED : Fld := ⟨MEM_STATUS, 8, 1⟩
/-- WO. Release key (R404) (R420). -/
def MEM_FREEZE_REL : Nat := 0x080008
/-- RW. VMIN (R396) (R420). -/
def MEM_QOS : Nat := 0x08000C
/-- RW. 0 to 16; a write above 16 stores 16 -/
def MEM_QOS_VMIN : Fld := ⟨MEM_QOS, 0, 5⟩
/-- RW. Return timeout, µs, [15:0] (R420). -/
def MEM_RET_TO : Nat := 0x080010
/-- RW. Revoked return paths, saturating (R420). -/
def MEM_RET_REVOKE_CNT : Nat := 0x080014
/-- RW. Freezes, saturating (R420). -/
def MEM_FREEZE_CNT : Nat := 0x080018
/-- RW. Unmapped requests, saturating (R420). -/
def MEM_NOMAP_CNT : Nat := 0x08001C
/-- RW. Address [31:0]; [5:0] read 0 (R420). -/
def MEM_DIAG_ADDR_LO : Nat := 0x080020
/-- RW. Address [39:32] (R420). -/
def MEM_DIAG_ADDR_HI : Nat := 0x080024
/-- RW, WO, RO, W1C. Go, mode, busy, done (R420). -/
def MEM_DIAG_CTRL : Nat := 0x080028
/-- WO. R419 -/
def MEM_DIAG_CTRL_GO : Fld := ⟨MEM_DIAG_CTRL, 0, 1⟩
/-- RW. R419 -/
def MEM_DIAG_CTRL_PHYS : Fld := ⟨MEM_DIAG_CTRL, 1, 1⟩
/-- RW. Channel when PHYS = 1 -/
def MEM_DIAG_CTRL_CH : Fld := ⟨MEM_DIAG_CTRL, 4, 1⟩
/-- RW. Physical rank when PHYS = 1 -/
def MEM_DIAG_CTRL_RANK : Fld := ⟨MEM_DIAG_CTRL, 6, 2⟩
/-- RO. R419 -/
def MEM_DIAG_CTRL_BUSY : Fld := ⟨MEM_DIAG_CTRL, 8, 1⟩
/-- W1C. R419 -/
def MEM_DIAG_CTRL_DONE : Fld := ⟨MEM_DIAG_CTRL, 9, 1⟩
/-- RO. Data word i = 0 to 15 (R420). -/
def MEM_DIAG_DATA (n : Nat) : Nat := 0x080040 + n * 0x4
/-- RO. Check word i = 0 to 3 (R420). -/
def MEM_DIAG_CHK (n : Nat) : Nat := 0x080080 + n * 0x4
/-- RW. Enable (R420). -/
def MEM_M_CTRL (n : Nat) : Nat := 0x081000 + n * 0x1000
/-- RW. R390 -/
def MEM_M_CTRL_EN (n : Nat) : Fld := ⟨(MEM_M_CTRL n), 0, 1⟩
/-- RO, W1C. State, HOT, MARGIN (R420). -/
def MEM_M_STATUS (n : Nat) : Nat := 0x081004 + n * 0x1000
/-- RO. Function state per R18 -/
def MEM_M_STATUS_STATE (n : Nat) : Fld := ⟨(MEM_M_STATUS n), 0, 3⟩
/-- RO. R410 -/
def MEM_M_STATUS_HOT (n : Nat) : Fld := ⟨(MEM_M_STATUS n), 3, 1⟩
/-- W1C. R414 -/
def MEM_M_STATUS_MARGIN (n : Nat) : Fld := ⟨(MEM_M_STATUS n), 8, 1⟩
/-- RW. Rate, device, ranks (R420). -/
def MEM_M_CFG (n : Nat) : Nat := 0x081008 + n * 0x1000
/-- RW. R389 -/
def MEM_M_CFG_RATE (n : Nat) : Fld := ⟨(MEM_M_CFG n), 0, 4⟩
/-- RW. 0: x4; 1: x8 -/
def MEM_M_CFG_WIDTH (n : Nat) : Fld := ⟨(MEM_M_CFG n), 4, 1⟩
/-- RW. 0: 16 Gb; 1: 32 Gb -/
def MEM_M_CFG_DENS (n : Nat) : Fld := ⟨(MEM_M_CFG n), 5, 1⟩
/-- RW. R389 -/
def MEM_M_CFG_RDIMM (n : Nat) : Fld := ⟨(MEM_M_CFG n), 6, 1⟩
/-- RW. Physical ranks, 0 to 4; 0: channel absent; 5 to 7 are stored as written and make the channel enter FAULT at enable (R390) -/
def MEM_M_CFG_RANKS (n : Nat) : Fld := ⟨(MEM_M_CFG n), 8, 3⟩
/-- RW, RO. Spare rank (R420). -/
def MEM_M_SPARE (n : Nat) : Nat := 0x08100C + n * 0x1000
/-- RW. R405 -/
def MEM_M_SPARE_EN (n : Nat) : Fld := ⟨(MEM_M_SPARE n), 0, 1⟩
/-- RW. Spare physical rank -/
def MEM_M_SPARE_RANK (n : Nat) : Fld := ⟨(MEM_M_SPARE n), 4, 2⟩
/-- RO. R405 -/
def MEM_M_SPARE_BAD (n : Nat) : Fld := ⟨(MEM_M_SPARE n), 8, 1⟩
/-- RO. A migration has taken the spare -/
def MEM_M_SPARE_USED (n : Nat) : Fld := ⟨(MEM_M_SPARE n), 9, 1⟩
/-- RW, RO. Logical to physical ranks (R420). -/
def MEM_M_RANKMAP (n : Nat) : Nat := 0x081010 + n * 0x1000
/-- RW. Physical rank of logical rank l = 0 to 3; changed by R409 -/
def MEM_M_RANKMAP_MAP (n : Nat) : Fld := ⟨(MEM_M_RANKMAP n), 0, 8⟩
/-- RO. Mapped capacity, GiB (R420). -/
def MEM_M_CAP (n : Nat) : Nat := 0x081014 + n * 0x1000
/-- RO. CAPn in GiB (R392) -/
def MEM_M_CAP_GIB (n : Nat) : Fld := ⟨(MEM_M_CAP n), 0, 8⟩
/-- RW. Refresh mode (R420). -/
def MEM_M_REF (n : Nat) : Nat := 0x081018 + n * 0x1000
/-- RW. R410 -/
def MEM_M_REF_SB (n : Nat) : Fld := ⟨(MEM_M_REF n), 0, 1⟩
/-- RW. Eighths kept, 8 bits per physical rank (R420). -/
def MEM_M_PASR (n : Nat) : Nat := 0x08101C + n * 0x1000
/-- W1C. LOST bits, 8 per physical rank (R411) (R420). -/
def MEM_M_LOST (n : Nat) : Nat := 0x081020 + n * 0x1000
/-- WO, RO. Self-refresh enter, exit, active (R420). -/
def MEM_M_SR (n : Nat) : Nat := 0x081024 + n * 0x1000
/-- WO. R412 -/
def MEM_M_SR_ENTER (n : Nat) : Fld := ⟨(MEM_M_SR n), 0, 1⟩
/-- WO. R412 -/
def MEM_M_SR_EXIT (n : Nat) : Fld := ⟨(MEM_M_SR n), 1, 1⟩
/-- RO. R412 -/
def MEM_M_SR_ACTIVE (n : Nat) : Fld := ⟨(MEM_M_SR n), 8, 1⟩
/-- RW. Period, ms (R420). -/
def MEM_M_RETRAIN (n : Nat) : Nat := 0x081028 + n * 0x1000
/-- RW. ms; 0 disables (R414) -/
def MEM_M_RETRAIN_PERIOD (n : Nat) : Fld := ⟨(MEM_M_RETRAIN n), 0, 8⟩
/-- WO, RO, W1C. Full training (R420). -/
def MEM_M_TRAIN (n : Nat) : Nat := 0x08102C + n * 0x1000
/-- WO. R415 -/
def MEM_M_TRAIN_GO (n : Nat) : Fld := ⟨(MEM_M_TRAIN n), 0, 1⟩
/-- RO. R415 -/
def MEM_M_TRAIN_BUSY (n : Nat) : Fld := ⟨(MEM_M_TRAIN n), 8, 1⟩
/-- W1C. R415 -/
def MEM_M_TRAIN_DONE (n : Nat) : Fld := ⟨(MEM_M_TRAIN n), 9, 1⟩
/-- W1C. R415 -/
def MEM_M_TRAIN_ERR (n : Nat) : Fld := ⟨(MEM_M_TRAIN n), 10, 1⟩
/-- RW. Guard threshold, radius, mode (R420). -/
def MEM_M_ACG (n : Nat) : Nat := 0x081030 + n * 0x1000
/-- RW. R416; 0 disables -/
def MEM_M_ACG_THR (n : Nat) : Fld := ⟨(MEM_M_ACG n), 0, 16⟩
/-- RW. R417 -/
def MEM_M_ACG_RADIUS (n : Nat) : Fld := ⟨(MEM_M_ACG n), 16, 3⟩
/-- RW. R417 -/
def MEM_M_ACG_MODE (n : Nat) : Fld := ⟨(MEM_M_ACG n), 20, 1⟩
/-- RW. Enable, hours (R420). -/
def MEM_M_SCRUB (n : Nat) : Nat := 0x081034 + n * 0x1000
/-- RW. R418 -/
def MEM_M_SCRUB_EN (n : Nat) : Fld := ⟨(MEM_M_SCRUB n), 0, 1⟩
/-- RW. R418 -/
def MEM_M_SCRUB_HOURS (n : Nat) : Fld := ⟨(MEM_M_SCRUB n), 8, 8⟩
/-- RO. Rank and block being read (R420). -/
def MEM_M_SCRUB_POS (n : Nat) : Nat := 0x081038 + n * 0x1000
/-- RO. Block within the rank -/
def MEM_M_SCRUB_POS_BLOCK (n : Nat) : Fld := ⟨(MEM_M_SCRUB_POS n), 0, 30⟩
/-- RO. Physical rank -/
def MEM_M_SCRUB_POS_RANK (n : Nat) : Fld := ⟨(MEM_M_SCRUB_POS n), 30, 2⟩
/-- RW. Passes, wraps (R420). -/
def MEM_M_SCRUB_PASS (n : Nat) : Nat := 0x08103C + n * 0x1000
/-- RW, RO. Share, state, failed rank (R420). -/
def MEM_M_MIG (n : Nat) : Nat := 0x081040 + n * 0x1000
/-- RW. R408 -/
def MEM_M_MIG_SHARE (n : Nat) : Fld := ⟨(MEM_M_MIG n), 0, 4⟩
/-- RO. 0b00: IDLE; 0b01: RUNNING; 0b10: DONE -/
def MEM_M_MIG_STATE (n : Nat) : Fld := ⟨(MEM_M_MIG n), 8, 2⟩
/-- RO. Retired physical rank -/
def MEM_M_MIG_FAILED (n : Nat) : Fld := ⟨(MEM_M_MIG n), 12, 2⟩
/-- RO. Next block to copy (R420). -/
def MEM_M_MIG_PTR (n : Nat) : Nat := 0x081044 + n * 0x1000
/-- RO. R407 -/
def MEM_M_MIG_PTR_BLOCK (n : Nat) : Fld := ⟨(MEM_M_MIG_PTR n), 0, 30⟩
/-- RW, WO, RO, W1C. Fill rank, mask, go, busy, done (R420). -/
def MEM_M_INIT (n : Nat) : Nat := 0x081048 + n * 0x1000
/-- WO. R413 -/
def MEM_M_INIT_GO (n : Nat) : Fld := ⟨(MEM_M_INIT n), 0, 1⟩
/-- RW. Physical rank -/
def MEM_M_INIT_RANK (n : Nat) : Fld := ⟨(MEM_M_INIT n), 4, 2⟩
/-- RW. Eighths to fill -/
def MEM_M_INIT_MASK (n : Nat) : Fld := ⟨(MEM_M_INIT n), 8, 8⟩
/-- RO. R413 -/
def MEM_M_INIT_BUSY (n : Nat) : Fld := ⟨(MEM_M_INIT n), 16, 1⟩
/-- W1C. R413 -/
def MEM_M_INIT_DONE (n : Nat) : Fld := ⟨(MEM_M_INIT n), 17, 1⟩
/-- RW. Correctable errors, saturating (R420). -/
def MEM_M_CE_CNT (n : Nat) : Nat := 0x081050 + n * 0x1000
/-- RW. Class V uncorrectable, saturating (R420). -/
def MEM_M_UE_V_CNT (n : Nat) : Nat := 0x081054 + n * 0x1000
/-- RW. Class K uncorrectable, saturating (R420). -/
def MEM_M_UE_K_CNT (n : Nat) : Nat := 0x081058 + n * 0x1000
/-- RW. Poisoned copies, saturating (R420). -/
def MEM_M_MIG_POISON_CNT (n : Nat) : Nat := 0x08105C + n * 0x1000
/-- RW. Neighbour refreshes, saturating (R420). -/
def MEM_M_ACG_CNT (n : Nat) : Nat := 0x081060 + n * 0x1000
/-- RW. Reads of LOST eighths, saturating (R420). -/
def MEM_M_LOST_RD_CNT (n : Nat) : Nat := 0x081064 + n * 0x1000
/-- RW. Held reads, wraps (R420). -/
def MEM_M_HAZ_CNT (n : Nat) : Nat := 0x081068 + n * 0x1000
/-- RO. Address [31:0] (R420). -/
def MEM_M_LAST_CE_LO (n : Nat) : Nat := 0x081070 + n * 0x1000
/-- RO. Address [39:32], details (R420). -/
def MEM_M_LAST_CE_HI (n : Nat) : Nat := 0x081074 + n * 0x1000
/-- RO. Address bits [39:32] -/
def MEM_M_LAST_CE_HI_ADDR (n : Nat) : Fld := ⟨(MEM_M_LAST_CE_HI n), 0, 8⟩
/-- RO. Physical rank -/
def MEM_M_LAST_CE_HI_RANK (n : Nat) : Fld := ⟨(MEM_M_LAST_CE_HI n), 8, 2⟩
/-- RO. Subchannel -/
def MEM_M_LAST_CE_HI_SC (n : Nat) : Fld := ⟨(MEM_M_LAST_CE_HI n), 10, 1⟩
/-- RO. 0: V; 1: K -/
def MEM_M_LAST_CE_HI_CLASS (n : Nat) : Fld := ⟨(MEM_M_LAST_CE_HI n), 11, 1⟩
/-- RO. 0: demand; 1: scrub; 2: mover; 3: merge -/
def MEM_M_LAST_CE_HI_SRC (n : Nat) : Fld := ⟨(MEM_M_LAST_CE_HI n), 12, 2⟩
/-- RO. Lane group corrected, 0 to 9 -/
def MEM_M_LAST_CE_HI_GROUP (n : Nat) : Fld := ⟨(MEM_M_LAST_CE_HI n), 16, 4⟩
/-- RO. Address [31:0] (R420). -/
def MEM_M_LAST_UE_LO (n : Nat) : Nat := 0x081078 + n * 0x1000
/-- RO. Address [39:32], details (R420). -/
def MEM_M_LAST_UE_HI (n : Nat) : Nat := 0x08107C + n * 0x1000
/-- RO. Address bits [39:32] -/
def MEM_M_LAST_UE_HI_ADDR (n : Nat) : Fld := ⟨(MEM_M_LAST_UE_HI n), 0, 8⟩
/-- RO. Physical rank -/
def MEM_M_LAST_UE_HI_RANK (n : Nat) : Fld := ⟨(MEM_M_LAST_UE_HI n), 8, 2⟩
/-- RO. Subchannel -/
def MEM_M_LAST_UE_HI_SC (n : Nat) : Fld := ⟨(MEM_M_LAST_UE_HI n), 10, 1⟩
/-- RO. 0: V; 1: K -/
def MEM_M_LAST_UE_HI_CLASS (n : Nat) : Fld := ⟨(MEM_M_LAST_UE_HI n), 11, 1⟩
/-- RO. 0: demand; 1: scrub; 2: mover; 3: merge -/
def MEM_M_LAST_UE_HI_SRC (n : Nat) : Fld := ⟨(MEM_M_LAST_UE_HI n), 12, 2⟩
/-- RO. The block was poisoned (R401) -/
def MEM_M_LAST_UE_HI_POISON (n : Nat) : Fld := ⟨(MEM_M_LAST_UE_HI n), 14, 1⟩
/-- RO. Bit n: channel n RUNNING (R453). -/
def DMA_RUNNING : Nat := 0x090000
/-- RO. Bit n: channel n HALTED (R453). -/
def DMA_HALTED : Nat := 0x090004
/-- RO. Bursts in flight and peak (R453). -/
def DMA_SLOTS : Nat := 0x090008
/-- RO. Bursts in flight, 0 to 64 -/
def DMA_SLOTS_USED : Fld := ⟨DMA_SLOTS, 0, 7⟩
/-- RO. Highest USED since reset; never falls -/
def DMA_SLOTS_PEAK : Fld := ⟨DMA_SLOTS, 16, 7⟩
/-- RW. Enable, priority, retry (R453). -/
def DMA_CH_CTRL (n : Nat) : Nat := 0x091000 + n * 0x40
/-- RW. R423 -/
def DMA_CH_CTRL_EN (n : Nat) : Fld := ⟨(DMA_CH_CTRL n), 0, 1⟩
/-- RW. 0 highest, 3 lowest (R435) -/
def DMA_CH_CTRL_PRI (n : Nat) : Fld := ⟨(DMA_CH_CTRL n), 4, 2⟩
/-- RW. R438 -/
def DMA_CH_CTRL_RETRY (n : Nat) : Fld := ⟨(DMA_CH_CTRL n), 8, 4⟩
/-- RW. µs (R438) -/
def DMA_CH_CTRL_RGAP (n : Nat) : Fld := ⟨(DMA_CH_CTRL n), 16, 8⟩
/-- RO, W1C. States, cause, latched flags (R453). -/
def DMA_CH_STATUS (n : Nat) : Nat := 0x091004 + n * 0x40
/-- RO. Function state per R18 -/
def DMA_CH_STATUS_STATE (n : Nat) : Fld := ⟨(DMA_CH_STATUS n), 0, 3⟩
/-- RO. R427 -/
def DMA_CH_STATUS_CSTATE (n : Nat) : Fld := ⟨(DMA_CH_STATUS n), 4, 2⟩
/-- RO. R429 -/
def DMA_CH_STATUS_DOOR_PEND (n : Nat) : Fld := ⟨(DMA_CH_STATUS n), 6, 1⟩
/-- RO. R439 -/
def DMA_CH_STATUS_CAUSE (n : Nat) : Fld := ⟨(DMA_CH_STATUS n), 8, 4⟩
/-- W1C. R439 -/
def DMA_CH_STATUS_HALT (n : Nat) : Fld := ⟨(DMA_CH_STATUS n), 16, 1⟩
/-- W1C. R433 -/
def DMA_CH_STATUS_CFG_REFUSED (n : Nat) : Fld := ⟨(DMA_CH_STATUS n), 17, 1⟩
/-- RW. First descriptor [31:0]; [4:0] read 0 (R453). -/
def DMA_CH_HEAD_LO (n : Nat) : Nat := 0x091008 + n * 0x40
/-- RW. First descriptor [39:32] (R453). -/
def DMA_CH_HEAD_HI (n : Nat) : Nat := 0x09100C + n * 0x40
/-- RW. Address bits [39:32] -/
def DMA_CH_HEAD_HI_ADDR (n : Nat) : Fld := ⟨(DMA_CH_HEAD_HI n), 0, 8⟩
/-- WO. Doorbell (R429) (R453). -/
def DMA_CH_DOOR (n : Nat) : Nat := 0x091010 + n * 0x40
/-- WO. R429 -/
def DMA_CH_DOOR_RING (n : Nat) : Fld := ⟨(DMA_CH_DOOR n), 0, 1⟩
/-- WO. Abort (R432) (R453). -/
def DMA_CH_CMD (n : Nat) : Nat := 0x091014 + n * 0x40
/-- WO. R432 -/
def DMA_CH_CMD_ABORT (n : Nat) : Fld := ⟨(DMA_CH_CMD n), 0, 1⟩
/-- RO. Current descriptor [31:0] (R453). -/
def DMA_CH_CUR_LO (n : Nat) : Nat := 0x091018 + n * 0x40
/-- RO. Current descriptor [39:32] (R453). -/
def DMA_CH_CUR_HI (n : Nat) : Nat := 0x09101C + n * 0x40
/-- RO. Source bytes not yet read (R453). -/
def DMA_CH_REMAIN (n : Nat) : Nat := 0x091020 + n * 0x40
/-- RO. Output bytes of the current or last descriptor (R453). -/
def DMA_CH_OCNT (n : Nat) : Nat := 0x091024 + n * 0x40
/-- RW. Completed descriptors, wraps (R453). -/
def DMA_CH_DONE_CNT (n : Nat) : Nat := 0x091028 + n * 0x40
/-- RW. Failed accesses, saturating (R453). -/
def DMA_CH_ERR_CNT (n : Nat) : Nat := 0x09102C + n * 0x40
/-- RO. Next destination address [31:0] (R453). -/
def DMA_CH_DPTR_LO (n : Nat) : Nat := 0x091030 + n * 0x40
/-- RO. Next destination address [39:32] (R453). -/
def DMA_CH_DPTR_HI (n : Nat) : Nat := 0x091034 + n * 0x40
/-- RW. Enable, MAXW (R453). -/
def CMP_CTRL (n : Nat) : Nat := 0x0A0000 + n * 0x100
/-- RW. R440 -/
def CMP_CTRL_EN (n : Nat) : Fld := ⟨(CMP_CTRL n), 0, 1⟩
/-- RW. Compressors, 9 to 14; a write outside stores the nearer bound -/
def CMP_CTRL_MAXW (n : Nat) : Fld := ⟨(CMP_CTRL n), 8, 4⟩
/-- RO, W1C. States, owner, error (R453). -/
def CMP_STATUS (n : Nat) : Nat := 0x0A0004 + n * 0x100
/-- RO. Function state per R18 -/
def CMP_STATUS_STATE (n : Nat) : Fld := ⟨(CMP_STATUS n), 0, 3⟩
/-- RO. 0b00: IDLE; 0b01: STREAM; 0b10: ERROR -/
def CMP_STATUS_SSTATE (n : Nat) : Fld := ⟨(CMP_STATUS n), 4, 2⟩
/-- RO. Owning channel -/
def CMP_STATUS_OWNER (n : Nat) : Fld := ⟨(CMP_STATUS n), 8, 5⟩
/-- RO. 1: owned (R440) -/
def CMP_STATUS_OWNED (n : Nat) : Fld := ⟨(CMP_STATUS n), 13, 1⟩
/-- RO. R449 -/
def CMP_STATUS_SERR (n : Nat) : Fld := ⟨(CMP_STATUS n), 16, 4⟩
/-- W1C. R449 -/
def CMP_STATUS_ERR (n : Nat) : Fld := ⟨(CMP_STATUS n), 24, 1⟩
/-- W1C. R440 -/
def CMP_STATUS_CFG_REFUSED (n : Nat) : Fld := ⟨(CMP_STATUS n), 25, 1⟩
/-- RO. SEQ of the current block (R453). -/
def CMP_SEQ (n : Nat) : Nat := 0x0A0008 + n * 0x100
/-- RO. Running stream CRC-32C (R453). -/
def CMP_SCRC (n : Nat) : Nat := 0x0A000C + n * 0x100
/-- RW. Input bytes, wraps (R453). -/
def CMP_IN_CNT (n : Nat) : Nat := 0x0A0010 + n * 0x100
/-- RW. Output bytes, wraps (R453). -/
def CMP_OUT_CNT (n : Nat) : Nat := 0x0A0014 + n * 0x100
/-- RW. Blocks ended, wraps (R453). -/
def CMP_BLK_CNT (n : Nat) : Nat := 0x0A0018 + n * 0x100
/-- RW. Stream errors, saturating (R453). -/
def CMP_ERR_CNT (n : Nat) : Nat := 0x0A001C + n * 0x100
/-- WO. Reset (R440) (R453). -/
def CMP_CMD (n : Nat) : Nat := 0x0A0020 + n * 0x100
/-- WO. R440 -/
def CMP_CMD_RESET (n : Nat) : Fld := ⟨(CMP_CMD n), 0, 1⟩
/-- RW. C3 only: index base [31:0]; [3:0] read 0 (R453). -/
def CMP_IDX_BASE_LO (n : Nat) : Nat := 0x0A0040 + n * 0x100
/-- RW. C3 only: index base [39:32] (R453). -/
def CMP_IDX_BASE_HI (n : Nat) : Nat := 0x0A0044 + n * 0x100
/-- RW. Address bits [39:32] -/
def CMP_IDX_BASE_HI_ADDR (n : Nat) : Fld := ⟨(CMP_IDX_BASE_HI n), 0, 8⟩
/-- RW. C3 only: S (R453). -/
def CMP_IDX_CFG (n : Nat) : Nat := 0x0A0048 + n * 0x100
/-- RW. 4 to 16; a write outside stores the nearer bound -/
def CMP_IDX_CFG_S (n : Nat) : Fld := ⟨(CMP_IDX_CFG n), 0, 5⟩
/-- RO. C3 only: next record (R453). -/
def CMP_IDX_WR (n : Nat) : Nat := 0x0A004C + n * 0x100
/-- RW. Enable, rate, alignment, inversion, loopback, adaptation (R490). -/
def LANE_CTRL (n : Nat) : Nat := 0x040000 + n * 0x1000
/-- RW. R457 -/
def LANE_CTRL_EN (n : Nat) : Fld := ⟨(LANE_CTRL n), 0, 1⟩
/-- RW. 0: 10.3125 Gb/s; 1: 25.78125 Gb/s -/
def LANE_CTRL_RATE (n : Nat) : Fld := ⟨(LANE_CTRL n), 1, 1⟩
/-- RW. 0: header hunt; 1: bit-slip -/
def LANE_CTRL_ALIGN (n : Nat) : Fld := ⟨(LANE_CTRL n), 2, 1⟩
/-- RW. R458 -/
def LANE_CTRL_TX_INV (n : Nat) : Fld := ⟨(LANE_CTRL n), 4, 1⟩
/-- RW. R458 -/
def LANE_CTRL_RX_INV (n : Nat) : Fld := ⟨(LANE_CTRL n), 5, 1⟩
/-- RW. R466 -/
def LANE_CTRL_LOOP (n : Nat) : Fld := ⟨(LANE_CTRL n), 8, 2⟩
/-- RW. R462 -/
def LANE_CTRL_ADAPT (n : Nat) : Fld := ⟨(LANE_CTRL n), 12, 2⟩
/-- RO, W1C. State, signal, lock, latched flags (R490). -/
def LANE_STATUS (n : Nat) : Nat := 0x040004 + n * 0x1000
/-- RO. Function state per R18 -/
def LANE_STATUS_STATE (n : Nat) : Fld := ⟨(LANE_STATUS n), 0, 3⟩
/-- RO. Signal present (R459) -/
def LANE_STATUS_SIG (n : Nat) : Fld := ⟨(LANE_STATUS n), 3, 1⟩
/-- RO. Clock recovered (R459) -/
def LANE_STATUS_CDR (n : Nat) : Fld := ⟨(LANE_STATUS n), 4, 1⟩
/-- RO. Block lock (R460) -/
def LANE_STATUS_BLOCK (n : Nat) : Fld := ⟨(LANE_STATUS n), 5, 1⟩
/-- W1C. R459 -/
def LANE_STATUS_LOS (n : Nat) : Fld := ⟨(LANE_STATUS n), 8, 1⟩
/-- W1C. R459 -/
def LANE_STATUS_LOL (n : Nat) : Fld := ⟨(LANE_STATUS n), 9, 1⟩
/-- W1C. R460 -/
def LANE_STATUS_BLK_LOSS (n : Nat) : Fld := ⟨(LANE_STATUS n), 10, 1⟩
/-- W1C. R458 -/
def LANE_STATUS_CFG_REFUSED (n : Nat) : Fld := ⟨(LANE_STATUS n), 11, 1⟩
/-- WO. Bit slip (R461) (R490). -/
def LANE_SLIP (n : Nat) : Nat := 0x040008 + n * 0x1000
/-- WO. R461 -/
def LANE_SLIP_SLIP (n : Nat) : Fld := ⟨(LANE_SLIP n), 0, 1⟩
/-- RW. Transmit taps (R490). -/
def LANE_TX_EQ (n : Nat) : Nat := 0x04000C + n * 0x1000
/-- RW. Pre-cursor, 0 to 15 -/
def LANE_TX_EQ_PRE (n : Nat) : Fld := ⟨(LANE_TX_EQ n), 0, 4⟩
/-- RW. Main cursor, 0 to 31 -/
def LANE_TX_EQ_MAIN (n : Nat) : Fld := ⟨(LANE_TX_EQ n), 8, 5⟩
/-- RW. Post-cursor, 0 to 15 -/
def LANE_TX_EQ_POST (n : Nat) : Fld := ⟨(LANE_TX_EQ n), 16, 4⟩
/-- RW. Receive trims (R462) (R490). -/
def LANE_RX_EQ (n : Nat) : Nat := 0x040010 + n * 0x1000
/-- RW. Peaking, 0 to 15 -/
def LANE_RX_EQ_CTLE (n : Nat) : Fld := ⟨(LANE_RX_EQ n), 0, 4⟩
/-- RW. Signed taps -/
def LANE_RX_EQ_DFE1 (n : Nat) : Fld := ⟨(LANE_RX_EQ n), 4, 8⟩
/-- RW. Signed taps -/
def LANE_RX_EQ_DFE2 (n : Nat) : Fld := ⟨(LANE_RX_EQ n), 12, 8⟩
/-- RW. Signed taps -/
def LANE_RX_EQ_DFE3 (n : Nat) : Fld := ⟨(LANE_RX_EQ n), 20, 8⟩
/-- RO. Eye opening (R463) (R490). -/
def LANE_EYE (n : Nat) : Nat := 0x040014 + n * 0x1000
/-- RO. 1/64 UI -/
def LANE_EYE_W (n : Nat) : Fld := ⟨(LANE_EYE n), 0, 6⟩
/-- RO. mV -/
def LANE_EYE_H (n : Nat) : Fld := ⟨(LANE_EYE n), 8, 10⟩
/-- RW. Lowest eye for training (R490). -/
def LANE_EYE_MIN (n : Nat) : Nat := 0x040018 + n * 0x1000
/-- RW. 1/64 UI -/
def LANE_EYE_MIN_W_MIN (n : Nat) : Fld := ⟨(LANE_EYE_MIN n), 0, 6⟩
/-- RW. mV -/
def LANE_EYE_MIN_H_MIN (n : Nat) : Fld := ⟨(LANE_EYE_MIN n), 8, 10⟩
/-- RW. LOS threshold (R490). -/
def LANE_LOS_CFG (n : Nat) : Nat := 0x04001C + n * 0x1000
/-- RW. mV -/
def LANE_LOS_CFG_THR (n : Nat) : Fld := ⟨(LANE_LOS_CFG n), 0, 8⟩
/-- RW, WO. Generator, checker, injection (R490). -/
def LANE_PRBS_CTRL (n : Nat) : Nat := 0x040020 + n * 0x1000
/-- RW. R464 -/
def LANE_PRBS_CTRL_GEN (n : Nat) : Fld := ⟨(LANE_PRBS_CTRL n), 0, 1⟩
/-- RW. R464 -/
def LANE_PRBS_CTRL_CHK (n : Nat) : Fld := ⟨(LANE_PRBS_CTRL n), 1, 1⟩
/-- RW. R464 -/
def LANE_PRBS_CTRL_PAT (n : Nat) : Fld := ⟨(LANE_PRBS_CTRL n), 4, 3⟩
/-- WO. R465 -/
def LANE_PRBS_CTRL_INJ (n : Nat) : Fld := ⟨(LANE_PRBS_CTRL n), 8, 1⟩
/-- RW. R465 -/
def LANE_PRBS_CTRL_INJ_RATE (n : Nat) : Fld := ⟨(LANE_PRBS_CTRL n), 16, 6⟩
/-- RO. Checker sync (R490). -/
def LANE_PRBS_STATUS (n : Nat) : Nat := 0x040024 + n * 0x1000
/-- RO. R464 -/
def LANE_PRBS_STATUS_SYNC (n : Nat) : Fld := ⟨(LANE_PRBS_STATUS n), 0, 1⟩
/-- RW. Bit errors [31:0], saturating (R490). -/
def LANE_PRBS_ERR_LO (n : Nat) : Nat := 0x040028 + n * 0x1000
/-- RW. Bit errors [63:32] (R490). -/
def LANE_PRBS_ERR_HI (n : Nat) : Nat := 0x04002C + n * 0x1000
/-- RW. Bits checked [31:0], wraps (R490). -/
def LANE_PRBS_BITS_LO (n : Nat) : Nat := 0x040030 + n * 0x1000
/-- RW. Bits checked [63:32] (R490). -/
def LANE_PRBS_BITS_HI (n : Nat) : Nat := 0x040034 + n * 0x1000
/-- SN. Snapshot of bit errors [31:0] (R490). -/
def LANE_PRBS_ERR_SN_LO (n : Nat) : Nat := 0x040040 + n * 0x1000
/-- SN. Snapshot of bit errors [63:32] (R490). -/
def LANE_PRBS_ERR_SN_HI (n : Nat) : Nat := 0x040044 + n * 0x1000
/-- SN. Snapshot of bits checked [31:0] (R490). -/
def LANE_PRBS_BITS_SN_LO (n : Nat) : Nat := 0x040048 + n * 0x1000
/-- SN. Snapshot of bits checked [63:32] (R490). -/
def LANE_PRBS_BITS_SN_HI (n : Nat) : Nat := 0x04004C + n * 0x1000
/-- RW. Invalid sync headers, saturating (R490). -/
def LANE_HDR_ERR_CNT (n : Nat) : Nat := 0x040050 + n * 0x1000
/-- RW. LOS onsets, saturating (R490). -/
def LANE_LOS_CNT (n : Nat) : Nat := 0x040054 + n * 0x1000
/-- RW. LOL onsets, saturating (R490). -/
def LANE_LOL_CNT (n : Nat) : Nat := 0x040058 + n * 0x1000
/-- RO. Address, valid, orphan, root strap (R492). -/
def LNK_ADDR : Nat := 0x060000
/-- RO. Chain address -/
def LNK_ADDR_ADDR : Fld := ⟨LNK_ADDR, 0, 16⟩
/-- RO. R482 -/
def LNK_ADDR_VALID : Fld := ⟨LNK_ADDR, 16, 1⟩
/-- RO. R485 -/
def LNK_ADDR_ORPHAN : Fld := ⟨LNK_ADDR, 17, 1⟩
/-- RO. CHAIN_ROOT strap -/
def LNK_ADDR_ROOT : Fld := ⟨LNK_ADDR, 18, 1⟩
/-- RW, WO. Kickoff start and base (R492). -/
def LNK_KICK_CTRL : Nat := 0x060004
/-- WO. R480 -/
def LNK_KICK_CTRL_GO : Fld := ⟨LNK_KICK_CTRL, 0, 1⟩
/-- RW. R482 -/
def LNK_KICK_CTRL_BASE : Fld := ⟨LNK_KICK_CTRL, 16, 16⟩
/-- RO. Kickoff state, result, total (R492). -/
def LNK_KICK_STATUS : Nat := 0x060008
/-- RO. 0b00: IDLE; 0b01: COUNT; 0b10: ASSIGN -/
def LNK_KICK_STATUS_KSTATE : Fld := ⟨LNK_KICK_STATUS, 0, 2⟩
/-- RO. 0x0: NONE; 0x1: OK; 0x2: OVERFLOW -/
def LNK_KICK_STATUS_RESULT : Fld := ⟨LNK_KICK_STATUS, 4, 4⟩
/-- RO. N of the last OK Kickoff -/
def LNK_KICK_STATUS_TOTAL : Fld := ⟨LNK_KICK_STATUS, 8, 17⟩
/-- RW. Count budget, µs, [15:0] (R492). -/
def LNK_KICK_TO : Nat := 0x06000C
/-- RW. Credit timeout, µs, [15:0] (R492). -/
def LNK_CRED_TO : Nat := 0x060010
/-- RW. Forwarding timeout, ms, [7:0] (R492). -/
def LNK_FWD_TO : Nat := 0x060014
/-- RO. Forwarding entries in use, peak (R492). -/
def LNK_FWD : Nat := 0x060018
/-- RO. 0 to 64 -/
def LNK_FWD_USED : Fld := ⟨LNK_FWD, 0, 7⟩
/-- RO. Highest USED since reset; never falls -/
def LNK_FWD_PEAK : Fld := ⟨LNK_FWD, 8, 7⟩
/-- RW. Frames dropped, table full, saturating (R492). -/
def LNK_FWD_FULL_CNT : Nat := 0x06001C
/-- RW. Packets dropped as UNREACH, saturating (R492). -/
def LNK_UNREACH_CNT : Nat := 0x060020
/-- RW. Enable, width (R492). -/
def LNK_CTRL (n : Nat) : Nat := 0x061000 + n * 0x100
/-- RW. R468 -/
def LNK_CTRL_EN (n : Nat) : Fld := ⟨(LNK_CTRL n), 0, 1⟩
/-- RW. UP only (R456) -/
def LNK_CTRL_WIDE (n : Nat) : Fld := ⟨(LNK_CTRL n), 1, 1⟩
/-- RO, W1C. States, width, latched flags (R492). -/
def LNK_STATUS (n : Nat) : Nat := 0x061004 + n * 0x100
/-- RO. Function state per R18 -/
def LNK_STATUS_STATE (n : Nat) : Fld := ⟨(LNK_STATUS n), 0, 3⟩
/-- RO. R469 -/
def LNK_STATUS_LSTATE (n : Nat) : Fld := ⟨(LNK_STATUS n), 4, 3⟩
/-- RO. 0b00: none; 0b01: 2 lanes; 0b10: 4 lanes -/
def LNK_STATUS_WIDTH (n : Nat) : Fld := ⟨(LNK_STATUS n), 8, 2⟩
/-- RO. R481 -/
def LNK_STATUS_UNASSIGNED (n : Nat) : Fld := ⟨(LNK_STATUS n), 12, 1⟩
/-- W1C. R470 -/
def LNK_STATUS_DOWN (n : Nat) : Fld := ⟨(LNK_STATUS n), 16, 1⟩
/-- W1C. R469 -/
def LNK_STATUS_TRAIN_FAIL (n : Nat) : Fld := ⟨(LNK_STATUS n), 17, 1⟩
/-- W1C. R471 -/
def LNK_STATUS_ROLE_ERR (n : Nat) : Fld := ⟨(LNK_STATUS n), 18, 1⟩
/-- W1C. R468 -/
def LNK_STATUS_CFG_REFUSED (n : Nat) : Fld := ⟨(LNK_STATUS n), 19, 1⟩
/-- RO. Peer address and role (R492). -/
def LNK_PEER (n : Nat) : Nat := 0x061008 + n * 0x100
/-- RO. Peer address -/
def LNK_PEER_ADDR (n : Nat) : Fld := ⟨(LNK_PEER n), 0, 16⟩
/-- RO. Peer address valid -/
def LNK_PEER_VALID (n : Nat) : Fld := ⟨(LNK_PEER n), 16, 1⟩
/-- RO. 0: UP; 1: DOWN; 2: HOST -/
def LNK_PEER_ROLE (n : Nat) : Fld := ⟨(LNK_PEER n), 17, 2⟩
/-- RO. Range base, [15:0] (R492). -/
def LNK_RANGE_BASE (n : Nat) : Nat := 0x06100C + n * 0x100
/-- RO. Range size, [16:0] (R492). -/
def LNK_RANGE_SIZE (n : Nat) : Nat := 0x061010 + n * 0x100
/-- RW. Failed trainings, wraps (R492). -/
def LNK_TRAIN_CNT (n : Nat) : Nat := 0x061014 + n * 0x100
/-- RW. Discarded packets, saturating (R492). -/
def LNK_CRC_ERR_CNT (n : Nat) : Nat := 0x061018 + n * 0x100
/-- RW. Dropped packets, saturating (R492). -/
def LNK_CRED_DROP_CNT (n : Nat) : Nat := 0x06101C + n * 0x100
/-- RW. Packets sent, wraps (R492). -/
def LNK_TX_PKT_CNT (n : Nat) : Nat := 0x061020 + n * 0x100
/-- RW. Packets received, wraps (R492). -/
def LNK_RX_PKT_CNT (n : Nat) : Nat := 0x061024 + n * 0x100
/-- RW. Enable, speed, FEC, IPv6 (R494). -/
def NET_CTRL (n : Nat) : Nat := 0x050000 + n * 0x1000
/-- RW. R487 -/
def NET_CTRL_EN (n : Nat) : Fld := ⟨(NET_CTRL n), 0, 1⟩
/-- RW. 0: 10GBASE-R; 1: 25GBASE-R -/
def NET_CTRL_SPEED (n : Nat) : Fld := ⟨(NET_CTRL n), 1, 1⟩
/-- RW. R486 -/
def NET_CTRL_FEC (n : Nat) : Fld := ⟨(NET_CTRL n), 2, 2⟩
/-- RW. R488 -/
def NET_CTRL_IPV6 (n : Nat) : Fld := ⟨(NET_CTRL n), 4, 1⟩
/-- RO, W1C. State, link, latched flags (R494). -/
def NET_STATUS (n : Nat) : Nat := 0x050004 + n * 0x1000
/-- RO. Function state per R18 -/
def NET_STATUS_STATE (n : Nat) : Fld := ⟨(NET_STATUS n), 0, 3⟩
/-- RO. R487 -/
def NET_STATUS_LINK (n : Nat) : Fld := ⟨(NET_STATUS n), 3, 1⟩
/-- W1C. R487 -/
def NET_STATUS_LINK_DOWN (n : Nat) : Fld := ⟨(NET_STATUS n), 8, 1⟩
/-- W1C. R487 -/
def NET_STATUS_CFG_REFUSED (n : Nat) : Fld := ⟨(NET_STATUS n), 9, 1⟩
/-- RW. MAC octets 3 to 6; octet 3 in [31:24] (R494). -/
def NET_MAC_LO (n : Nat) : Nat := 0x050008 + n * 0x1000
/-- RW. MAC octets 1 and 2; octet 1, sent first, in [15:8] (R494). -/
def NET_MAC_HI (n : Nat) : Nat := 0x05000C + n * 0x1000
/-- RW. IPv4 address, first octet in [31:24] (R494). -/
def NET_IPV4 (n : Nat) : Nat := 0x050010 + n * 0x1000
/-- RW. IPv6 address word i = 0 to 3, word 0 most significant (R494). -/
def NET_IPV6 (n i : Nat) : Nat := 0x050020 + n * 0x1000 + i * 0x4
/-- RW. VID [11:0], EN [16] (R494). -/
def NET_VLAN (n : Nat) : Nat := 0x050030 + n * 0x1000
/-- RW. Good frames received, wraps (R494). -/
def NET_RX_FRAMES (n : Nat) : Nat := 0x050040 + n * 0x1000
/-- RW. FCS errors, saturating (R494). -/
def NET_RX_FCS_ERR (n : Nat) : Nat := 0x050044 + n * 0x1000
/-- RW. Frames dropped (R488), saturating (R494). -/
def NET_RX_DROP (n : Nat) : Nat := 0x050048 + n * 0x1000
/-- RW. Frames sent, wraps (R494). -/
def NET_TX_FRAMES (n : Nat) : Nat := 0x05004C + n * 0x1000
/-- RW. Corrected FEC blocks, saturating (R494). -/
def NET_FEC_CORR (n : Nat) : Nat := 0x050050 + n * 0x1000
/-- RW. Uncorrectable FEC blocks, saturating (R494). -/
def NET_FEC_UNCORR (n : Nat) : Nat := 0x050054 + n * 0x1000
/-- RW. Enable, source, step option (R514). -/
def TIM_TB_CTRL (n : Nat) : Nat := 0x070000 + n * 0x100
/-- RW. R499 -/
def TIM_TB_CTRL_EN (n : Nat) : Fld := ⟨(TIM_TB_CTRL n), 0, 1⟩
/-- RW. R503 -/
def TIM_TB_CTRL_SRC (n : Nat) : Fld := ⟨(TIM_TB_CTRL n), 4, 2⟩
/-- RW. R503 -/
def TIM_TB_CTRL_SRCTB (n : Nat) : Fld := ⟨(TIM_TB_CTRL n), 8, 2⟩
/-- RW. R504; TB0 only -/
def TIM_TB_CTRL_STEP_RUN (n : Nat) : Fld := ⟨(TIM_TB_CTRL n), 12, 1⟩
/-- RO, W1C. State READY (EN is 1 at reset, R499, R582), valid, lock, latched flags (R514). -/
def TIM_TB_STATUS (n : Nat) : Nat := 0x070004 + n * 0x100
/-- RO. Function state per R18 -/
def TIM_TB_STATUS_STATE (n : Nat) : Fld := ⟨(TIM_TB_STATUS n), 0, 3⟩
/-- RO. R499 -/
def TIM_TB_STATUS_VALID (n : Nat) : Fld := ⟨(TIM_TB_STATUS n), 3, 1⟩
/-- RO. R505 -/
def TIM_TB_STATUS_LOCK (n : Nat) : Fld := ⟨(TIM_TB_STATUS n), 4, 1⟩
/-- RO. R506 -/
def TIM_TB_STATUS_HOLDOVER (n : Nat) : Fld := ⟨(TIM_TB_STATUS n), 5, 1⟩
/-- W1C. R505 -/
def TIM_TB_STATUS_UNLOCKED (n : Nat) : Fld := ⟨(TIM_TB_STATUS n), 8, 1⟩
/-- W1C. R501 -/
def TIM_TB_STATUS_STEPPED (n : Nat) : Fld := ⟨(TIM_TB_STATUS n), 9, 1⟩
/-- W1C. R501, R502, R512 -/
def TIM_TB_STATUS_CFG_REFUSED (n : Nat) : Fld := ⟨(TIM_TB_STATUS n), 10, 1⟩
/-- RO. Seconds [31:0] (R500) (R514). -/
def TIM_TB_SEC_LO (n : Nat) : Nat := 0x070008 + n * 0x100
/-- RO. Seconds [47:32] (R514). -/
def TIM_TB_SEC_HI (n : Nat) : Nat := 0x07000C + n * 0x100
/-- RO. Nanoseconds (R514). -/
def TIM_TB_NS (n : Nat) : Nat := 0x070010 + n * 0x100
/-- RO. Fraction, [15:0] (R514). -/
def TIM_TB_FRAC (n : Nat) : Nat := 0x070014 + n * 0x100
/-- RW. Seconds to set [31:0] (R514). -/
def TIM_TB_SET_SEC_LO (n : Nat) : Nat := 0x070018 + n * 0x100
/-- RW. Seconds to set [47:32] (R514). -/
def TIM_TB_SET_SEC_HI (n : Nat) : Nat := 0x07001C + n * 0x100
/-- RW. Nanoseconds to set (R514). -/
def TIM_TB_SET_NS (n : Nat) : Nat := 0x070020 + n * 0x100
/-- WO. SET, ADJ (R501) (R514). -/
def TIM_TB_CMD (n : Nat) : Nat := 0x070024 + n * 0x100
/-- WO. R501 -/
def TIM_TB_CMD_SET (n : Nat) : Fld := ⟨(TIM_TB_CMD n), 0, 1⟩
/-- WO. R501 -/
def TIM_TB_CMD_ADJ (n : Nat) : Fld := ⟨(TIM_TB_CMD n), 1, 1⟩
/-- RW. Signed step, ns (R514). -/
def TIM_TB_ADJ (n : Nat) : Nat := 0x070028 + n * 0x100
/-- RW. F, signed, 2⁻¹² ppb (R514). -/
def TIM_TB_FREQ (n : Nat) : Nat := 0x07002C + n * 0x100
/-- WO. Offset [31:0] (R504) (R514). -/
def TIM_TB_MEAS_LO (n : Nat) : Nat := 0x070030 + n * 0x100
/-- WO. Offset [47:32]; delivers the sample (R514). -/
def TIM_TB_MEAS_HI (n : Nat) : Nat := 0x070034 + n * 0x100
/-- RW. Q16.16 ppb/ns (R514). -/
def TIM_TB_KP (n : Nat) : Nat := 0x070038 + n * 0x100
/-- RW. Q16.16 ppb/ns (R514). -/
def TIM_TB_KI (n : Nat) : Nat := 0x07003C + n * 0x100
/-- RW. ppb, [19:0] (R514). -/
def TIM_TB_IMAX (n : Nat) : Nat := 0x070040 + n * 0x100
/-- RW. ppb, [19:0] (R514). -/
def TIM_TB_FMAX (n : Nat) : Nat := 0x070044 + n * 0x100
/-- RW. ns; 0 disables (R514). -/
def TIM_TB_STEP_THR (n : Nat) : Nat := 0x070048 + n * 0x100
/-- RW. THR, N (R514). -/
def TIM_TB_LOCK (n : Nat) : Nat := 0x07004C + n * 0x100
/-- RW. 1/16 ns -/
def TIM_TB_LOCK_THR (n : Nat) : Fld := ⟨(TIM_TB_LOCK n), 0, 16⟩
/-- RW. Samples -/
def TIM_TB_LOCK_N (n : Nat) : Fld := ⟨(TIM_TB_LOCK n), 16, 8⟩
/-- RW. ms, [15:0] (R514). -/
def TIM_TB_HOLD_TO (n : Nat) : Nat := 0x070050 + n * 0x100
/-- RO. Last θ [31:0] (R514). -/
def TIM_TB_LAST_OFS_LO (n : Nat) : Nat := 0x070054 + n * 0x100
/-- RO. Last θ [47:32] (R514). -/
def TIM_TB_LAST_OFS_HI (n : Nat) : Nat := 0x070058 + n * 0x100
/-- RO. I, signed, 2⁻¹² ppb (R514). -/
def TIM_TB_INTEG (n : Nat) : Nat := 0x07005C + n * 0x100
/-- RW. Samples applied, wraps (R514). -/
def TIM_TB_SAMPLE_CNT (n : Nat) : Nat := 0x070060 + n * 0x100
/-- RW. Steps, saturating (R514). -/
def TIM_TB_STEP_CNT (n : Nat) : Nat := 0x070064 + n * 0x100
/-- RW. Replaced samples, saturating (R514). -/
def TIM_TB_MEAS_LOST_CNT (n : Nat) : Nat := 0x070068 + n * 0x100
/-- WO. Capture all bases (R500) (R514). -/
def TIM_CAP : Nat := 0x070800
/-- WO. R500 -/
def TIM_CAP_TAKE : Fld := ⟨TIM_CAP, 0, 1⟩
/-- RO. Captured seconds [31:0] (R514). -/
def TIM_CAP_SEC_LO (n : Nat) : Nat := 0x070810 + n * 0x10
/-- RO. Captured seconds [47:32] (R514). -/
def TIM_CAP_SEC_HI (n : Nat) : Nat := 0x070814 + n * 0x10
/-- RO. Captured nanoseconds (R514). -/
def TIM_CAP_NS (n : Nat) : Nat := 0x070818 + n * 0x10
/-- RO. Captured fraction, [15:0] (R514). -/
def TIM_CAP_FRAC (n : Nat) : Nat := 0x07081C + n * 0x10
/-- RW. PERIOD, [7:0] (R514). -/
def TIM_LINK_CFG : Nat := 0x070900
/-- RW. Signed, 2⁻¹⁶ ns (R514). -/
def TIM_LINK_ASYM : Nat := 0x070904
/-- RO. d, 2⁻¹⁶ ns (R514). -/
def TIM_LINK_DELAY : Nat := 0x070908
/-- RW. Discarded exchanges, saturating (R514). -/
def TIM_LINK_BAD_CNT : Nat := 0x07090C
/-- RW. Enable, base, mappings (R514). -/
def NET_PTP_CTRL (n : Nat) : Nat := 0x050100 + n * 0x1000
/-- RW. Function per R18; READY with the port -/
def NET_PTP_CTRL_EN (n : Nat) : Fld := ⟨(NET_PTP_CTRL n), 0, 1⟩
/-- RW. Base of the timestamps -/
def NET_PTP_CTRL_TB (n : Nat) : Fld := ⟨(NET_PTP_CTRL n), 4, 2⟩
/-- RW. R510 -/
def NET_PTP_CTRL_L2 (n : Nat) : Fld := ⟨(NET_PTP_CTRL n), 8, 1⟩
/-- RW. R510 -/
def NET_PTP_CTRL_UDP4 (n : Nat) : Fld := ⟨(NET_PTP_CTRL n), 9, 1⟩
/-- RW. R510 -/
def NET_PTP_CTRL_UDP6 (n : Nat) : Fld := ⟨(NET_PTP_CTRL n), 10, 1⟩
/-- RO, W1C. State, latched flags (R514). -/
def NET_PTP_STATUS (n : Nat) : Nat := 0x050104 + n * 0x1000
/-- RO. Function state per R18 -/
def NET_PTP_STATUS_STATE (n : Nat) : Fld := ⟨(NET_PTP_STATUS n), 0, 3⟩
/-- W1C. R513 -/
def NET_PTP_STATUS_TXTS_OVF (n : Nat) : Fld := ⟨(NET_PTP_STATUS n), 8, 1⟩
/-- W1C. R513 -/
def NET_PTP_STATUS_RXQ_DROP_F (n : Nat) : Fld := ⟨(NET_PTP_STATUS n), 9, 1⟩
/-- RW. Signed, 2⁻¹⁶ ns (R514). -/
def NET_PTP_TXLAT (n : Nat) : Nat := 0x050108 + n * 0x1000
/-- RW. Signed, 2⁻¹⁶ ns (R514). -/
def NET_PTP_RXLAT (n : Nat) : Nat := 0x05010C + n * 0x1000
/-- WO. Send (R512) (R514). -/
def NET_PTP_TXCTL (n : Nat) : Nat := 0x050110 + n * 0x1000
/-- WO. Frame bytes, 14 to 256 -/
def NET_PTP_TXCTL_LEN (n : Nat) : Fld := ⟨(NET_PTP_TXCTL n), 0, 9⟩
/-- WO. R512 -/
def NET_PTP_TXCTL_TS_REQ (n : Nat) : Fld := ⟨(NET_PTP_TXCTL n), 9, 1⟩
/-- WO. R512 -/
def NET_PTP_TXCTL_ONESTEP (n : Nat) : Fld := ⟨(NET_PTP_TXCTL n), 10, 1⟩
/-- WO. R512 -/
def NET_PTP_TXCTL_CSUM6 (n : Nat) : Fld := ⟨(NET_PTP_TXCTL n), 11, 1⟩
/-- WO. Byte offset of the PTP header -/
def NET_PTP_TXCTL_PTPOFS (n : Nat) : Fld := ⟨(NET_PTP_TXCTL n), 16, 8⟩
/-- RW. Tag, [15:0] (R514). -/
def NET_PTP_TXTAG (n : Nat) : Nat := 0x050114 + n * 0x1000
/-- RO. Oldest tag, valid (R514). -/
def NET_TXTS_TAG (n : Nat) : Nat := 0x050118 + n * 0x1000
/-- RO. R513 -/
def NET_TXTS_TAG_TAG (n : Nat) : Fld := ⟨(NET_TXTS_TAG n), 0, 16⟩
/-- RO. R513 -/
def NET_TXTS_TAG_VALID (n : Nat) : Fld := ⟨(NET_TXTS_TAG n), 31, 1⟩
/-- RO. Entries held, 0 to 16 -/
def NET_TXTS_TAG_COUNT (n : Nat) : Fld := ⟨(NET_TXTS_TAG n), 24, 5⟩
/-- RO. Seconds [31:0] (R514). -/
def NET_TXTS_SEC_LO (n : Nat) : Nat := 0x05011C + n * 0x1000
/-- RO. Seconds [47:32] (R514). -/
def NET_TXTS_SEC_HI (n : Nat) : Nat := 0x050120 + n * 0x1000
/-- RO. Nanoseconds (R514). -/
def NET_TXTS_NS (n : Nat) : Nat := 0x050124 + n * 0x1000
/-- RO. Fraction, [15:0] (R514). -/
def NET_TXTS_FRAC (n : Nat) : Nat := 0x050128 + n * 0x1000
/-- WO. Remove oldest, [0] (R514). -/
def NET_TXTS_POP (n : Nat) : Nat := 0x05012C + n * 0x1000
/-- RW. Dropped timestamps, saturating (R514). -/
def NET_TXTS_DROP (n : Nat) : Nat := 0x050130 + n * 0x1000
/-- RO. Entries held, [5:0] (R514). -/
def NET_RXQ_COUNT (n : Nat) : Nat := 0x050134 + n * 0x1000
/-- WO. Remove oldest, [0] (R514). -/
def NET_RXQ_POP (n : Nat) : Nat := 0x050138 + n * 0x1000
/-- RW. Dropped frames, saturating (R514). -/
def NET_RXQ_DROP (n : Nat) : Nat := 0x05013C + n * 0x1000
/-- RW. Frame to send (R514). -/
def NET_PTP_TXBUF (n i : Nat) : Nat := 0x050400 + n * 0x1000 + i * 0x4
/-- RO. Oldest entry (R513) (R514). -/
def NET_RXQ (n i : Nat) : Nat := 0x050500 + n * 0x1000 + i * 0x4
/-- RO. Thermal shut-down, hot (R532). -/
def LGT_STATUS : Nat := 0x150000
/-- RO. R524; cleared only by R525 -/
def LGT_STATUS_TSD : Fld := ⟨LGT_STATUS, 0, 1⟩
/-- RO. R525 -/
def LGT_STATUS_HOT : Fld := ⟨LGT_STATUS, 1, 1⟩
/-- WO. Release key (R525) (R532). -/
def LGT_TSD_REL : Nat := 0x150004
/-- RO. Active sinks and count (R520) (R532). -/
def LGT_ACTIVE : Nat := 0x150008
/-- RO. Bit n: LSn active -/
def LGT_ACTIVE_MASK : Fld := ⟨LGT_ACTIVE, 0, 12⟩
/-- RO. Active sinks, 0 to 12 -/
def LGT_ACTIVE_K : Fld := ⟨LGT_ACTIVE, 16, 4⟩
/-- WO. SYNC on selected outputs (R530) (R532). -/
def LGT_LW_SYNC : Nat := 0x15000C
/-- WO. Bit n: LWn -/
def LGT_LW_SYNC_SEL : Fld := ⟨LGT_LW_SYNC, 0, 2⟩
/-- RW. Enable, mode, context (R532). -/
def LGT_LS_CTRL (n : Nat) : Nat := 0x150100 + n * 0x20
/-- RW. R521 -/
def LGT_LS_CTRL_EN (n : Nat) : Fld := ⟨(LGT_LS_CTRL n), 0, 1⟩
/-- RW. 0: PWM; 1: STROBE -/
def LGT_LS_CTRL_MODE (n : Nat) : Fld := ⟨(LGT_LS_CTRL n), 1, 1⟩
/-- RW. Context LY0 to LY3 (R522) -/
def LGT_LS_CTRL_LYSEL (n : Nat) : Fld := ⟨(LGT_LS_CTRL n), 4, 2⟩
/-- RO, W1C. State, offset, latched flags (R532). -/
def LGT_LS_STATUS (n : Nat) : Nat := 0x150104 + n * 0x20
/-- RO. Function state per R18 -/
def LGT_LS_STATUS_STATE (n : Nat) : Fld := ⟨(LGT_LS_STATUS n), 0, 3⟩
/-- RO. Sink on now -/
def LGT_LS_STATUS_ON (n : Nat) : Fld := ⟨(LGT_LS_STATUS n), 3, 1⟩
/-- W1C. R523 -/
def LGT_LS_STATUS_SLONG (n : Nat) : Fld := ⟨(LGT_LS_STATUS n), 8, 1⟩
/-- W1C. R521 -/
def LGT_LS_STATUS_CFG_REFUSED (n : Nat) : Fld := ⟨(LGT_LS_STATUS n), 9, 1⟩
/-- RO. Offset in use, cycles (R520) -/
def LGT_LS_STATUS_OFFSET (n : Nat) : Fld := ⟨(LGT_LS_STATUS n), 16, 14⟩
/-- RW. PWM and strobe current codes (R532). -/
def LGT_LS_I (n : Nat) : Nat := 0x150108 + n * 0x20
/-- RW. PWM CODE (R517) -/
def LGT_LS_I_ICODE (n : Nat) : Fld := ⟨(LGT_LS_I n), 0, 10⟩
/-- RW. Strobe CODE (R517) -/
def LGT_LS_I_ISTRB (n : Nat) : Fld := ⟨(LGT_LS_I n), 16, 10⟩
/-- RW. Duty, [15:0] (R532). -/
def LGT_LS_DUTY (n : Nat) : Nat := 0x15010C + n * 0x20
/-- RW. Strobe limit, µs, [15:0]; 0 disables (R532). -/
def LGT_LS_SMAX (n : Nat) : Nat := 0x150110 + n * 0x20
/-- RW, WO. Enable, count, checksum, go, sync (R532). -/
def LGT_LW_CTRL (n : Nat) : Nat := 0x151000 + n * 0x1000
/-- RW. R531 -/
def LGT_LW_CTRL_EN (n : Nat) : Fld := ⟨(LGT_LW_CTRL n), 0, 1⟩
/-- WO. R530 -/
def LGT_LW_CTRL_GO (n : Nat) : Fld := ⟨(LGT_LW_CTRL n), 1, 1⟩
/-- WO. R530 -/
def LGT_LW_CTRL_SYNC (n : Nat) : Fld := ⟨(LGT_LW_CTRL n), 2, 1⟩
/-- RW. R528; the reset value of CTRL sets COUNT to 1 -/
def LGT_LW_CTRL_AUTOCHK (n : Nat) : Fld := ⟨(LGT_LW_CTRL n), 3, 1⟩
/-- RW. Shares per frame, 1 to 64; 0 acts as 1, a write above 64 stores 64 -/
def LGT_LW_CTRL_COUNT (n : Nat) : Fld := ⟨(LGT_LW_CTRL n), 8, 7⟩
/-- RO, W1C. State, busy, latched flag (R532). -/
def LGT_LW_STATUS (n : Nat) : Nat := 0x151004 + n * 0x1000
/-- RO. Function state per R18 -/
def LGT_LW_STATUS_STATE (n : Nat) : Fld := ⟨(LGT_LW_STATUS n), 0, 3⟩
/-- RO. R530 -/
def LGT_LW_STATUS_BUSY (n : Nat) : Fld := ⟨(LGT_LW_STATUS n), 3, 1⟩
/-- W1C. R530, R531 -/
def LGT_LW_STATUS_CFG_REFUSED (n : Nat) : Fld := ⟨(LGT_LW_STATUS n), 8, 1⟩
/-- RW. GAP, µs, [7:0] (R532). -/
def LGT_LW_CFG (n : Nat) : Nat := 0x151008 + n * 0x1000
/-- RW. Frames sent, wraps (R532). -/
def LGT_LW_SENT_CNT (n : Nat) : Nat := 0x15100C + n * 0x1000
/-- RW. Share i = 0 to 63, bits [31:0] (R532). -/
def LGT_LW_SHARE_LO (n i : Nat) : Nat := 0x151100 + n * 0x1000 + i * 0x8
/-- RW. Share i, bits [47:32] in [15:0] (R532). -/
def LGT_LW_SHARE_HI (n i : Nat) : Nat := 0x151104 + n * 0x1000 + i * 0x8
/-- RO. Firmware state, slot, cause (R559). -/
def MGT_FW_STATUS : Nat := 0x010000
/-- RO. 0: ROM; 1: RUNNING; 2: NONE; 3: ROM_ONLY -/
def MGT_FW_STATUS_FSTATE : Fld := ⟨MGT_FW_STATUS, 0, 3⟩
/-- RO. 0: A; 1: B -/
def MGT_FW_STATUS_SLOT : Fld := ⟨MGT_FW_STATUS, 4, 1⟩
/-- RO. The running slot is TRYING -/
def MGT_FW_STATUS_TRYING : Fld := ⟨MGT_FW_STATUS, 5, 1⟩
/-- RO. KEYHASH blank (R538) -/
def MGT_FW_STATUS_OPEN : Fld := ⟨MGT_FW_STATUS, 6, 1⟩
/-- RO. 0: PORST_N; 1: SYSRST_N; 2: WDT -/
def MGT_FW_STATUS_CAUSE : Fld := ⟨MGT_FW_STATUS, 8, 2⟩
/-- RO. R538 -/
def MGT_FW_STATUS_A_BAD : Fld := ⟨MGT_FW_STATUS, 12, 1⟩
/-- RO. R538 -/
def MGT_FW_STATUS_B_BAD : Fld := ⟨MGT_FW_STATUS, 13, 1⟩
/-- RO. VERSION of the running image (R559). -/
def MGT_FW_VERSION : Nat := 0x010004
/-- RO. Counter, key state (R559). -/
def MGT_FUSE : Nat := 0x010008
/-- RO. R539 -/
def MGT_FUSE_COUNT : Fld := ⟨MGT_FUSE, 0, 7⟩
/-- RO. KEYHASH programmed -/
def MGT_FUSE_KEYSET : Fld := ⟨MGT_FUSE, 8, 1⟩
/-- RW. Image address [31:0] (R559). -/
def MGT_UPD_ADDR_LO : Nat := 0x010020
/-- RW. Image address [39:32] (R559). -/
def MGT_UPD_ADDR_HI : Nat := 0x010024
/-- RW. Image bytes (R559). -/
def MGT_UPD_LEN : Nat := 0x010028
/-- RW, WO, RO, W1C. Go, operation, busy, done, result (R559). -/
def MGT_UPD_CTRL : Nat := 0x01002C
/-- WO. R540 -/
def MGT_UPD_CTRL_GO : Fld := ⟨MGT_UPD_CTRL, 0, 1⟩
/-- RW. R540 -/
def MGT_UPD_CTRL_OP : Fld := ⟨MGT_UPD_CTRL, 4, 2⟩
/-- RO. R540 -/
def MGT_UPD_CTRL_BUSY : Fld := ⟨MGT_UPD_CTRL, 8, 1⟩
/-- W1C. R540 -/
def MGT_UPD_CTRL_DONE : Fld := ⟨MGT_UPD_CTRL, 9, 1⟩
/-- RO. R540 -/
def MGT_UPD_CTRL_RESULT : Fld := ⟨MGT_UPD_CTRL, 16, 4⟩
/-- RW. Enable, period (R559). -/
def MGT_WDT_CFG : Nat := 0x010100
/-- RW. R541 -/
def MGT_WDT_CFG_MS : Fld := ⟨MGT_WDT_CFG, 0, 16⟩
/-- RW. R541 -/
def MGT_WDT_CFG_EN : Fld := ⟨MGT_WDT_CFG, 31, 1⟩
/-- WO. Kick key (R541) (R559). -/
def MGT_WDT_KICK : Nat := 0x010104
/-- RW. Expiries, saturating (R559). -/
def MGT_WDT_CNT : Nat := 0x010108
/-- RO. Next record number (R559). -/
def EVR_WR : Nat := 0x020000
/-- RW. Selected record (R547) (R559). -/
def EVR_SEL : Nat := 0x020004
/-- RW. Dropped events, saturating (R559). -/
def EVR_DROP : Nat := 0x020008
/-- W1C. R548, [14:0] (R559). -/
def EVR_ALERT_PEND : Nat := 0x02000C
/-- RW. R548, [14:0] (R559). -/
def EVR_ALERT_MASK : Nat := 0x020010
/-- RO. Record word i = 0 to 15 (R559). -/
def EVR_D (n : Nat) : Nat := 0x020040 + n * 0x4
/-- RW. ID range, enable (R559). -/
def EVR_TRIG (n : Nat) : Nat := 0x020100 + n * 0x40
/-- RW. R546 -/
def EVR_TRIG_ID_LO (n : Nat) : Fld := ⟨(EVR_TRIG n), 0, 10⟩
/-- RW. R546 -/
def EVR_TRIG_ID_HI (n : Nat) : Fld := ⟨(EVR_TRIG n), 16, 10⟩
/-- RW. R546 -/
def EVR_TRIG_EN (n : Nat) : Fld := ⟨(EVR_TRIG n), 31, 1⟩
/-- RW. Snapshot address i = 0 to 7 (R559). -/
def EVR_TRIG_ADDR (n i : Nat) : Nat := 0x020104 + n * 0x40 + i * 0x4
/-- RW. Register offset -/
def EVR_TRIG_ADDR_ADDR (n i : Nat) : Fld := ⟨(EVR_TRIG_ADDR n i), 0, 24⟩
/-- RW. Snapshot enabled -/
def EVR_TRIG_ADDR_EN (n i : Nat) : Fld := ⟨(EVR_TRIG_ADDR n i), 31, 1⟩
/-- RO, W1C. Level, rate, flags (R559). -/
def CPT_TH_STATUS : Nat := 0x030000
/-- RO. 0: NORMAL; 1: WARN; 2: THROTTLE; 3: CRITICAL -/
def CPT_TH_STATUS_LEVEL : Fld := ⟨CPT_TH_STATUS, 0, 2⟩
/-- RO. 1: 20 kHz sampling -/
def CPT_TH_STATUS_FAST : Fld := ⟨CPT_TH_STATUS, 2, 1⟩
/-- RO. 1: throttle gate closed now -/
def CPT_TH_STATUS_GATE : Fld := ⟨CPT_TH_STATUS, 3, 1⟩
/-- W1C. R552 -/
def CPT_TH_STATUS_WARN_F : Fld := ⟨CPT_TH_STATUS, 8, 1⟩
/-- W1C. R552 -/
def CPT_TH_STATUS_THROT_F : Fld := ⟨CPT_TH_STATUS, 9, 1⟩
/-- W1C. R552 -/
def CPT_TH_STATUS_CRIT_F : Fld := ⟨CPT_TH_STATUS, 10, 1⟩
/-- RW. WARN, THROTTLE, CRIT, HYST (R559). -/
def CPT_TH_LIM : Nat := 0x030004
/-- RW. °C (R551) -/
def CPT_TH_LIM_WARN : Fld := ⟨CPT_TH_LIM, 0, 8⟩
/-- RW. °C -/
def CPT_TH_LIM_THROTTLE : Fld := ⟨CPT_TH_LIM, 8, 8⟩
/-- RW. °C; a KG3248-IB needs 110 or lower (R606) -/
def CPT_TH_LIM_CRIT : Fld := ⟨CPT_TH_LIM, 16, 8⟩
/-- RW. °C -/
def CPT_TH_LIM_HYST : Fld := ⟨CPT_TH_LIM, 24, 4⟩
/-- RW. ON, OFF (R559). -/
def CPT_TH_THROT : Nat := 0x030008
/-- RW. µs (R553) -/
def CPT_TH_THROT_ON : Fld := ⟨CPT_TH_THROT, 0, 8⟩
/-- RW. µs -/
def CPT_TH_THROT_OFF : Fld := ⟨CPT_TH_THROT, 8, 8⟩
/-- W1C. R550, [11:0] (R559). -/
def CPT_TS_BROKEN : Nat := 0x03000C
/-- RO. Tmax, sensor, peak (R559). -/
def CPT_TH_MAX : Nat := 0x030010
/-- RO. Signed 1/16 °C -/
def CPT_TH_MAX_TMAX : Fld := ⟨CPT_TH_MAX, 0, 16⟩
/-- RO. Sensor of TMAX -/
def CPT_TH_MAX_SENSOR : Fld := ⟨CPT_TH_MAX, 16, 4⟩
/-- RO. Highest TMAX in whole °C since reset; never falls -/
def CPT_TH_MAX_PEAK : Fld := ⟨CPT_TH_MAX, 24, 8⟩
/-- RW. Throttle entries, saturating (R559). -/
def CPT_TH_THROT_CNT : Nat := 0x030014
/-- W1C. LOW [15:0], HIGH [31:16] (R559). -/
def CPT_VM_STATUS : Nat := 0x030018
/-- RO. Reading, signed 1/16 °C, [15:0] (R559). -/
def CPT_TS (n : Nat) : Nat := 0x030040 + n * 0x4
/-- RO. Reading, mV, [15:0] (R559). -/
def CPT_VM (n : Nat) : Nat := 0x030080 + n * 0x8
/-- RW. LO [15:0], HI [31:16], mV (R559). -/
def CPT_VM_LIM (n : Nat) : Nat := 0x030084 + n * 0x8
/-- WO. Go, abort (R559). -/
def CAL_CTRL : Nat := 0x160000
/-- WO. R555 -/
def CAL_CTRL_GO : Fld := ⟨CAL_CTRL, 0, 1⟩
/-- WO. R555 -/
def CAL_CTRL_ABORT : Fld := ⟨CAL_CTRL, 1, 1⟩
/-- RO, W1C. Busy, step, done, errors (R559). -/
def CAL_STATUS : Nat := 0x160004
/-- RO. R555 -/
def CAL_STATUS_BUSY : Fld := ⟨CAL_STATUS, 0, 1⟩
/-- RO. Step in progress -/
def CAL_STATUS_STEP : Fld := ⟨CAL_STATUS, 4, 3⟩
/-- W1C. R555 -/
def CAL_STATUS_DONE : Fld := ⟨CAL_STATUS, 8, 1⟩
/-- W1C. Bit per step (R555) -/
def CAL_STATUS_ERR : Fld := ⟨CAL_STATUS, 16, 6⟩
/-- RW. Step mask (R559). -/
def CAL_STEPS : Nat := 0x160008
/-- RW. R556 -/
def CAL_STEPS_STEPS : Fld := ⟨CAL_STEPS, 0, 6⟩
/-- RW. Beam mask (R559). -/
def CAL_BEAMS : Nat := 0x16000C
/-- RW. Channels 0 to 31 (R559). -/
def CAL_PD_LO : Nat := 0x160010
/-- RW. Channels 32 to 63 (R559). -/
def CAL_PD_HI : Nat := 0x160014
/-- RW. Dark target, [15:0] (R559). -/
def CAL_PD_TGT : Nat := 0x160018
/-- RW. Grid image base [31:0]; [11:0] read 0 (R559). -/
def CAL_GRID_LO : Nat := 0x16001C
/-- RW. Grid image base [39:32] (R559). -/
def CAL_GRID_HI : Nat := 0x160020
/-- RW. Context mask MP0 to MP31 (R559). -/
def CAL_MP : Nat := 0x160024
/-- RW. Axes [7:0], DRAM channels [9:8] (R559). -/
def CAL_AX : Nat := 0x160028
/-- RW. Reference X code, k = 0 to 3, [23:0] (R559). -/
def CAL_REF_X (n : Nat) : Nat := 0x160030 + n * 0x8
/-- RW. Reference Y code, [23:0] (R559). -/
def CAL_REF_Y (n : Nat) : Nat := 0x160034 + n * 0x8
/-- RO. Residual [15:0], noise [31:16] (R559). -/
def CAL_PD (n : Nat) : Nat := 0x160100 + n * 0x4
/-- RO. Largest X error, codes (R559). -/
def CAL_HEAD_X (n : Nat) : Nat := 0x160200 + n * 0x8
/-- RO. Largest Y error, codes (R559). -/
def CAL_HEAD_Y (n : Nat) : Nat := 0x160204 + n * 0x8
/-- RO. G [15:0], VALID [16] (R559). -/
def CAL_MP_G (n : Nat) : Nat := 0x160400 + n * 0x4
/-- WO. TAKE (R568) (R592). -/
def GLB_SNAP : Nat := 0x000010
/-- WO. R568 -/
def GLB_SNAP_TAKE : Fld := ⟨GLB_SNAP, 0, 1⟩
/-- RO. Takes, wraps (R592). -/
def GLB_SNAP_SEQ : Nat := 0x000014
/-- SN. TB0 seconds [31:0] at the take (R592). -/
def GLB_SNAP_TSEC_LO : Nat := 0x000018
/-- SN. TB0 seconds [47:32] (R592). -/
def GLB_SNAP_TSEC_HI : Nat := 0x00001C
/-- SN. TB0 nanoseconds at the take (R592). -/
def GLB_SNAP_TNS : Nat := 0x000020
/-- RO. Last cause, count (R583) (R592). -/
def GLB_RST_CAUSE : Nat := 0x000030
/-- RO. 0: PORST_N or the supply detector (R603); 1: SYSRST_N; 2: GLB_SWRST; 3: CLOCK_LOSS (R610) -/
def GLB_RST_CAUSE_LAST : Fld := ⟨GLB_RST_CAUSE, 0, 2⟩
/-- RO. R583 -/
def GLB_RST_CAUSE_SYS_CNT : Fld := ⟨GLB_RST_CAUSE, 16, 16⟩
/-- WO. Reset key (R580) (R592). -/
def GLB_SWRST : Nat := 0x000034
/-- RO. Blocks with a function in FAULT (R578) (R592). -/
def GLB_FAULT_SUM : Nat := 0x000038
/-- RO. R578 -/
def GLB_FAULT_SUM_BLOCKS : Fld := ⟨GLB_FAULT_SUM, 0, 22⟩
/-- RW. Access timeout, µs, [7:0] (R592). -/
def GLB_FAB_TO : Nat := 0x000040
/-- RW. R564 -/
def GLB_FAB_TO_US : Fld := ⟨GLB_FAB_TO, 0, 8⟩
/-- RW. Timed-out accesses, saturating (R592). -/
def GLB_FAB_TO_CNT : Nat := 0x000044
/-- WO. Unlock sequence (R587) (R592). -/
def TST_UNLOCK : Nat := 0x170000
/-- RO. Unlock and active points (R592). -/
def TST_STATUS : Nat := 0x170004
/-- RO. R587 -/
def TST_STATUS_UNLOCKED : Fld := ⟨TST_STATUS, 0, 1⟩
/-- RO. Bit k: TST_PTk acting -/
def TST_STATUS_ACTIVE : Fld := ⟨TST_STATUS, 8, 8⟩
/-- RW. Volley phase offset (R590) (R592). -/
def TST_VPHASE : Nat := 0x170008
/-- RW. Signed ns (R590) -/
def TST_VPHASE_NS : Fld := ⟨TST_VPHASE, 0, 32⟩
/-- RW. Point, mode, instance, enable (R592). -/
def TST_PT_CFG (n : Nat) : Nat := 0x170010 + n * 0x10
/-- RW. R589 -/
def TST_PT_CFG_EN (n : Nat) : Fld := ⟨(TST_PT_CFG n), 0, 1⟩
/-- RW. 0: delay; 1: back-pressure -/
def TST_PT_CFG_MODE (n : Nat) : Fld := ⟨(TST_PT_CFG n), 1, 1⟩
/-- RW. All instances -/
def TST_PT_CFG_ALL (n : Nat) : Fld := ⟨(TST_PT_CFG n), 2, 1⟩
/-- RW. R589 -/
def TST_PT_CFG_POINT (n : Nat) : Fld := ⟨(TST_PT_CFG n), 8, 5⟩
/-- RW. Instance index (R7) -/
def TST_PT_CFG_INST (n : Nat) : Fld := ⟨(TST_PT_CFG n), 16, 6⟩
/-- RW. Amount and duty (R592). -/
def TST_PT_AMT (n : Nat) : Nat := 0x170014 + n * 0x10
/-- RW. CORE cycles -/
def TST_PT_AMT_AMOUNT (n : Nat) : Fld := ⟨(TST_PT_AMT n), 0, 16⟩
/-- RW. 1/256 of the time -/
def TST_PT_AMT_DUTY (n : Nat) : Fld := ⟨(TST_PT_AMT n), 24, 8⟩
/-- RW. Transactions affected, wraps (R592). -/
def TST_PT_CNT (n : Nat) : Nat := 0x170018 + n * 0x10
/-- RO. Dead-ball log words (R45). -/
def DBLOG (n : Nat) : Nat := 0x001000 + n * 0x4
/-- RO. Rework log words (R233). -/
def RWLOG (n : Nat) : Nat := 0x0B8000 + n * 0x4
/-- RW. Court Map words (R203). -/
def COURT_MAP (n : Nat) : Nat := 0x200000 + n * 0x4
/-- RO. Latest LY record words (R303). -/
def CAM_LYREC (n i : Nat) : Nat := 0x125000 + n * 0x100 + i * 0x4
/-- RW. Defect table entries (R289). -/
def CAM_DEFECT (n : Nat) : Nat := 0x126000 + n * 0x4
/-- RW. Pyrometry table words (R294). -/
def CAM_TABLE (n i : Nat) : Nat := 0x128000 + n * 0x2000 + i * 0x4

end Sys2Proof.Machine
end

