-- ==== Sys2Proof/Machine/RegDescs.lean ====
section
/-! DEFINITION. How software's reads and writes treat each register: one description for each row of the spec's register
tables, and the value a register holds after reset. -/

namespace Sys2Proof.Machine

/-- Registers at 0x00_0000. -/
def descs00 : List RegDesc := [
  ⟨0x000000, [], 0x324800B1, 0x00000000, 0x00000000⟩,
  ⟨0x000100, [], 0x00000000, 0xFFFFFFFB, 0x00000000⟩,
  ⟨0x000104, [], 0x00000000, 0x00000000, 0x00000700⟩,
  ⟨0x000108, [], 0x00000000, 0x00000000, 0x00000000⟩,
  ⟨0x00010C, [], 0x00000000, 0x00000000, 0x00000000⟩,
  ⟨0x000110, [], 0x00000000, 0x00000000, 0x00000000⟩,
  ⟨0x000114, [], 0x00000019, 0xFFFFFFFF, 0x00000000⟩,
  ⟨0x000118, [], 0x00000810, 0xFFFFFFFF, 0x00000000⟩,
  ⟨0x00011C, [], 0x00000000, 0x00000000, 0x00000000⟩,
  ⟨0x000130, [], 0x00000000, 0xFFFFFFFF, 0x00000000⟩,
  ⟨0x000134, [], 0x00000000, 0x00000000, 0x00000000⟩,
  ⟨0x000138, [], 0x00000000, 0xFFFFFFFF, 0x00000000⟩,
  ⟨0x000140, [], 0x00000000, 0x00000000, 0x00000000⟩,
  ⟨0x000144, [], 0x00000000, 0x00000000, 0x00000000⟩,
  ⟨0x000010, [], 0x00000000, 0x00000000, 0x00000000⟩,
  ⟨0x000014, [], 0x00000000, 0x00000000, 0x00000000⟩,
  ⟨0x000018, [], 0x00000000, 0x00000000, 0x00000000⟩,
  ⟨0x00001C, [], 0x00000000, 0x00000000, 0x00000000⟩,
  ⟨0x000020, [], 0x00000000, 0x00000000, 0x00000000⟩,
  ⟨0x000030, [], 0x00000000, 0x00000000, 0x00000000⟩,
  ⟨0x000034, [], 0x00000000, 0x00000000, 0x00000000⟩,
  ⟨0x000038, [], 0x00000000, 0x00000000, 0x00000000⟩,
  ⟨0x000040, [], 0x0000000A, 0xFFFFFFFF, 0x00000000⟩,
  ⟨0x000044, [], 0x00000000, 0xFFFFFFFF, 0x00000000⟩,
  ⟨0x001000, [(4096, 0x4)], 0x00000000, 0x00000000, 0x00000000⟩]

/-- Registers at 0x01_0000. -/
def descs01 : List RegDesc := [
  ⟨0x010400, [], 0xB7C000F1, 0xFFFFFFFF, 0x00000000⟩,
  ⟨0x010404, [], 0x00000000, 0x00000000, 0x00000F00⟩,
  ⟨0x010408, [], 0x00000000, 0xFFFFFFFF, 0x00000000⟩,
  ⟨0x01040C, [], 0x00000000, 0xFFFFFFFF, 0x00000000⟩,
  ⟨0x010410, [], 0x00000000, 0xFFFFFFFF, 0x00000000⟩,
  ⟨0x010420, [(9, 0x4)], 0x00000000, 0x00000000, 0x00000000⟩,
  ⟨0x010480, [], 0x00000000, 0x00000000, 0x00000000⟩,
  ⟨0x010484, [], 0x00000000, 0x00000000, 0x00000000⟩,
  ⟨0x010488, [], 0x00000000, 0x00000000, 0x00000000⟩,
  ⟨0x01048C, [], 0x00000000, 0x00000000, 0x00000000⟩,
  ⟨0x010490, [], 0x00000000, 0x00000000, 0x00000000⟩,
  ⟨0x010494, [], 0x00000000, 0x00000000, 0x00000000⟩,
  ⟨0x010498, [], 0x00000000, 0x00000000, 0x00000000⟩,
  ⟨0x01049C, [], 0x00000000, 0x00000000, 0x00000000⟩,
  ⟨0x0104A0, [], 0x00000000, 0x00000000, 0x00000000⟩,
  ⟨0x0104A4, [], 0x00000000, 0x00000000, 0x00000000⟩,
  ⟨0x010600, [], 0x00000000, 0x00000000, 0x00000000⟩,
  ⟨0x010604, [], 0x00000000, 0xFFFFFFFF, 0x00000000⟩,
  ⟨0x010608, [], 0x00000000, 0xFFFFF000, 0x00000000⟩,
  ⟨0x01060C, [], 0x00000000, 0xFFFFFFFF, 0x00000000⟩,
  ⟨0x010610, [], 0x00000000, 0x00000000, 0x00000000⟩,
  ⟨0x010614, [], 0x00000000, 0xFFFFFFFF, 0x00000000⟩,
  ⟨0x010620, [(8, 0x4)], 0x00000000, 0x00000000, 0x00000000⟩,
  ⟨0x011000, [(256, 0x4)], 0x00000000, 0xFFFFFFFF, 0x00000000⟩,
  ⟨0x011400, [], 0x00000000, 0x00000000, 0x00000200⟩,
  ⟨0x010000, [], 0x00000000, 0x00000000, 0x00000000⟩,
  ⟨0x010004, [], 0x00000000, 0x00000000, 0x00000000⟩,
  ⟨0x010008, [], 0x00000000, 0x00000000, 0x00000000⟩,
  ⟨0x010020, [], 0x00000000, 0xFFFFFFFF, 0x00000000⟩,
  ⟨0x010024, [], 0x00000000, 0xFFFFFFFF, 0x00000000⟩,
  ⟨0x010028, [], 0x00000000, 0xFFFFFFFF, 0x00000000⟩,
  ⟨0x01002C, [], 0x00000000, 0xFFF0FCFE, 0x00000200⟩,
  ⟨0x010100, [], 0x000003E8, 0xFFFFFFFF, 0x00000000⟩,
  ⟨0x010104, [], 0x00000000, 0x00000000, 0x00000000⟩,
  ⟨0x010108, [], 0x00000000, 0xFFFFFFFF, 0x00000000⟩]

/-- Registers at 0x02_0000. -/
def descs02 : List RegDesc := [
  ⟨0x020000, [], 0x00000000, 0x00000000, 0x00000000⟩,
  ⟨0x020004, [], 0x00000000, 0xFFFFFFFF, 0x00000000⟩,
  ⟨0x020008, [], 0x00000000, 0xFFFFFFFF, 0x00000000⟩,
  ⟨0x02000C, [], 0x00000000, 0x00000000, 0x00007FFF⟩,
  ⟨0x020010, [], 0x00001820, 0xFFFFFFFF, 0x00000000⟩,
  ⟨0x020040, [(16, 0x4)], 0x00000000, 0x00000000, 0x00000000⟩,
  ⟨0x020100, [(16, 0x40)], 0x00000000, 0xFFFFFFFF, 0x00000000⟩,
  ⟨0x020104, [(16, 0x40), (8, 0x4)], 0x00000000, 0xFFFFFFFF, 0x00000000⟩]

/-- Registers at 0x03_0000. -/
def descs03 : List RegDesc := [
  ⟨0x030000, [], 0x00000000, 0x00000000, 0x00000700⟩,
  ⟨0x030004, [], 0x02736964, 0xFFFFFFFF, 0x00000000⟩,
  ⟨0x030008, [], 0x00003232, 0xFFFFFFFF, 0x00000000⟩,
  ⟨0x03000C, [], 0x00000000, 0x00000000, 0x00000FFF⟩,
  ⟨0x030010, [], 0x00000000, 0x00000000, 0x00000000⟩,
  ⟨0x030014, [], 0x00000000, 0xFFFFFFFF, 0x00000000⟩,
  ⟨0x030018, [], 0x00000000, 0x00000000, 0xFFFFFFFF⟩,
  ⟨0x030040, [(12, 0x4)], 0x00000000, 0x00000000, 0x00000000⟩,
  ⟨0x030080, [(16, 0x8)], 0x00000000, 0x00000000, 0x00000000⟩,
  ⟨0x030084, [(16, 0x8)], 0x00000000, 0xFFFFFFFF, 0x00000000⟩]

/-- Registers at 0x04_0000. -/
def descs04 : List RegDesc := [
  ⟨0x040000, [(12, 0x1000)], 0x00000002, 0xFFFFFFFF, 0x00000000⟩,
  ⟨0x040004, [(12, 0x1000)], 0x00000000, 0x00000000, 0x00000F00⟩,
  ⟨0x040008, [(12, 0x1000)], 0x00000000, 0x00000000, 0x00000000⟩,
  ⟨0x04000C, [(12, 0x1000)], 0x00061C02, 0xFFFFFFFF, 0x00000000⟩,
  ⟨0x040010, [(12, 0x1000)], 0x00000008, 0xFFFFFFFF, 0x00000000⟩,
  ⟨0x040014, [(12, 0x1000)], 0x00000000, 0x00000000, 0x00000000⟩,
  ⟨0x040018, [(12, 0x1000)], 0x00001E10, 0xFFFFFFFF, 0x00000000⟩,
  ⟨0x04001C, [(12, 0x1000)], 0x0000003C, 0xFFFFFFFF, 0x00000000⟩,
  ⟨0x040020, [(12, 0x1000)], 0x00000000, 0xFFFFFEFF, 0x00000000⟩,
  ⟨0x040024, [(12, 0x1000)], 0x00000000, 0x00000000, 0x00000000⟩,
  ⟨0x040028, [(12, 0x1000)], 0x00000000, 0xFFFFFFFF, 0x00000000⟩,
  ⟨0x04002C, [(12, 0x1000)], 0x00000000, 0xFFFFFFFF, 0x00000000⟩,
  ⟨0x040030, [(12, 0x1000)], 0x00000000, 0xFFFFFFFF, 0x00000000⟩,
  ⟨0x040034, [(12, 0x1000)], 0x00000000, 0xFFFFFFFF, 0x00000000⟩,
  ⟨0x040040, [(12, 0x1000)], 0x00000000, 0x00000000, 0x00000000⟩,
  ⟨0x040044, [(12, 0x1000)], 0x00000000, 0x00000000, 0x00000000⟩,
  ⟨0x040048, [(12, 0x1000)], 0x00000000, 0x00000000, 0x00000000⟩,
  ⟨0x04004C, [(12, 0x1000)], 0x00000000, 0x00000000, 0x00000000⟩,
  ⟨0x040050, [(12, 0x1000)], 0x00000000, 0xFFFFFFFF, 0x00000000⟩,
  ⟨0x040054, [(12, 0x1000)], 0x00000000, 0xFFFFFFFF, 0x00000000⟩,
  ⟨0x040058, [(12, 0x1000)], 0x00000000, 0xFFFFFFFF, 0x00000000⟩]

/-- Registers at 0x05_0000. -/
def descs05 : List RegDesc := [
  ⟨0x050000, [(2, 0x1000)], 0x00000002, 0xFFFFFFFF, 0x00000000⟩,
  ⟨0x050004, [(2, 0x1000)], 0x00000000, 0x00000000, 0x00000300⟩,
  ⟨0x050008, [(2, 0x1000)], 0x00000000, 0xFFFFFFFF, 0x00000000⟩,
  ⟨0x05000C, [(2, 0x1000)], 0x00000000, 0xFFFFFFFF, 0x00000000⟩,
  ⟨0x050010, [(2, 0x1000)], 0x00000000, 0xFFFFFFFF, 0x00000000⟩,
  ⟨0x050020, [(2, 0x1000), (4, 0x4)], 0x00000000, 0xFFFFFFFF, 0x00000000⟩,
  ⟨0x050030, [(2, 0x1000)], 0x00000000, 0xFFFFFFFF, 0x00000000⟩,
  ⟨0x050040, [(2, 0x1000)], 0x00000000, 0xFFFFFFFF, 0x00000000⟩,
  ⟨0x050044, [(2, 0x1000)], 0x00000000, 0xFFFFFFFF, 0x00000000⟩,
  ⟨0x050048, [(2, 0x1000)], 0x00000000, 0xFFFFFFFF, 0x00000000⟩,
  ⟨0x05004C, [(2, 0x1000)], 0x00000000, 0xFFFFFFFF, 0x00000000⟩,
  ⟨0x050050, [(2, 0x1000)], 0x00000000, 0xFFFFFFFF, 0x00000000⟩,
  ⟨0x050054, [(2, 0x1000)], 0x00000000, 0xFFFFFFFF, 0x00000000⟩,
  ⟨0x050100, [(2, 0x1000)], 0x00000000, 0xFFFFFFFF, 0x00000000⟩,
  ⟨0x050104, [(2, 0x1000)], 0x00000000, 0x00000000, 0x00000300⟩,
  ⟨0x050108, [(2, 0x1000)], 0x00000000, 0xFFFFFFFF, 0x00000000⟩,
  ⟨0x05010C, [(2, 0x1000)], 0x00000000, 0xFFFFFFFF, 0x00000000⟩,
  ⟨0x050110, [(2, 0x1000)], 0x00000000, 0x00000000, 0x00000000⟩,
  ⟨0x050114, [(2, 0x1000)], 0x00000000, 0xFFFFFFFF, 0x00000000⟩,
  ⟨0x050118, [(2, 0x1000)], 0x00000000, 0x00000000, 0x00000000⟩,
  ⟨0x05011C, [(2, 0x1000)], 0x00000000, 0x00000000, 0x00000000⟩,
  ⟨0x050120, [(2, 0x1000)], 0x00000000, 0x00000000, 0x00000000⟩,
  ⟨0x050124, [(2, 0x1000)], 0x00000000, 0x00000000, 0x00000000⟩,
  ⟨0x050128, [(2, 0x1000)], 0x00000000, 0x00000000, 0x00000000⟩,
  ⟨0x05012C, [(2, 0x1000)], 0x00000000, 0x00000000, 0x00000000⟩,
  ⟨0x050130, [(2, 0x1000)], 0x00000000, 0xFFFFFFFF, 0x00000000⟩,
  ⟨0x050134, [(2, 0x1000)], 0x00000000, 0x00000000, 0x00000000⟩,
  ⟨0x050138, [(2, 0x1000)], 0x00000000, 0x00000000, 0x00000000⟩,
  ⟨0x05013C, [(2, 0x1000)], 0x00000000, 0xFFFFFFFF, 0x00000000⟩,
  ⟨0x050400, [(2, 0x1000), (64, 0x4)], 0x00000000, 0xFFFFFFFF, 0x00000000⟩,
  ⟨0x050500, [(2, 0x1000), (68, 0x4)], 0x00000000, 0x00000000, 0x00000000⟩]

/-- Registers at 0x06_0000. -/
def descs06 : List RegDesc := [
  ⟨0x060000, [], 0x00000000, 0x00000000, 0x00000000⟩,
  ⟨0x060004, [], 0x00000000, 0xFFFFFFFE, 0x00000000⟩,
  ⟨0x060008, [], 0x00000000, 0x00000000, 0x00000000⟩,
  ⟨0x06000C, [], 0x000003E8, 0xFFFFFFFF, 0x00000000⟩,
  ⟨0x060010, [], 0x00000064, 0xFFFFFFFF, 0x00000000⟩,
  ⟨0x060014, [], 0x00000064, 0xFFFFFFFF, 0x00000000⟩,
  ⟨0x060018, [], 0x00000000, 0x00000000, 0x00000000⟩,
  ⟨0x06001C, [], 0x00000000, 0xFFFFFFFF, 0x00000000⟩,
  ⟨0x060020, [], 0x00000000, 0xFFFFFFFF, 0x00000000⟩,
  ⟨0x061000, [(4, 0x100)], 0x00000001, 0xFFFFFFFF, 0x00000000⟩,
  ⟨0x061004, [(4, 0x100)], 0x00000000, 0x00000000, 0x000F0000⟩,
  ⟨0x061008, [(4, 0x100)], 0x00000000, 0x00000000, 0x00000000⟩,
  ⟨0x06100C, [(4, 0x100)], 0x00000000, 0x00000000, 0x00000000⟩,
  ⟨0x061010, [(4, 0x100)], 0x00000000, 0x00000000, 0x00000000⟩,
  ⟨0x061014, [(4, 0x100)], 0x00000000, 0xFFFFFFFF, 0x00000000⟩,
  ⟨0x061018, [(4, 0x100)], 0x00000000, 0xFFFFFFFF, 0x00000000⟩,
  ⟨0x06101C, [(4, 0x100)], 0x00000000, 0xFFFFFFFF, 0x00000000⟩,
  ⟨0x061020, [(4, 0x100)], 0x00000000, 0xFFFFFFFF, 0x00000000⟩,
  ⟨0x061024, [(4, 0x100)], 0x00000000, 0xFFFFFFFF, 0x00000000⟩]

/-- Registers at 0x07_0000. -/
def descs07 : List RegDesc := [
  ⟨0x070000, [(4, 0x100)], 0x00000001, 0xFFFFFFFF, 0x00000000⟩,
  ⟨0x070004, [(4, 0x100)], 0x00000002, 0x00000000, 0x00000700⟩,
  ⟨0x070008, [(4, 0x100)], 0x00000000, 0x00000000, 0x00000000⟩,
  ⟨0x07000C, [(4, 0x100)], 0x00000000, 0x00000000, 0x00000000⟩,
  ⟨0x070010, [(4, 0x100)], 0x00000000, 0x00000000, 0x00000000⟩,
  ⟨0x070014, [(4, 0x100)], 0x00000000, 0x00000000, 0x00000000⟩,
  ⟨0x070018, [(4, 0x100)], 0x00000000, 0xFFFFFFFF, 0x00000000⟩,
  ⟨0x07001C, [(4, 0x100)], 0x00000000, 0xFFFFFFFF, 0x00000000⟩,
  ⟨0x070020, [(4, 0x100)], 0x00000000, 0xFFFFFFFF, 0x00000000⟩,
  ⟨0x070024, [(4, 0x100)], 0x00000000, 0x00000000, 0x00000000⟩,
  ⟨0x070028, [(4, 0x100)], 0x00000000, 0xFFFFFFFF, 0x00000000⟩,
  ⟨0x07002C, [(4, 0x100)], 0x00000000, 0xFFFFFFFF, 0x00000000⟩,
  ⟨0x070030, [(4, 0x100)], 0x00000000, 0x00000000, 0x00000000⟩,
  ⟨0x070034, [(4, 0x100)], 0x00000000, 0x00000000, 0x00000000⟩,
  ⟨0x070038, [(4, 0x100)], 0x0BB80000, 0xFFFFFFFF, 0x00000000⟩,
  ⟨0x07003C, [(4, 0x100)], 0x012C0000, 0xFFFFFFFF, 0x00000000⟩,
  ⟨0x070040, [(4, 0x100)], 0x0007A120, 0xFFFFFFFF, 0x00000000⟩,
  ⟨0x070044, [(4, 0x100)], 0x0007A120, 0xFFFFFFFF, 0x00000000⟩,
  ⟨0x070048, [(4, 0x100)], 0x000003E8, 0xFFFFFFFF, 0x00000000⟩,
  ⟨0x07004C, [(4, 0x100)], 0x00080010, 0xFFFFFFFF, 0x00000000⟩,
  ⟨0x070050, [(4, 0x100)], 0x00000005, 0xFFFFFFFF, 0x00000000⟩,
  ⟨0x070054, [(4, 0x100)], 0x00000000, 0x00000000, 0x00000000⟩,
  ⟨0x070058, [(4, 0x100)], 0x00000000, 0x00000000, 0x00000000⟩,
  ⟨0x07005C, [(4, 0x100)], 0x00000000, 0x00000000, 0x00000000⟩,
  ⟨0x070060, [(4, 0x100)], 0x00000000, 0xFFFFFFFF, 0x00000000⟩,
  ⟨0x070064, [(4, 0x100)], 0x00000000, 0xFFFFFFFF, 0x00000000⟩,
  ⟨0x070068, [(4, 0x100)], 0x00000000, 0xFFFFFFFF, 0x00000000⟩,
  ⟨0x070800, [], 0x00000000, 0x00000000, 0x00000000⟩,
  ⟨0x070810, [(4, 0x10)], 0x00000000, 0x00000000, 0x00000000⟩,
  ⟨0x070814, [(4, 0x10)], 0x00000000, 0x00000000, 0x00000000⟩,
  ⟨0x070818, [(4, 0x10)], 0x00000000, 0x00000000, 0x00000000⟩,
  ⟨0x07081C, [(4, 0x10)], 0x00000000, 0x00000000, 0x00000000⟩,
  ⟨0x070900, [], 0x0000000A, 0xFFFFFFFF, 0x00000000⟩,
  ⟨0x070904, [], 0x00000000, 0xFFFFFFFF, 0x00000000⟩,
  ⟨0x070908, [], 0x00000000, 0x00000000, 0x00000000⟩,
  ⟨0x07090C, [], 0x00000000, 0xFFFFFFFF, 0x00000000⟩]

/-- Registers at 0x08_0000. -/
def descs08a : List RegDesc := [
  ⟨0x080000, [], 0x00000000, 0xFFFFFFFF, 0x00000000⟩,
  ⟨0x080004, [], 0x00000000, 0x00000000, 0x00000100⟩,
  ⟨0x080008, [], 0x00000000, 0x00000000, 0x00000000⟩,
  ⟨0x08000C, [], 0x00000008, 0xFFFFFFFF, 0x00000000⟩,
  ⟨0x080010, [], 0x00000064, 0xFFFFFFFF, 0x00000000⟩,
  ⟨0x080014, [], 0x00000000, 0xFFFFFFFF, 0x00000000⟩,
  ⟨0x080018, [], 0x00000000, 0xFFFFFFFF, 0x00000000⟩,
  ⟨0x08001C, [], 0x00000000, 0xFFFFFFFF, 0x00000000⟩,
  ⟨0x080020, [], 0x00000000, 0xFFFFFFC0, 0x00000000⟩,
  ⟨0x080024, [], 0x00000000, 0xFFFFFFFF, 0x00000000⟩,
  ⟨0x080028, [], 0x00000000, 0xFFFFFCFE, 0x00000200⟩,
  ⟨0x080040, [(16, 0x4)], 0x00000000, 0x00000000, 0x00000000⟩,
  ⟨0x080080, [(4, 0x4)], 0x00000000, 0x00000000, 0x00000000⟩,
  ⟨0x081000, [(2, 0x1000)], 0x00000000, 0xFFFFFFFF, 0x00000000⟩,
  ⟨0x081004, [(2, 0x1000)], 0x00000000, 0x00000000, 0x00000100⟩,
  ⟨0x081008, [(2, 0x1000)], 0x00000000, 0xFFFFFFFF, 0x00000000⟩,
  ⟨0x08100C, [(2, 0x1000)], 0x00000000, 0xFFFFFCFF, 0x00000000⟩,
  ⟨0x081010, [(2, 0x1000)], 0x000000E4, 0xFFFFFFFF, 0x00000000⟩,
  ⟨0x081014, [(2, 0x1000)], 0x00000000, 0x00000000, 0x00000000⟩,
  ⟨0x081018, [(2, 0x1000)], 0x00000000, 0xFFFFFFFF, 0x00000000⟩,
  ⟨0x08101C, [(2, 0x1000)], 0xFFFFFFFF, 0xFFFFFFFF, 0x00000000⟩,
  ⟨0x081020, [(2, 0x1000)], 0x00000000, 0x00000000, 0xFFFFFFFF⟩,
  ⟨0x081024, [(2, 0x1000)], 0x00000000, 0x00000000, 0x00000000⟩,
  ⟨0x081028, [(2, 0x1000)], 0x00000064, 0xFFFFFFFF, 0x00000000⟩,
  ⟨0x08102C, [(2, 0x1000)], 0x00000000, 0x00000000, 0x00000600⟩,
  ⟨0x081030, [(2, 0x1000)], 0x00011000, 0xFFFFFFFF, 0x00000000⟩,
  ⟨0x081034, [(2, 0x1000)], 0x00001801, 0xFFFFFFFF, 0x00000000⟩,
  ⟨0x081038, [(2, 0x1000)], 0x00000000, 0x00000000, 0x00000000⟩,
  ⟨0x08103C, [(2, 0x1000)], 0x00000000, 0xFFFFFFFF, 0x00000000⟩,
  ⟨0x081040, [(2, 0x1000)], 0x00000001, 0xFFFFCCFF, 0x00000000⟩,
  ⟨0x081044, [(2, 0x1000)], 0x00000000, 0x00000000, 0x00000000⟩,
  ⟨0x081048, [(2, 0x1000)], 0x00000000, 0xFFFCFFFE, 0x00020000⟩,
  ⟨0x081050, [(2, 0x1000)], 0x00000000, 0xFFFFFFFF, 0x00000000⟩,
  ⟨0x081054, [(2, 0x1000)], 0x00000000, 0xFFFFFFFF, 0x00000000⟩,
  ⟨0x081058, [(2, 0x1000)], 0x00000000, 0xFFFFFFFF, 0x00000000⟩,
  ⟨0x08105C, [(2, 0x1000)], 0x00000000, 0xFFFFFFFF, 0x00000000⟩,
  ⟨0x081060, [(2, 0x1000)], 0x00000000, 0xFFFFFFFF, 0x00000000⟩,
  ⟨0x081064, [(2, 0x1000)], 0x00000000, 0xFFFFFFFF, 0x00000000⟩,
  ⟨0x081068, [(2, 0x1000)], 0x00000000, 0xFFFFFFFF, 0x00000000⟩,
  ⟨0x081070, [(2, 0x1000)], 0x00000000, 0x00000000, 0x00000000⟩]

/-- Registers at 0x08_0000. -/
def descs08b : List RegDesc := [
  ⟨0x081074, [(2, 0x1000)], 0x00000000, 0x00000000, 0x00000000⟩,
  ⟨0x081078, [(2, 0x1000)], 0x00000000, 0x00000000, 0x00000000⟩,
  ⟨0x08107C, [(2, 0x1000)], 0x00000000, 0x00000000, 0x00000000⟩]

/-- Registers at 0x09_0000. -/
def descs09 : List RegDesc := [
  ⟨0x090000, [], 0x00000000, 0x00000000, 0x00000000⟩,
  ⟨0x090004, [], 0x00000000, 0x00000000, 0x00000000⟩,
  ⟨0x090008, [], 0x00000000, 0x00000000, 0x00000000⟩,
  ⟨0x091000, [(32, 0x40)], 0x000A0300, 0xFFFFFFFF, 0x00000000⟩,
  ⟨0x091004, [(32, 0x40)], 0x00000000, 0x00000000, 0x00030000⟩,
  ⟨0x091008, [(32, 0x40)], 0x00000000, 0xFFFFFFE0, 0x00000000⟩,
  ⟨0x09100C, [(32, 0x40)], 0x00000000, 0xFFFFFFFF, 0x00000000⟩,
  ⟨0x091010, [(32, 0x40)], 0x00000000, 0x00000000, 0x00000000⟩,
  ⟨0x091014, [(32, 0x40)], 0x00000000, 0x00000000, 0x00000000⟩,
  ⟨0x091018, [(32, 0x40)], 0x00000000, 0x00000000, 0x00000000⟩,
  ⟨0x09101C, [(32, 0x40)], 0x00000000, 0x00000000, 0x00000000⟩,
  ⟨0x091020, [(32, 0x40)], 0x00000000, 0x00000000, 0x00000000⟩,
  ⟨0x091024, [(32, 0x40)], 0x00000000, 0x00000000, 0x00000000⟩,
  ⟨0x091028, [(32, 0x40)], 0x00000000, 0xFFFFFFFF, 0x00000000⟩,
  ⟨0x09102C, [(32, 0x40)], 0x00000000, 0xFFFFFFFF, 0x00000000⟩,
  ⟨0x091030, [(32, 0x40)], 0x00000000, 0x00000000, 0x00000000⟩,
  ⟨0x091034, [(32, 0x40)], 0x00000000, 0x00000000, 0x00000000⟩]

/-- Registers at 0x0A_0000. -/
def descs0A : List RegDesc := [
  ⟨0x0A0000, [(16, 0x100)], 0x00000C00, 0xFFFFFFFF, 0x00000000⟩,
  ⟨0x0A0004, [(16, 0x100)], 0x00000000, 0x00000000, 0x03000000⟩,
  ⟨0x0A0008, [(16, 0x100)], 0x00000000, 0x00000000, 0x00000000⟩,
  ⟨0x0A000C, [(16, 0x100)], 0x00000000, 0x00000000, 0x00000000⟩,
  ⟨0x0A0010, [(16, 0x100)], 0x00000000, 0xFFFFFFFF, 0x00000000⟩,
  ⟨0x0A0014, [(16, 0x100)], 0x00000000, 0xFFFFFFFF, 0x00000000⟩,
  ⟨0x0A0018, [(16, 0x100)], 0x00000000, 0xFFFFFFFF, 0x00000000⟩,
  ⟨0x0A001C, [(16, 0x100)], 0x00000000, 0xFFFFFFFF, 0x00000000⟩,
  ⟨0x0A0020, [(16, 0x100)], 0x00000000, 0x00000000, 0x00000000⟩,
  ⟨0x0A0040, [(16, 0x100)], 0x00000000, 0xFFFFFFF0, 0x00000000⟩,
  ⟨0x0A0044, [(16, 0x100)], 0x00000000, 0xFFFFFFFF, 0x00000000⟩,
  ⟨0x0A0048, [(15, 0x100)], 0x00000000, 0x00000000, 0x00000000⟩,
  ⟨0x0A0F48, [(1, 0x100)], 0x0000000A, 0xFFFFFFFF, 0x00000000⟩,
  ⟨0x0A004C, [(16, 0x100)], 0x00000000, 0x00000000, 0x00000000⟩]

/-- Registers at 0x0B_0000. -/
def descs0Ba : List RegDesc := [
  ⟨0x0B0000, [], 0x00000002, 0xFFFFFFFF, 0x00000000⟩,
  ⟨0x0B0004, [], 0x00000000, 0x00000000, 0x00000700⟩,
  ⟨0x0B0008, [], 0x00007F7F, 0xFFFFFFFF, 0x00000000⟩,
  ⟨0x0B000C, [], 0x3E803E80, 0xFFFFFFFF, 0x00000000⟩,
  ⟨0x0B0010, [], 0xFFF06000, 0xFFFFFFFF, 0x00000000⟩,
  ⟨0x0B0014, [], 0xFFF06000, 0xFFFFFFFF, 0x00000000⟩,
  ⟨0x0B0018, [(4, 0x4)], 0x00000000, 0xFFFFFFFF, 0x00000000⟩,
  ⟨0x0B0028, [], 0x00000000, 0xFFFFFFFF, 0x00000000⟩,
  ⟨0x0B002C, [], 0x00002710, 0xFFFFFFFF, 0x00000000⟩,
  ⟨0x0B0030, [(4, 0x10)], 0x00000000, 0xFFFFFFFF, 0x00000000⟩,
  ⟨0x0B0034, [(4, 0x10)], 0x00000000, 0xFFFFFFFF, 0x00000000⟩,
  ⟨0x0B0038, [(4, 0x10)], 0x00000000, 0xFFFFFFFF, 0x00000000⟩,
  ⟨0x0B0070, [], 0x00000000, 0xFFFFF000, 0x00000000⟩,
  ⟨0x0B0074, [], 0x00000000, 0xFFFFFFFF, 0x00000000⟩,
  ⟨0x0B0078, [], 0x00000000, 0x00000000, 0x00000600⟩,
  ⟨0x0B0080, [], 0x00000000, 0x00000000, 0x00000000⟩,
  ⟨0x0B0100, [], 0x00000000, 0xFFFFFFFF, 0x00000000⟩,
  ⟨0x0B0104, [], 0x00000000, 0xFFFFFFFF, 0x00000000⟩,
  ⟨0x0B0108, [], 0x00000000, 0xFFFFFFFF, 0x00000000⟩,
  ⟨0x0B010C, [], 0x00000000, 0xFFFFFFFF, 0x00000000⟩,
  ⟨0x0B0110, [], 0x00000000, 0xFFFFFFFF, 0x00000000⟩,
  ⟨0x0B0114, [], 0x00000000, 0xFFFFFFFF, 0x00000000⟩,
  ⟨0x0B0118, [], 0x00000000, 0xFFFFFFFF, 0x00000000⟩,
  ⟨0x0B0140, [], 0x00000000, 0xFFFFFFFF, 0x00000000⟩,
  ⟨0x0B0144, [], 0x00000000, 0x00000000, 0x00000000⟩,
  ⟨0x0B0148, [], 0x00000000, 0xFFFFFFFF, 0x00000000⟩,
  ⟨0x0B0150, [], 0x00000000, 0xFFFFFFFF, 0x00000000⟩,
  ⟨0x0B0154, [], 0x00000000, 0x00000000, 0x00000000⟩,
  ⟨0x0B0158, [], 0x00000000, 0xFFFFFFFF, 0x00000000⟩,
  ⟨0x0B015C, [], 0x00000000, 0x00000000, 0x00000000⟩,
  ⟨0x0B0400, [(32, 0x20)], 0x00000000, 0x00000000, 0x000F0000⟩,
  ⟨0x0B0404, [(32, 0x20)], 0x00000000, 0xFFFFFFFF, 0x00000000⟩,
  ⟨0x0B0408, [(32, 0x20)], 0x00000000, 0xFFFFFFFF, 0x00000000⟩,
  ⟨0x0B040C, [(32, 0x20)], 0x00000000, 0x00000000, 0x00000000⟩,
  ⟨0x0B1000, [(64, 0x40)], 0x00000000, 0xFFFFFFFF, 0x00000000⟩,
  ⟨0x0B1004, [(64, 0x40)], 0x00000000, 0x00000000, 0x00000000⟩,
  ⟨0x0B1008, [(64, 0x40)], 0x00000000, 0xFFFFF000, 0x00000000⟩,
  ⟨0x0B100C, [(64, 0x40)], 0x00000000, 0xFFFFFFFF, 0x00000000⟩,
  ⟨0x0B1010, [(64, 0x40)], 0x00001000, 0xFFFFFFFF, 0x00000000⟩,
  ⟨0x0B1014, [(64, 0x40)], 0x00000000, 0xFFFFFFFF, 0x00000000⟩]

/-- Registers at 0x0B_0000. -/
def descs0Bb : List RegDesc := [
  ⟨0x0B1018, [(64, 0x40)], 0x00000000, 0x00000000, 0x00000000⟩,
  ⟨0x0B101C, [(64, 0x40)], 0x00000000, 0x00000000, 0x00000000⟩,
  ⟨0x0B1020, [(64, 0x40)], 0x00000000, 0xFFFFFFFF, 0x00000000⟩,
  ⟨0x0B1024, [(64, 0x40)], 0x00000000, 0xFFFFFFFF, 0x00000000⟩,
  ⟨0x0B8000, [(2048, 0x4)], 0x00000000, 0x00000000, 0x00000000⟩]

/-- Registers at 0x0C_0000. -/
def descs0C : List RegDesc := [
  ⟨0x0C0080, [(32, 0x2000)], 0x00000000, 0xFFFFFFFF, 0x00000000⟩,
  ⟨0x0C0084, [(32, 0x2000)], 0x00000000, 0xFFFFFFFF, 0x00000000⟩,
  ⟨0x0C0088, [(32, 0x2000)], 0x00000000, 0x00000000, 0x00010000⟩,
  ⟨0x0C0000, [(32, 0x2000)], 0x00000000, 0xFFFFFFFF, 0x00000000⟩,
  ⟨0x0C0004, [(32, 0x2000)], 0x00000000, 0x00000000, 0x00000F00⟩,
  ⟨0x0C0008, [(32, 0x2000)], 0x00000000, 0xFFFFFFF8, 0x00000000⟩,
  ⟨0x0C000C, [(32, 0x2000)], 0x00000000, 0xFFFFFFFF, 0x00000000⟩,
  ⟨0x0C0010, [(32, 0x2000)], 0x00000000, 0xFFFFFFFF, 0x00000000⟩,
  ⟨0x0C0014, [(32, 0x2000)], 0x00000000, 0xFFFFFFFF, 0x00000000⟩,
  ⟨0x0C0018, [(32, 0x2000)], 0x00000000, 0xFFFFFFFF, 0x00000000⟩,
  ⟨0x0C001C, [(32, 0x2000)], 0x00000000, 0xFFFFFFFF, 0x00000000⟩,
  ⟨0x0C0020, [(32, 0x2000)], 0x000F4240, 0xFFFFFFFF, 0x00000000⟩,
  ⟨0x0C0024, [(32, 0x2000)], 0x004C4B40, 0xFFFFFFFF, 0x00000000⟩,
  ⟨0x0C0028, [(32, 0x2000)], 0x00989680, 0xFFFFFFFF, 0x00000000⟩,
  ⟨0x0C002C, [(32, 0x2000)], 0x05F5E100, 0xFFFFFFFF, 0x00000000⟩,
  ⟨0x0C0030, [(32, 0x2000)], 0x004C4B40, 0xFFFFFFFF, 0x00000000⟩,
  ⟨0x0C0034, [(32, 0x2000)], 0x02FAF080, 0xFFFFFFFF, 0x00000000⟩,
  ⟨0x0C0038, [(32, 0x2000)], 0x00000000, 0x00000000, 0x00000000⟩,
  ⟨0x0C003C, [(32, 0x2000)], 0x00000000, 0x00000000, 0x00000000⟩,
  ⟨0x0C0040, [(32, 0x2000)], 0x00000000, 0x00000000, 0x00000000⟩,
  ⟨0x0C0044, [(32, 0x2000)], 0x00000000, 0x00000000, 0x00000000⟩,
  ⟨0x0C00C0, [(32, 0x2000)], 0x00000000, 0xFFFFFFFF, 0x00000000⟩,
  ⟨0x0C00C4, [(32, 0x2000)], 0x00000000, 0xFFFFFFFF, 0x00000000⟩,
  ⟨0x0C00C8, [(32, 0x2000)], 0x00000000, 0xFFFFFFFF, 0x00000000⟩,
  ⟨0x0C00CC, [(32, 0x2000)], 0x00000000, 0xFFFFFFFF, 0x00000000⟩,
  ⟨0x0C00D0, [(32, 0x2000)], 0x00000000, 0x00000000, 0x00000000⟩,
  ⟨0x0C00D4, [(32, 0x2000)], 0x00000000, 0x00000000, 0x00000000⟩,
  ⟨0x0C00D8, [(32, 0x2000)], 0x00000000, 0x00000000, 0x00000000⟩,
  ⟨0x0C00DC, [(32, 0x2000)], 0x00000000, 0x00000000, 0x00000000⟩,
  ⟨0x0C00E0, [(32, 0x2000)], 0x00000000, 0xFFFFFFFF, 0x00000000⟩,
  ⟨0x0C0100, [(32, 0x2000), (16, 0x4)], 0x00000000, 0xFFFFFFFF, 0x00000000⟩,
  ⟨0x0C0048, [(32, 0x2000)], 0x00000000, 0x00000000, 0x00000000⟩,
  ⟨0x0C004C, [(32, 0x2000)], 0x00000000, 0x00000000, 0x00000000⟩,
  ⟨0x0C0050, [(32, 0x2000)], 0x00000000, 0x00000000, 0x00000000⟩,
  ⟨0x0C0054, [(32, 0x2000)], 0x00000000, 0x00000000, 0x00000000⟩,
  ⟨0x0C0058, [(32, 0x2000)], 0x00000000, 0x00000000, 0x00000000⟩,
  ⟨0x0C005C, [(32, 0x2000)], 0x00000000, 0xFFFFFFFF, 0x00000000⟩,
  ⟨0x0C0060, [(32, 0x2000)], 0x00000E10, 0xFFFFFFFF, 0x00000000⟩,
  ⟨0x0C0064, [(32, 0x2000)], 0x00000000, 0xFFFFFFFF, 0x00000000⟩,
  ⟨0x0C0068, [(32, 0x2000)], 0x00000000, 0x00000000, 0x00000000⟩]

/-- Registers at 0x10_0000. -/
def descs10a : List RegDesc := [
  ⟨0x100080, [(16, 0x1000)], 0x00000000, 0xFFFFFFFF, 0x00000000⟩,
  ⟨0x100084, [(16, 0x1000)], 0x00000000, 0x00000000, 0x00030000⟩,
  ⟨0x100000, [(16, 0x1000)], 0x00000000, 0xFFFFFFFF, 0x00000000⟩,
  ⟨0x100004, [(16, 0x1000)], 0x00000000, 0x00000000, 0x00000000⟩,
  ⟨0x100008, [(16, 0x1000)], 0x00000000, 0x00000000, 0x00000000⟩,
  ⟨0x100100, [(16, 0x1000), (2, 0x200)], 0x50080050, 0xFFFFFFFF, 0x00000000⟩,
  ⟨0x100104, [(16, 0x1000), (2, 0x200)], 0x00000000, 0xFFFFFFFF, 0x00000000⟩,
  ⟨0x100108, [(16, 0x1000), (2, 0x200)], 0x00000000, 0xFFFFFFFF, 0x00000000⟩,
  ⟨0x10010C, [(16, 0x1000), (2, 0x200)], 0x00000000, 0xFFFFFFFF, 0x00000000⟩,
  ⟨0x100110, [(16, 0x1000), (2, 0x200)], 0x00000000, 0xFFFFFFFF, 0x00000000⟩,
  ⟨0x100114, [(16, 0x1000), (2, 0x200)], 0x00000000, 0xFFFFFFFF, 0x00000000⟩,
  ⟨0x100118, [(16, 0x1000), (2, 0x200)], 0x00008000, 0xFFFFFFFF, 0x00000000⟩,
  ⟨0x10011C, [(16, 0x1000), (2, 0x200)], 0x00000000, 0x00000000, 0x00000300⟩,
  ⟨0x100120, [(16, 0x1000), (2, 0x200)], 0x00008000, 0x00000000, 0x00000000⟩,
  ⟨0x100124, [(16, 0x1000), (2, 0x200)], 0x00000000, 0x00000000, 0x00000000⟩,
  ⟨0x100128, [(16, 0x1000), (2, 0x200)], 0x00000000, 0x00000000, 0x00000000⟩,
  ⟨0x10012C, [(16, 0x1000), (2, 0x200)], 0x00000000, 0x00000000, 0x00000000⟩,
  ⟨0x100130, [(16, 0x1000), (2, 0x200)], 0x00000000, 0x00000000, 0x00000000⟩,
  ⟨0x100134, [(16, 0x1000), (2, 0x200)], 0x00000000, 0x00000000, 0x00000000⟩,
  ⟨0x100138, [(16, 0x1000), (2, 0x200)], 0x00000000, 0x00000000, 0x00000000⟩,
  ⟨0x10013C, [(16, 0x1000), (2, 0x200)], 0x00000000, 0x00000000, 0x00000000⟩,
  ⟨0x100140, [(16, 0x1000), (2, 0x200)], 0x00000000, 0x00000000, 0x00000000⟩,
  ⟨0x100144, [(16, 0x1000), (2, 0x200)], 0x00000000, 0x00000000, 0x00000000⟩,
  ⟨0x100148, [(16, 0x1000), (2, 0x200)], 0x00000000, 0x00000000, 0x00000000⟩,
  ⟨0x10014C, [(16, 0x1000), (2, 0x200)], 0x00000000, 0x00000000, 0x00000000⟩,
  ⟨0x100150, [(16, 0x1000), (2, 0x200)], 0x0A000000, 0xFFFFFFFF, 0x00000000⟩,
  ⟨0x100154, [(16, 0x1000), (2, 0x200)], 0x00000000, 0xFFFFFFFF, 0x00000000⟩,
  ⟨0x100158, [(16, 0x1000), (2, 0x200)], 0x00000000, 0x00000000, 0x00000000⟩,
  ⟨0x10015C, [(16, 0x1000), (2, 0x200)], 0x00000000, 0xFFFFFFFF, 0x00000000⟩,
  ⟨0x100160, [(16, 0x1000), (2, 0x200)], 0x00000000, 0x00000000, 0x00000000⟩,
  ⟨0x100164, [(16, 0x1000), (2, 0x200)], 0x00000000, 0xFFFFFFFF, 0x00000000⟩,
  ⟨0x100168, [(16, 0x1000), (2, 0x200)], 0x00000000, 0xFFFFFFFF, 0x00000000⟩,
  ⟨0x10016C, [(16, 0x1000), (2, 0x200)], 0x00000000, 0xFFFFFFFF, 0x00000000⟩,
  ⟨0x100170, [(16, 0x1000), (2, 0x200)], 0x00000000, 0xFFFFFFC0, 0x00000000⟩,
  ⟨0x100174, [(16, 0x1000), (2, 0x200)], 0x00000000, 0xFFFFFFFF, 0x00000000⟩,
  ⟨0x100178, [(16, 0x1000), (2, 0x200)], 0x00000000, 0x00000000, 0x00000600⟩,
  ⟨0x100200, [(16, 0x1000), (2, 0x200)], 0x00000000, 0xFFFFFFF8, 0x00000000⟩,
  ⟨0x100204, [(16, 0x1000), (2, 0x200)], 0x00000000, 0x00000000, 0x00000000⟩,
  ⟨0x100208, [(16, 0x1000), (2, 0x200)], 0x00000000, 0xFFFFFFFF, 0x00000000⟩,
  ⟨0x10020C, [(16, 0x1000), (2, 0x200)], 0x00000000, 0xFFFFFFFF, 0x00000000⟩]

/-- Registers at 0x10_0000. -/
def descs10b : List RegDesc := [
  ⟨0x100210, [(16, 0x1000), (2, 0x200)], 0x00000000, 0xFFFFFFFF, 0x00000000⟩,
  ⟨0x100214, [(16, 0x1000), (2, 0x200)], 0x00000000, 0xFFFFFFFF, 0x00000000⟩,
  ⟨0x100218, [(16, 0x1000), (2, 0x200)], 0x00000000, 0x00000000, 0x00000000⟩,
  ⟨0x10021C, [(16, 0x1000), (2, 0x200)], 0x00000000, 0x00000000, 0x00000000⟩,
  ⟨0x100220, [(16, 0x1000), (2, 0x200)], 0x00000000, 0x00000000, 0x00000000⟩,
  ⟨0x100240, [(16, 0x1000), (2, 0x200), (8, 0x4)], 0x00000000, 0xFFFFFFFF, 0x00000000⟩,
  ⟨0x100180, [(16, 0x1000), (2, 0x200), (2, 0x40)], 0x00000000, 0xFFFFFFFF, 0x00000000⟩,
  ⟨0x100184, [(16, 0x1000), (2, 0x200), (2, 0x40)], 0x00000000, 0xFFFFFFFF, 0x00000000⟩,
  ⟨0x100188, [(16, 0x1000), (2, 0x200), (2, 0x40)], 0x00000000, 0xFFFFFFFF, 0x00000000⟩,
  ⟨0x10018C, [(16, 0x1000), (2, 0x200), (2, 0x40)], 0x00000000, 0xFFFFFFFF, 0x00000000⟩,
  ⟨0x100190, [(16, 0x1000), (2, 0x200), (2, 0x40)], 0x00000000, 0xFFFFFFFF, 0x00000000⟩,
  ⟨0x100194, [(16, 0x1000), (2, 0x200), (2, 0x40)], 0xC0004000, 0xFFFFFFFF, 0x00000000⟩,
  ⟨0x100198, [(16, 0x1000), (2, 0x200), (2, 0x40)], 0xFFFFF000, 0xFFFFFFFF, 0x00000000⟩,
  ⟨0x10019C, [(16, 0x1000), (2, 0x200), (2, 0x40)], 0x00001000, 0xFFFFFFFF, 0x00000000⟩,
  ⟨0x1001A0, [(16, 0x1000), (2, 0x200), (2, 0x40)], 0xFF000000, 0xFFFFFFFF, 0x00000000⟩,
  ⟨0x1001A4, [(16, 0x1000), (2, 0x200), (2, 0x40)], 0x0000FFFF, 0xFFFFFFFF, 0x00000000⟩,
  ⟨0x1001A8, [(16, 0x1000), (2, 0x200), (2, 0x40)], 0x01000000, 0xFFFFFFFF, 0x00000000⟩,
  ⟨0x1001AC, [(16, 0x1000), (2, 0x200), (2, 0x40)], 0x00000000, 0xFFFFFFFF, 0x00000000⟩,
  ⟨0x1001B0, [(16, 0x1000), (2, 0x200), (2, 0x40)], 0x00000000, 0xFFFFFFFF, 0x00000000⟩,
  ⟨0x1001B4, [(16, 0x1000), (2, 0x200), (2, 0x40)], 0x0000FFF0, 0xFFFFFFFF, 0x00000000⟩,
  ⟨0x1001B8, [(16, 0x1000), (2, 0x200), (2, 0x40)], 0x00000000, 0xFFFFFFFF, 0x00000000⟩,
  ⟨0x1001BC, [(16, 0x1000), (2, 0x200), (2, 0x40)], 0x00000010, 0xFFFFFFFF, 0x00000000⟩]

/-- Registers at 0x11_0000. -/
def descs11 : List RegDesc := [
  ⟨0x110000, [(32, 0x400)], 0x00000004, 0xFFFFFFFF, 0x00000000⟩,
  ⟨0x110004, [(32, 0x400)], 0x00000000, 0x00000000, 0x00007F00⟩,
  ⟨0x110008, [(32, 0x400)], 0x00000000, 0xFFFFFCFF, 0x00000000⟩,
  ⟨0x11000C, [(32, 0x400)], 0x00000000, 0xFFFFFFFF, 0x00000000⟩,
  ⟨0x110010, [(32, 0x400)], 0x00000000, 0xFFFFFFFF, 0x00000000⟩,
  ⟨0x110014, [(32, 0x400)], 0x00002710, 0xFFFFFFFF, 0x00000000⟩,
  ⟨0x110018, [(32, 0x400)], 0x00000000, 0xFFFFFFFF, 0x00000000⟩,
  ⟨0x11001C, [(32, 0x400)], 0x00000000, 0xFFFFFFFF, 0x00000000⟩,
  ⟨0x110020, [(32, 0x400)], 0x00000000, 0xFFFFFFFF, 0x00000000⟩,
  ⟨0x110024, [(32, 0x400)], 0x00000000, 0xFFFFFFFF, 0x00000000⟩,
  ⟨0x110028, [(32, 0x400)], 0x00010000, 0xFFFFFFFF, 0x00000000⟩,
  ⟨0x11002C, [(32, 0x400)], 0x00000000, 0xFFFFFFFF, 0x00000000⟩,
  ⟨0x110030, [(32, 0x400)], 0x0000FFFF, 0xFFFFFFFF, 0x00000000⟩,
  ⟨0x110034, [(32, 0x400)], 0x00000000, 0xFFFFFFFF, 0x00000000⟩,
  ⟨0x110038, [(32, 0x400)], 0x00000000, 0xFFFFFFFF, 0x00000000⟩,
  ⟨0x11003C, [(32, 0x400)], 0x00000000, 0xFFFFFFFF, 0x00000000⟩,
  ⟨0x110040, [(32, 0x400)], 0x00001000, 0xFFFFFFFF, 0x00000000⟩,
  ⟨0x110044, [(32, 0x400)], 0x00000000, 0xFFFFFFFF, 0x00000000⟩,
  ⟨0x110048, [(32, 0x400)], 0x00000000, 0xFFFFFFFF, 0x00000000⟩,
  ⟨0x11004C, [(32, 0x400)], 0x00000000, 0x00000000, 0x00000000⟩,
  ⟨0x110050, [(32, 0x400)], 0x00000000, 0x00000000, 0x00000000⟩,
  ⟨0x110054, [(32, 0x400)], 0x00000000, 0x00000000, 0x00000000⟩,
  ⟨0x110058, [(32, 0x400)], 0x00000000, 0x00000000, 0x00000000⟩,
  ⟨0x11005C, [(32, 0x400)], 0x00008000, 0x00000000, 0x00000000⟩,
  ⟨0x110060, [(32, 0x400)], 0x00000000, 0xFFFFFFFF, 0x00000000⟩,
  ⟨0x110064, [(32, 0x400)], 0x00000000, 0xFFFFFFFF, 0x00000000⟩,
  ⟨0x110068, [(32, 0x400)], 0x00000000, 0xFFFFFFFF, 0x00000000⟩,
  ⟨0x11006C, [(32, 0x400)], 0x00000000, 0x00000000, 0x00000000⟩,
  ⟨0x110070, [(32, 0x400)], 0x00000000, 0x00000000, 0x00000000⟩,
  ⟨0x110074, [(32, 0x400)], 0x00000000, 0x00000000, 0x00000000⟩,
  ⟨0x110078, [(32, 0x400)], 0x00000000, 0xFFFFFFFF, 0x00000000⟩,
  ⟨0x118000, [(64, 0x40)], 0x00000000, 0xFFFFFFFF, 0x00000000⟩,
  ⟨0x118004, [(64, 0x40)], 0x00000000, 0x00000000, 0x00000008⟩,
  ⟨0x118008, [(64, 0x40)], 0x00000000, 0x00000000, 0x00000000⟩,
  ⟨0x11800C, [(64, 0x40)], 0x00000000, 0x00000000, 0x00000000⟩,
  ⟨0x118010, [(64, 0x40)], 0x00000000, 0xFFFFFFFF, 0x00000000⟩]

/-- Registers at 0x12_0000. -/
def descs12a : List RegDesc := [
  ⟨0x120000, [], 0x00000000, 0xFFFFFFFF, 0x00000000⟩,
  ⟨0x120004, [], 0x00000000, 0x00000000, 0x00000001⟩,
  ⟨0x120008, [], 0x00000000, 0x00000000, 0x00000000⟩,
  ⟨0x121000, [(8, 0x100)], 0x00006020, 0xFFFFFFFF, 0x00000000⟩,
  ⟨0x121004, [(8, 0x100)], 0x00000000, 0x00000000, 0x00007F00⟩,
  ⟨0x121008, [(8, 0x100)], 0x00000001, 0xFFFFFFFF, 0x00000000⟩,
  ⟨0x121010, [(8, 0x100)], 0x00000000, 0xFFFFFFFF, 0x00000000⟩,
  ⟨0x121014, [(8, 0x100)], 0x00000000, 0xFFFFFFFF, 0x00000000⟩,
  ⟨0x121018, [(8, 0x100)], 0x00000000, 0xFFFFFFFF, 0x00000000⟩,
  ⟨0x12101C, [(8, 0x100)], 0x00000000, 0xFFFFFFFF, 0x00000000⟩,
  ⟨0x121020, [(8, 0x100)], 0x00000000, 0xFFFFFFFF, 0x00000000⟩,
  ⟨0x121024, [(8, 0x100)], 0x00000000, 0xFFFFFFFF, 0x00000000⟩,
  ⟨0x121028, [(8, 0x100)], 0x00000000, 0xFFFFFFFF, 0x00000000⟩,
  ⟨0x12102C, [(8, 0x100)], 0x00000000, 0xFFFFFFFF, 0x00000000⟩,
  ⟨0x121030, [(8, 0x100)], 0x00000000, 0x00000000, 0x00000000⟩,
  ⟨0x122000, [(36, 0x100)], 0x00000000, 0xFFFEFFFF, 0x00000000⟩,
  ⟨0x122004, [(36, 0x100)], 0x00000000, 0x00000000, 0x00001F00⟩,
  ⟨0x122008, [(36, 0x100)], 0x00400040, 0xFFFFFFFF, 0x00000000⟩,
  ⟨0x12200C, [(36, 0x100)], 0x00640000, 0xFFFFFFFF, 0x00000000⟩,
  ⟨0x122010, [(36, 0x100)], 0x00000000, 0xFFFFFFFF, 0x00000000⟩,
  ⟨0x122014, [(36, 0x100)], 0x00000000, 0xFFFFFFFF, 0x00000000⟩,
  ⟨0x122018, [(36, 0x100), (4, 0x4)], 0x00000000, 0xFFFFFFFF, 0x00000000⟩,
  ⟨0x122028, [(36, 0x100)], 0x00000000, 0x00000000, 0x00000000⟩,
  ⟨0x12202C, [(36, 0x100)], 0x00000000, 0x00000000, 0x00000000⟩,
  ⟨0x122030, [(36, 0x100)], 0x00000000, 0xFFFFFFFF, 0x00000000⟩,
  ⟨0x122034, [(36, 0x100)], 0x00000000, 0xFFFFFFFF, 0x00000000⟩,
  ⟨0x122038, [(36, 0x100)], 0x00000000, 0xFFFFFFFF, 0x00000000⟩,
  ⟨0x122040, [(36, 0x100)], 0x00000000, 0xFFFFFFFF, 0x00000000⟩,
  ⟨0x122044, [(36, 0x100)], 0x00000000, 0xFFFFFFFF, 0x00000000⟩,
  ⟨0x122048, [(36, 0x100)], 0x00000000, 0xFFFFFFFF, 0x00000000⟩,
  ⟨0x12204C, [(36, 0x100)], 0x00000000, 0xFFFFFFFF, 0x00000000⟩,
  ⟨0x122050, [(36, 0x100)], 0x00000000, 0xFFFFFFFF, 0x00000000⟩,
  ⟨0x122054, [(36, 0x100)], 0x01100020, 0xFFFFFFFF, 0x00000000⟩,
  ⟨0x122058, [(36, 0x100)], 0x0190445C, 0xFFFFFFFF, 0x00000000⟩,
  ⟨0x122060, [(36, 0x100), (8, 0x4)], 0x00000000, 0x00000000, 0x00000000⟩,
  ⟨0x1220C0, [(36, 0x100)], 0x00000000, 0x00000000, 0x00000000⟩,
  ⟨0x1220C4, [(36, 0x100)], 0x00000000, 0x00000000, 0x00000000⟩,
  ⟨0x1220C8, [(36, 0x100)], 0x00000000, 0x00000000, 0x00000000⟩,
  ⟨0x1220CC, [(36, 0x100)], 0x00000000, 0x00000000, 0x00000000⟩,
  ⟨0x1220D0, [(36, 0x100)], 0x00000000, 0x00000000, 0x00000000⟩]

/-- Registers at 0x12_0000. -/
def descs12b : List RegDesc := [
  ⟨0x1220D4, [(36, 0x100)], 0x00000000, 0x00000000, 0x00000000⟩,
  ⟨0x1220D8, [(36, 0x100)], 0x00000000, 0x00000000, 0x00000000⟩,
  ⟨0x124800, [(4, 0x40)], 0x00000000, 0xFFFFFFFF, 0x00000000⟩,
  ⟨0x124804, [(4, 0x40)], 0x00000000, 0xFFFFFFFF, 0x00000000⟩,
  ⟨0x124808, [(4, 0x40)], 0x00000100, 0xFFFFFFFF, 0x00000000⟩,
  ⟨0x12480C, [(4, 0x40)], 0x00000000, 0xFFFFFFFF, 0x00000000⟩,
  ⟨0x124810, [(4, 0x40)], 0x00000000, 0xFFFFF000, 0x00000000⟩,
  ⟨0x124814, [(4, 0x40)], 0x00000000, 0xFFFFFFFF, 0x00000000⟩,
  ⟨0x124818, [(4, 0x40)], 0x00000002, 0xFFFFFFFF, 0x00000000⟩,
  ⟨0x12481C, [(4, 0x40)], 0x00000000, 0xFFFFFFFF, 0x00000000⟩,
  ⟨0x124820, [(4, 0x40)], 0x00000000, 0x00000000, 0x00000000⟩,
  ⟨0x124824, [(4, 0x40)], 0x00000000, 0xFFFFFFFF, 0x00000000⟩,
  ⟨0x125000, [(4, 0x100), (64, 0x4)], 0x00000000, 0x00000000, 0x00000000⟩,
  ⟨0x126000, [(2048, 0x4)], 0x00000000, 0xFFFFFFFF, 0x00000000⟩,
  ⟨0x128000, [(4, 0x2000), (2048, 0x4)], 0x00000000, 0xFFFFFFFF, 0x00000000⟩]

/-- Registers at 0x13_0000. -/
def descs13 : List RegDesc := [
  ⟨0x130000, [(8, 0x100)], 0x00000000, 0xFFFFFFFF, 0x00000000⟩,
  ⟨0x130004, [(8, 0x100)], 0x00000000, 0x00000000, 0x00007E00⟩,
  ⟨0x130008, [(8, 0x100)], 0x00000000, 0x00000000, 0x00000000⟩,
  ⟨0x13000C, [(8, 0x100)], 0x00000000, 0xFFFFFFFF, 0x00000000⟩,
  ⟨0x130010, [(8, 0x100)], 0x00000000, 0xFFFFFFFF, 0x00000000⟩,
  ⟨0x130014, [(8, 0x100)], 0x00000000, 0x00000000, 0x00000000⟩,
  ⟨0x130018, [(8, 0x100)], 0x0000C800, 0xFFFFFFFF, 0x00000000⟩,
  ⟨0x13001C, [(8, 0x100)], 0x0007D000, 0xFFFFFFFF, 0x00000000⟩,
  ⟨0x130020, [(8, 0x100)], 0x0007D000, 0xFFFFFFFF, 0x00000000⟩,
  ⟨0x130024, [(8, 0x100)], 0x00000000, 0xFFFFFFFF, 0x00000000⟩,
  ⟨0x130028, [(8, 0x100)], 0x00000000, 0x00000000, 0x00000000⟩,
  ⟨0x13002C, [(8, 0x100)], 0x64BF3F7F, 0xFFFFFFFF, 0x00000000⟩,
  ⟨0x130030, [(8, 0x100)], 0x40000001, 0xFFFFFFFF, 0x00000000⟩,
  ⟨0x130034, [(8, 0x100)], 0x00006400, 0xFFFFFFFF, 0x00000000⟩,
  ⟨0x130038, [(8, 0x100)], 0x00000A00, 0xFFFFFFFF, 0x00000000⟩,
  ⟨0x13003C, [(8, 0x100)], 0x412C0258, 0xFFFFFFFF, 0x00000000⟩,
  ⟨0x130040, [(8, 0x100)], 0x00040000, 0xFFFFFFFF, 0x00000000⟩,
  ⟨0x130044, [(8, 0x100)], 0x00000000, 0xFFFFFFFF, 0x00000000⟩,
  ⟨0x130048, [(8, 0x100)], 0x00000000, 0x00000000, 0x00000000⟩,
  ⟨0x13004C, [(8, 0x100)], 0x0000076C, 0xFFFFFFFF, 0x00000000⟩,
  ⟨0x130050, [(8, 0x100)], 0x08000800, 0xFFFFFFFF, 0x00000000⟩,
  ⟨0x130054, [(8, 0x100)], 0x00000000, 0xFFFFFFFF, 0x00000000⟩,
  ⟨0x130058, [(8, 0x100)], 0x00000000, 0xFFFFFFFF, 0x00000000⟩,
  ⟨0x13005C, [(8, 0x100)], 0x0C803200, 0xFFFFFFFF, 0x00000000⟩,
  ⟨0x130060, [(8, 0x100)], 0x00000000, 0xFFFFFFFF, 0x00000000⟩,
  ⟨0x130064, [(8, 0x100)], 0x00000000, 0xFFFFFFFF, 0x00000000⟩,
  ⟨0x130068, [(8, 0x100)], 0x00000000, 0x00000000, 0x00000000⟩,
  ⟨0x13006C, [(8, 0x100)], 0x00000000, 0xFFFFFFFF, 0x00000000⟩,
  ⟨0x130070, [(8, 0x100)], 0x00000000, 0x00000000, 0x00000000⟩,
  ⟨0x131000, [(8, 0x400), (256, 0x4)], 0x00000000, 0xFFFFFFFF, 0x00000000⟩]

/-- Registers at 0x14_0000. -/
def descs14 : List RegDesc := [
  ⟨0x140000, [(8, 0x40)], 0x00000100, 0xFFFFFFFF, 0x00000000⟩,
  ⟨0x140004, [(8, 0x40)], 0x00000000, 0x00000000, 0x00007F00⟩,
  ⟨0x140008, [(8, 0x40)], 0x00000000, 0xFFFFFFFF, 0x00000000⟩,
  ⟨0x14000C, [(8, 0x40)], 0x00000000, 0xFFFFFFFF, 0x00000000⟩,
  ⟨0x140010, [(8, 0x40)], 0x00000002, 0xFFFFFFFF, 0x00000000⟩,
  ⟨0x140014, [(8, 0x40)], 0x00000000, 0x00000000, 0x00000000⟩,
  ⟨0x140018, [(8, 0x40)], 0x00000000, 0x00000000, 0x00000000⟩,
  ⟨0x14001C, [(8, 0x40)], 0x000003E8, 0xFFFFFFFF, 0x00000000⟩,
  ⟨0x140020, [(8, 0x40)], 0x00000000, 0xFFFFFFFF, 0x00000000⟩,
  ⟨0x140024, [(8, 0x40)], 0x00000000, 0xFFFFFFFF, 0x00000000⟩,
  ⟨0x140028, [(8, 0x40)], 0x00000000, 0xFFFFFFFF, 0x00000000⟩,
  ⟨0x14002C, [(8, 0x40)], 0x00000000, 0xFFFFFFFF, 0x00000000⟩,
  ⟨0x140400, [(4, 0x20)], 0x00010000, 0xFFFFFFFF, 0x00000000⟩,
  ⟨0x140404, [(4, 0x20)], 0x00000000, 0x00000000, 0x00000100⟩,
  ⟨0x140408, [(4, 0x20)], 0x00000001, 0xFFFFFFFF, 0x00000000⟩,
  ⟨0x14040C, [(4, 0x20)], 0x00000001, 0xFFFFFFFF, 0x00000000⟩,
  ⟨0x140410, [(4, 0x20)], 0x00000000, 0xFFFFFFFF, 0x00000000⟩,
  ⟨0x140414, [(4, 0x20)], 0x00000000, 0x00000000, 0x00000000⟩,
  ⟨0x140600, [], 0x00000000, 0xFFFFFFFF, 0x00000000⟩,
  ⟨0x140604, [], 0x0000000A, 0xFFFFFFFF, 0x00000000⟩,
  ⟨0x140608, [], 0x00000000, 0x00000000, 0x00000000⟩]

/-- Registers at 0x15_0000. -/
def descs15 : List RegDesc := [
  ⟨0x150000, [], 0x00000000, 0x00000000, 0x00000000⟩,
  ⟨0x150004, [], 0x00000000, 0x00000000, 0x00000000⟩,
  ⟨0x150008, [], 0x00000000, 0x00000000, 0x00000000⟩,
  ⟨0x15000C, [], 0x00000000, 0x00000000, 0x00000000⟩,
  ⟨0x150100, [(12, 0x20)], 0x00000000, 0xFFFFFFFF, 0x00000000⟩,
  ⟨0x150104, [(12, 0x20)], 0x00000000, 0x00000000, 0x00000300⟩,
  ⟨0x150108, [(12, 0x20)], 0x00000000, 0xFFFFFFFF, 0x00000000⟩,
  ⟨0x15010C, [(12, 0x20)], 0x00000000, 0xFFFFFFFF, 0x00000000⟩,
  ⟨0x150110, [(12, 0x20)], 0x00000000, 0xFFFFFFFF, 0x00000000⟩,
  ⟨0x151000, [(2, 0x1000)], 0x00000100, 0xFFFFFFF9, 0x00000000⟩,
  ⟨0x151004, [(2, 0x1000)], 0x00000000, 0x00000000, 0x00000100⟩,
  ⟨0x151008, [(2, 0x1000)], 0x00000050, 0xFFFFFFFF, 0x00000000⟩,
  ⟨0x15100C, [(2, 0x1000)], 0x00000000, 0xFFFFFFFF, 0x00000000⟩,
  ⟨0x151100, [(2, 0x1000), (64, 0x8)], 0x00000000, 0xFFFFFFFF, 0x00000000⟩,
  ⟨0x151104, [(2, 0x1000), (64, 0x8)], 0x00000000, 0xFFFFFFFF, 0x00000000⟩]

/-- Registers at 0x16_0000. -/
def descs16 : List RegDesc := [
  ⟨0x160000, [], 0x00000000, 0x00000000, 0x00000000⟩,
  ⟨0x160004, [], 0x00000000, 0x00000000, 0x003F0100⟩,
  ⟨0x160008, [], 0x0000000C, 0xFFFFFFFF, 0x00000000⟩,
  ⟨0x16000C, [], 0x00000000, 0xFFFFFFFF, 0x00000000⟩,
  ⟨0x160010, [], 0x00000000, 0xFFFFFFFF, 0x00000000⟩,
  ⟨0x160014, [], 0x00000000, 0xFFFFFFFF, 0x00000000⟩,
  ⟨0x160018, [], 0x00000400, 0xFFFFFFFF, 0x00000000⟩,
  ⟨0x16001C, [], 0x00000000, 0xFFFFF000, 0x00000000⟩,
  ⟨0x160020, [], 0x00000000, 0xFFFFFFFF, 0x00000000⟩,
  ⟨0x160024, [], 0x00000000, 0xFFFFFFFF, 0x00000000⟩,
  ⟨0x160028, [], 0x00000000, 0xFFFFFFFF, 0x00000000⟩,
  ⟨0x160030, [(4, 0x8)], 0x00000000, 0xFFFFFFFF, 0x00000000⟩,
  ⟨0x160034, [(4, 0x8)], 0x00000000, 0xFFFFFFFF, 0x00000000⟩,
  ⟨0x160100, [(64, 0x4)], 0x00000000, 0x00000000, 0x00000000⟩,
  ⟨0x160200, [(32, 0x8)], 0x00000000, 0x00000000, 0x00000000⟩,
  ⟨0x160204, [(32, 0x8)], 0x00000000, 0x00000000, 0x00000000⟩,
  ⟨0x160400, [(32, 0x4)], 0x00000000, 0x00000000, 0x00000000⟩]

/-- Registers at 0x17_0000. -/
def descs17 : List RegDesc := [
  ⟨0x170000, [], 0x00000000, 0x00000000, 0x00000000⟩,
  ⟨0x170004, [], 0x00000000, 0x00000000, 0x00000000⟩,
  ⟨0x170008, [], 0x00000000, 0xFFFFFFFF, 0x00000000⟩,
  ⟨0x170010, [(8, 0x10)], 0x00000000, 0xFFFFFFFF, 0x00000000⟩,
  ⟨0x170014, [(8, 0x10)], 0x00000000, 0xFFFFFFFF, 0x00000000⟩,
  ⟨0x170018, [(8, 0x10)], 0x00000000, 0xFFFFFFFF, 0x00000000⟩]

/-- Registers at 0x18_0000. -/
def descs18 : List RegDesc := [
  ⟨0x180000, [], 0x00001000, 0x00000000, 0x00000F00⟩,
  ⟨0x180004, [], 0x00000000, 0x00000000, 0x00000000⟩,
  ⟨0x180008, [(4, 0x4)], 0x00000000, 0xFFFFFFFF, 0x00000000⟩]

/-- Registers at 0x20_0000. -/
def descs20 : List RegDesc := [
  ⟨0x200000, [(32768, 0x4)], 0x00000000, 0xFFFFFFFF, 0x00000000⟩]

/-- The descriptions of the registers whose offsets have bits [23:16] equal to `k`. -/
def descsAt (k : Nat) : List RegDesc :=
  match k with
  | 0x00 => descs00
  | 0x01 => descs01
  | 0x02 => descs02
  | 0x03 => descs03
  | 0x04 => descs04
  | 0x05 => descs05
  | 0x06 => descs06
  | 0x07 => descs07
  | 0x08 => descs08a ++ descs08b
  | 0x09 => descs09
  | 0x0A => descs0A
  | 0x0B => descs0Ba ++ descs0Bb
  | 0x0C | 0x0D | 0x0E | 0x0F => descs0C
  | 0x10 => descs10a ++ descs10b
  | 0x11 => descs11
  | 0x12 => descs12a ++ descs12b
  | 0x13 => descs13
  | 0x14 => descs14
  | 0x15 => descs15
  | 0x16 => descs16
  | 0x17 => descs17
  | 0x18 => descs18
  | 0x20 | 0x21 => descs20
  | _ => []

/-- Does the distance `o` from a register's base name one of its instances? -/
def inDims : List (Nat × Nat) → Nat → Bool
  | [], o => o == 0
  | (count, stride) :: rest, o => decide (o / stride < count) && inDims rest (o % stride)

/-- The description of the register at offset `off`, if a register lies there (R10, R17). -/
def regDesc (off : Nat) : Option RegDesc :=
  (descsAt (off / 0x10000)).find? fun d => decide (d.base ≤ off) && inDims d.dims (off - d.base)

/-- Reset limits of monitor VMm: 5 % below and above its rail's nominal voltage (R554), rounded outwards to whole mV.
DEDUCED: the spec gives the percentage, not the rounding (assumption 5). -/
def vmLimReset (m : Nat) : Nat :=
  let lim (nominal : Nat) := (nominal * 95 / 100) + ((nominal * 105 + 99) / 100) * 0x10000
  match m with
  | 0 | 1 | 2 | 3 => lim 750
  | 4 | 5 => lim 1100
  | 6 => lim 900
  | 7 => lim 1200
  | 8 | 9 | 10 => lim 1800
  | 11 => 5500 * 0x10000
  | 12 => lim 750
  | 13 => lim 900
  | 14 => lim 1200
  | 15 => lim 2500
  | _ => 0

/-- The value the register at `off` holds after a device reset; an offset that no register occupies reads 0 (R17). -/
def regReset (off : Nat) : Word :=
  if off = GLB_IDENT then (if Config.gradeE then 0x324810B1#32 else 0x324800B1#32)
  else if 0x131000 ≤ off ∧ off < 0x133000 ∧ off % 4 = 0 then BitVec.ofNat 32 (Config.stepTable.getD (off % 0x400 / 4) 0)
  else if 0x030084 ≤ off ∧ off < 0x030100 ∧ off % 8 = 4 then BitVec.ofNat 32 (vmLimReset ((off - 0x030084) / 8))
  else match regDesc off with
    | some d => BitVec.ofNat 32 d.reset
    | none => 0

end Sys2Proof.Machine
end

