-- ==== Sys2Proof/Machine/State.lean ====
section
/-! DEFINITION. The state of the KG3248 as plain data, the reasons a step could stop, and the state that reset leaves. Every
software-visible register value lives in `regs`; the records below hold what the spec gives the machine beyond them. -/

namespace Sys2Proof.Machine

/-- An event on its way to the recorder (R543, R544). -/
structure Ev where
  id     : Nat
  inst   : Nat
  arg    : Word
  volley : Nat
  tns    : Nat
  deriving DecidableEq, Repr, Inhabited

/-- A record of the event recorder (R543). -/
structure EvRec where
  seq    : Nat
  id     : Nat
  inst   : Nat
  rep    : Nat
  volley : Nat
  lastv  : Nat
  arg    : Word
  tns    : Nat
  loss   : Bool
  snaps  : List Word
  deriving DecidableEq, Repr, Inhabited

/-- A point at the output stage: its corrected codes, its power, its gate flag, whether it must leave dark (clipped, R71, or
failed by the Court check, R222), and its bed position. -/
structure OutPt where
  x    : Int
  y    : Int
  z    : Int
  pw   : Nat
  g    : Bool
  dark : Bool
  bx   : Int
  byy  : Int
  bz   : Int
  slot : Option (Nat × Nat)
  deriving DecidableEq, Repr, Inhabited

/-- What a beam's port sends during one Volley: nothing of its own (R88), a dead ball (R40), a pause (R336), or points. -/
inductive Frame where
  | hold
  | dead
  | pause
  | pts (l : List OutPt)
  deriving DecidableEq, Repr, Inhabited

/-- The codes of the three axes of a head. -/
structure Codes where
  x : Int
  y : Int
  z : Int
  deriving DecidableEq, Repr, Inhabited

/-- A beam channel beyond its registers (R3). -/
structure Beam where
  hd       : Bool          -- MODE as sampled when the channel left OFF (R74)
  codes    : Codes         -- the codes the port sends now
  gate     : Bool          -- the gate that R91 decides
  dac      : Nat           -- the DAC code
  cur      : Frame         -- this Volley's frame
  next     : Frame         -- the next Volley's frame
  setpN    : List (Bool × Nat)   -- set points that take effect at the next edge (R186)
  camwN    : List (Nat × Nat)    -- window origins committed at the next edge (R187)
  sent     : Bool          -- the engine has sent a point since it started (R40)
  shone    : Bool          -- the gate was high in an update of this Volley (R230)
  lastX    : Int           -- bed position of the last point sent
  lastY    : Int
  lastZ    : Int
  ssPend   : Nat           -- cause of a safe stop that has not begun (R104), 0 for none
  almRaw   : Bool          -- filtered level of LI_ALMn
  rxDone   : Bool          -- the receive phase search has chosen its phase (R82)
  heard    : Bool          -- a valid word or frame has come since STARTING (R85, R87)
  actUpd   : BitVec 3      -- ACT_X, ACT_Y, ACT_Z updated since STARTING (R83)
  actVolX  : Nat           -- Volley in which each ACT value arrived (R83)
  actVolY  : Nat
  actVolZ  : Nat
  lost     : Nat           -- slots (XY-HD) or Volleys (XY2-100) without a valid return (R85)
  lostTold : Bool          -- this loss of the return has acted (R85, R86)
  startVol : Nat           -- edges since the entry to STARTING (R87)
  brRun    : Nat           -- qualifying back-reflection samples in a row (R103)
  brTrip   : Bool          -- the trip has acted in this run (R103)
  hist     : List (Nat × Codes)   -- slot number and codes sent, latest first (R258)
  feCur    : Option (Nat × Nat)   -- largest following error and its axis, this Volley (R258)
  fePrev   : Option (Nat × Nat)   -- the same of the Volley before
  wx       : BitVec 40     -- the words now on SPn_X, SPn_Y, SPn_Z (R77, R80)
  wy       : BitVec 40
  wz       : BitVec 40
  deriving DecidableEq, Repr, Inhabited

/-- A photodiode channel beyond its registers (R98 to R102). -/
structure Pd where
  sum    : Nat             -- sum of this Volley's samples
  cnt    : Nat             -- samples taken in this Volley
  gated  : Nat
  sat    : Bool
  whole  : Bool            -- READY since the Volley's edge
  rcd    : Option Word     -- the record that the next latch instant delivers
  deriving DecidableEq, Repr, Inhabited

/-- A vector: whole micrometres, or fixed point within a motion (R64, R139). -/
structure V3 where
  x : Int
  y : Int
  z : Int
  deriving DecidableEq, Repr, Inhabited

/-- Limits of a jerk-limited profile: um/s, um/s^2, um/s^3 (R137). -/
structure Lim where
  v : Nat
  a : Nat
  j : Nat
  deriving DecidableEq, Repr, Inhabited

/-- A skywriting run: its length in fixed point, and its limits (R148, R149). -/
structure Run where
  len : Nat
  lim : Lim
  deriving DecidableEq, Repr, Inhabited

/-- The motion of the point-producing instruction that issued last (R124): a position held, a jump, a straight line at a
speed, an arc about a centre, a run-in and a run-out. -/
inductive Seg where
  | none
  | hold (p dir : V3)
  | jump (p t : V3) (l : Lim)
  | line (p d : V3) (sp : Nat)
  | arc (c r : V3) (theta : Int)
  | skyIn (p st dir : V3) (run : Run) (v : Nat) (l : Lim)
  | skyOut (p dir : V3) (run : Run) (v : Nat)
  deriving DecidableEq, Repr, Inhabited

/-- A point in a point buffer: position, power, gate flag, and the set points and window origins that travel with it
(R127, R186, R187). -/
structure Pt where
  x    : Int
  y    : Int
  z    : Int
  pw   : Nat
  g    : Bool
  setp : List (Bool × Nat)
  camw : List (Nat × Nat)
  n    : Nat                    -- how many points the engine placed before it
  slot : Option (Nat × Nat)     -- pool and slot it is attributed to (R230)
  pc   : Nat                    -- address of the instruction that owns it
  deriving DecidableEq, Repr, Inhabited

/-- What a Scan Engine waits for after an instruction issued (R160, R177, R180, R183, R184). -/
inductive Wait where
  | none
  | claimt (region : Nat) (left : Option Nat)
  | pullw (reg : Nat)
  | syncB (bar : Nat) (left : Option Nat)
  | syncF (bar : Nat) (left : Option Nat)
  deriving DecidableEq, Repr, Inhabited

/-- Wobble settings: shape, amplitude, frequency, and the path time of their start (R151). -/
structure Wob where
  shape : Nat
  a     : Nat
  f     : Nat
  tw    : Nat
  deriving DecidableEq, Repr, Inhabited

/-- A power ramp: start power, target, start and duration in path time (R154). -/
structure Ramp where
  p0 : Nat
  p  : Nat
  tr : Nat
  dur : Nat
  deriving DecidableEq, Repr, Inhabited

/-- An entry of a claim set (R176, R215). -/
structure Claim where
  idx     : Nat            -- entry number 0 to 7
  region  : Nat
  urg     : Nat
  seq     : Nat            -- order of entry
  waited  : Nat            -- denials since it entered (R216)
  granted : Bool
  vis     : Bool           -- the grant is visible to the engine (R175)
  refused : Bool           -- refused once already (R219)
  relAt   : Option Nat     -- released: after that many points were emitted (R178)
  deriving DecidableEq, Repr, Inhabited

/-- An outstanding take (R179, R180). -/
structure Take where
  pool    : Nat
  addr    : Nat
  result  : Option Nat     -- what PULL.W will answer, once decided
  bytes   : List Byte      -- the slot's bytes, when granted
  vis     : Bool
  written : Bool
  deriving DecidableEq, Repr, Inhabited

/-- A slot that a beam holds (R230). -/
structure Held where
  pool    : Nat
  slot    : Nat
  region  : Nat
  vid     : Nat
  onpts   : Nat
  lastx   : Int
  lasty   : Int
  passAt  : Option Nat     -- passed: after that many points were emitted (R181)
  deriving DecidableEq, Repr, Inhabited

/-- How an engine ended, until the Court has acted on it (R232). -/
inductive Ended where
  | no
  | halt (emitting : Bool)     -- the last buffer is yet to be emitted, or is being emitted
  | safe
  deriving DecidableEq, Repr, Inhabited

/-- A Scan Engine beyond its registers (R114 to R193). -/
structure Eng where
  hd      : Bool               -- mode read at the start (R125)
  start   : Nat                -- Volley in which the engine started
  lost    : Nat                -- Volleys by which dead balls and pauses delayed its points (R41)
  k       : Nat                -- next point (R125)
  ts      : Nat                -- start and end of the current instruction in path time (R124)
  te      : Nat
  openEnd : Bool               -- the instruction's end is not known yet (R183)
  fillB   : Option Bool        -- what B becomes once a fill that is to end has ended (R183, R185)
  seg     : Seg
  segG    : Bool               -- gate flag of its points
  segPc   : Nat
  prevP   : V3                 -- program position before the instruction issued (R131)
  wob     : Option Wob
  ramp    : Option Ramp
  dir     : V3                 -- direction at the end of the last MARK or ARC that had one (R152)
  ma      : Option (V3 × Nat)  -- direction and speed for SKY.OUT (R149)
  buf     : List Pt
  last    : Option V3          -- the last point placed (R190)
  placed  : Nat
  emitted : Nat
  pendS   : List (Bool × Nat)  -- SETP values that travel with the next point (R186)
  pendC   : List (Nat × Nat)   -- CAMW origins that travel with the next point (R187)
  calls   : List Nat           -- call stack, top first (R166)
  loops   : List (Nat × Nat × Nat)   -- loop stack: count, body start, ENDL (R167)
  claims  : List Claim
  seq     : Nat
  take    : Option Take
  held    : List Held          -- oldest first
  wait    : Wait
  joined  : Bool               -- an edge has passed since the arrival at the barrier (R175)
  stopped : Bool               -- issue has stopped (HALT or trap)
  halting : Bool               -- the next merge takes the last buffer (R190)
  ended   : Ended
  offAt   : Bool               -- the function enters OFF at the next edge (R620)
  used    : Nat                -- cycles used in this window (R195)
  full    : Option Nat         -- used cycles when the buffer became full
  lit     : Bool               -- a gate-high point was emitted since the last round (R223)
  first   : Bool               -- no edge has passed since the engine started (R48)
  paused  : Bool               -- paused by a Batch hold (R336)
  holdReq : Nat                -- a hold not yet acted on: 0 none, 1 NOW, 2 DARK (R336)
  holdN   : Nat                -- its Volley, and the bound MAX
  holdMax : Nat
  ready   : Option V3          -- a point computed while the buffer is full (R129)
  deriving DecidableEq, Repr, Inhabited

/-- A midcourt pool beyond its registers (R225 to R231). -/
structure Pool where
  base    : Nat                -- sampled on entry to STARTING
  size    : Nat
  edges   : Nat                -- Volley edges since EN
  staged  : List (Nat × List Byte)   -- staged slots, lowest index first
  exh     : Bool               -- an EXHAUSTED decision has been recorded
  deriving DecidableEq, Repr, Inhabited

/-- A barrier (R182): the participants of those waiting, those that have arrived, and those whose wait the last round's
release ends. -/
structure Barrier where
  mask    : Nat
  arrived : Nat
  freed   : Nat
  deriving DecidableEq, Repr, Inhabited

/-- A command on the SPI NOR port (R615): a read, write enable, a page program, the erase of a sector, and the status poll. -/
inductive FlashCmd where
  | read (addr n : Nat)
  | writeEnable
  | program (addr : Nat) (data : List Byte)
  | erase (addr : Nat)
  | status
  deriving DecidableEq, Repr, Inhabited

/-- What the device sends out: completions to DRAM requesters (R397); the activates of a neighbour refresh, or its refresh management
command (R417); sensor writes on a port's I2C bus (R308); the bits of
a test pattern that a lane sends, or those it returns in far-end loopback (R464 to R466); on Colud Link, training and IDLE blocks (R469), ALIGN blocks (R467), CAP packets (R471), returned credits (R476), packets (R472), TIME requests
and responses (R507) and Kickoff packets (R481, R482); on Ethernet, answers to ARP, echo and neighbour requests (R488),
responses by UDP, with both ends and the VLAN tag (R489), PTP frames with padding and FCS (R512), and frames that far-end loopback
returns (R466); responses to command frames that no packet brought, by source (R325); a
register read that times out, and so gives all ones (R564); lamp-wire
frames as their shares (R527), or the bits of one that is cut (R531); commands to the SPI NOR (R615); what the SPI target port answers, or holds high (R616); what leaves the test access port (R618). -/
inductive Out where
  | dram (requester addr : Nat) (st : DStatus) (data : List Byte)
  | refreshRows (channel rank bank : Nat) (rows : List Nat)
  | refreshManage (channel rank bank : Nat)
  | cci (port : Nat) (bytes : List Byte)
  | sentBits (lane : Nat) (bits : List Bool)
  | lnkTrain (port : Nat) (ready : Bool)
  | lnkIdle (port : Nat)
  | lnkCap (port : Nat) (c : CapInfo)
  | lnkCredit (port t n : Nat)
  | lnkAlign (lane num : Nat)
  | lnkPkt (port : Nat) (blocks : List LnkBlock)
  | lnkTimeReq (port : Nat) (t1 : Int)
  | lnkTimeRsp (port : Nat) (t2 t3 : Int)
  | kickCount (port budget : Nat)
  | kickReply (port n : Nat)
  | kickAssign (port base size : Nat)
  | arpReply (port : Nat) (mac : BitVec 48) (ip : BitVec 32)
  | echoReply (port : Nat) (v6 : Bool) (mac : BitVec 48) (ip : BitVec 128) (body : List Byte)
  | neighbourAdvert (port : Nat) (mac : BitVec 48) (ip : BitVec 128)
  | udp (port : Nat) (own peer : EthPeer) (vlan : Option Nat) (bytes : List Byte)
  | ptp (port : Nat) (bytes : List Byte)
  | farFrame (port : Nat) (bytes : List Byte)
  | response (source : Nat) (bytes : List Byte)
  | timedOut (off : Nat)
  | lamp (output : Nat) (shares : List Nat)
  | lampCut (output : Nat) (shares : List Nat) (bits : Nat)
  | flash (c : FlashCmd)
  | spi (bytes : List Byte)
  | spiHigh
  | tdo (bits : List Bool)
  deriving DecidableEq, Repr, Inhabited

/-- An entry of a DRAM queue (R396 to R398): a read, a partial write (a read, a merge and a write), or a write of a whole block. -/
inductive JobKind where
  | read
  | merge
  | full
  deriving DecidableEq, Repr, Inhabited

/-- What waits for its column command (R396): requester, class, device-physical address, rank and rank address, the bytes it names,
and what a write brings. -/
structure RdJob where
  req    : Nat
  classK : Bool
  addr   : Nat
  rank   : Nat
  ra     : Nat
  len    : Nat
  data   : List Byte
  kind   : JobKind
  deriving DecidableEq, Repr, Inhabited

/-- A DRAM channel beyond its registers. -/
structure Mch where
  jobs   : List RdJob             -- oldest first (R396)
  acg    : List (Nat × List (Nat × Nat))   -- row and count tables by rank, subchannel, bank group and bank (R416)
  migP   : Nat                    -- the rank that migrates (R406)
  hold   : Bool                   -- a rank migrates, or has done so since the last Volley edge (R409)
  kept   : Word                   -- the eighths kept in self-refresh (R412)
  slots  : Nat                    -- column commands of the present group of 16, and those of class V (R396)
  slotsV : Nat
  rtRank : Nat                    -- the rank that the next retraining visits (R414)
  fillAt : Nat                    -- blocks the initialisation fill has written (R413)
  fillRk : Nat                    -- its rank and its mask, as at GO
  fillMk : Nat
  deriving DecidableEq, Repr, Inhabited

/-- A complete line in a place of a port (R283): its context, its frame's Frame Start number and the run of the context that counts
it (R281), its row, its 12-bit pixels. -/
structure CamLine where
  ctx   : Nat
  frame : Nat
  run   : Nat
  y     : Nat
  pix   : List Nat
  deriving DecidableEq, Repr, Inhabited

/-- A camera port beyond its registers (R272, R277, R283, R308). -/
structure CamPort where
  cfg   : Word               -- LANES, PNSWAP and THS_SETTLE as sampled when the port left OFF
  lines : List CamLine       -- line places in use, oldest first
  ulps  : Bool               -- in ultra-low-power state
  skew  : Nat                -- calibrations made since the port left OFF
  cci   : List (Nat × Nat)   -- context and generation whose sensor writes wait; the first one's are under way
  deriving DecidableEq, Repr, Inhabited

/-- A settings generation that is not yet in force (R306 to R311): number, the seven setting words, the item being written,
whether its commit instant has passed, whether its sensor write failed, and the frame from which it is in force. -/
structure CamGen where
  num   : Nat
  sets  : List Word
  item  : Nat
  done  : Bool
  cci   : Bool
  force : Option Nat
  deriving DecidableEq, Repr, Inhabited

/-- A frame that is open, or closed and not yet complete. -/
structure CamFrame where
  no     : Nat               -- Frame Starts before it since EN
  run    : Nat               -- the run of the context to which it belongs (R281)
  gen    : Nat
  sets   : List Word         -- the settings in force
  flags  : Nat               -- R297
  seen   : Nat               -- line packets received
  rows   : List (Nat × List Nat)   -- processed lines: row and values after black level, latest first
  wait   : Nat               -- its lines in places
  defs   : Nat               -- defect entries passed
  mute   : Bool              -- discarded without a count (R281)
  norec  : Bool              -- discarded without a record (R281, R287)
  open_  : Bool
  vols   : Nat               -- edges since its Frame Start (R312)
  slot   : Option Nat        -- archive slot reserved (R305)
  sat    : Nat
  trig   : Nat               -- Volley of the last trigger (R303)
  deriving DecidableEq, Repr, Inhabited

/-- A camera context beyond its registers. -/
structure CamCtx where
  frames : List CamFrame     -- oldest first; only the last can be open
  gens   : List CamGen       -- oldest first
  forced : Bool              -- a generation has been in force since EN (R310)
  curCci : Bool              -- the generation in force carries the CCI mark
  count  : Nat               -- Frame Starts since EN (R313)
  run    : Nat               -- times that the context has started (R281)
  due    : Nat               -- software commits to come: bit 0 at the next edge, bit 1 at the one after (R307)
  camw   : Option (Nat × Nat)   -- a window origin to commit at this edge (R187)
  orgW   : Bool              -- software has written ORG since the last commit (R307)
  go     : Bool              -- generation 1's commit instant has passed (R281)
  rcd    : Option (List Word)   -- the latest record
  snap   : Option (List Word)   -- the snapshot of this Volley (R300)
  trig   : Nat               -- Volley of the last trigger since EN (R303)
  arc    : List (Nat × List Byte)   -- statistics records to be archived, with their slots (R305)
  armLt  : Bool              -- TRIG_AT had passed when ARM was written (R301)
  pin    : Bool              -- CAM_TRIGm (R301)
  strbN  : Nat               -- triggers whose strobe request has yet to rise (R302)
  strb   : Bool              -- the strobe request (R302)
  deriving DecidableEq, Repr, Inhabited

/-- A beam's control loop beyond its registers (R239 to R267). -/
structure CleB where
  lat    : List (Nat × Word)   -- the beam's registers as latched (R241)
  pd0    : Word                -- photodiode records as latched
  pd1    : Word
  fe     : Option (Nat × Nat)  -- following-error figure and axis as latched
  outer  : Option (List Word)  -- camera record as latched
  act    : Codes               -- the latest ACT values delivered, and the Volleys in which they arrived (R83)
  actX   : Nat
  actY   : Nat
  actZ   : Nat
  rst    : Nat                 -- integrator resets requested and not yet latched (R243)
  rstL   : Nat                 -- resets that a latch has taken and no commit has carried out
  ist    : Bool                -- the engine started and no latch has followed (R243)
  istL   : Bool                -- a latch with ISTART = 1 has followed, and no commit
  yPrev  : Nat
  pv     : Bool
  eL     : Int
  eoL    : Int
  trim   : Int
  used   : Nat                 -- bank of the last commit (R256)
  rcd    : Option (List Word)  -- the record that the last valid outer run used (R245)
  mOff   : Int                 -- the committed correction minus 0x8000
  defer  : Option Nat          -- a bank switch by a write that waits for a bank load (R257)
  armLt  : Bool                -- an armed switch was due before, and happens at the next edge (R255, R257)
  hit    : Bool                -- BANK was written in the cycle of this edge (R255)
  bkTo   : Nat                 -- the bank that a bank load fills (R257)
  bkAt   : Nat                 -- the address it reads, as at GO
  trip   : Bool                -- the following-error trip has acted (R259)
  lo     : List (Nat × Word)   -- LO halves held (R254)
  nodes  : List Int            -- trace nodes of the last Volley (R262)
  sfIn   : Bool                -- the beam has entered safe stop since the trace was last tested (R266)
  bankT  : Nat                 -- the active bank when it was last tested
  trig   : Bool                -- a trigger waits for its sample (R266)
  taken  : Nat                 -- samples taken before the trigger
  post   : Nat                 -- samples taken after the trigger sample
  pre    : Nat                 -- PRE at the trigger
  deriving DecidableEq, Repr, Inhabited

/-- A Control-Law Engine beyond its registers: latched and not yet committed (R241), and whether this run of late Volleys has
recorded its limit event (R50). -/
structure Cle where
  latched : Bool
  limEv   : Bool
  deriving DecidableEq, Repr, Inhabited

/-- What an axis does once it has decelerated to rest (R355, R356, R370). -/
inductive AxAfter where
  | idle
  | stopped
  | go
  | run (pos : Bool)
  | back
  | home
  deriving DecidableEq, Repr, Inhabited

/-- The motion of an axis (R352 to R356, R370): at rest, towards a target (at VSTART throughout, where the distance is short), a
run, decelerating to rest, and the phases of homing. -/
inductive AxPlan where
  | rest
  | toTarget (flat : Bool)
  | run (pos : Bool)
  | brake (after : AxAfter)
  | search
  | backOff
  | seekIndex
  deriving DecidableEq, Repr, Inhabited

/-- One coil's bridge (R359 to R361): its two outputs, driven or in fast decay, samples since the period start, the last sample
reached the target, and samples in a row above the overcurrent limit. -/
structure Coil where
  o1   : Bool
  o2   : Bool
  drv  : Bool
  fast : Bool
  n    : Nat
  hit  : Bool
  oc   : Nat
  deriving DecidableEq, Repr, Inhabited

/-- An axis beyond its registers. -/
structure Axis where
  eff   : List (Nat × Word)   -- its registers as they were at the last Volley edge (R351)
  frac  : Nat                 -- position below POS, in units of 1 / (128 * 10^12) microstep
  v     : Int                 -- profile speed in units of 1 / (64 * 10^6) microstep per second
  plan  : AxPlan
  tgt   : Int                 -- target of the last GO (R355)
  strong : Bool               -- the mode that the next period uses (R362)
  kept  : Bool                -- the motion has a target, so that a stop keeps REMAIN (R356)
  cmd   : Nat                 -- the pending command (R352)
  due   : Nat                 -- the command that takes effect at this edge
  stop  : Nat                 -- a stop for the next tick: 1 soft, 2 hard (R356)
  ref   : Int                 -- homing reference, and the encoder's position at it (R370, R371)
  refQ  : Int
  moved : Nat                 -- microsteps that the homing phase has moved (R372)
  rest  : Nat                 -- ticks at speed 0 (R363)
  a     : Coil
  b     : Coil
  drvN  : Nat                 -- drive samples and non-blanked samples since the last full step (R364)
  smpN  : Nat
  stall : Nat                 -- stall steps in a row (R366)
  deriving DecidableEq, Repr, Inhabited

/-- A quadrature input beyond its registers (R373 to R379): the raw levels, an accepted count has been seen, the
index event of this active period has been taken, rejected changes of A and B in a row, and the stuck episodes. -/
structure Qe where
  raw   : BitVec 3            -- levels of A, B and I at the pins
  seen  : Bool
  idx   : Bool
  rejA  : Nat
  rejB  : Nat
  stuck : BitVec 3
  deriving DecidableEq, Repr, Inhabited

/-- An encoder output beyond its registers (R381, R382): the source value last seen, the source change since READY, and the emitted
count, of which PFB_EOn_POS shows 32 bits. -/
structure Eo where
  last : Int
  s    : Int
  n    : Int
  deriving DecidableEq, Repr, Inhabited

/-- A burst in flight (R434): its first source byte and length, its bytes once read, and whether its read has completed. -/
structure Burst where
  k    : Nat
  len  : Nat
  data : List Byte
  wr   : Bool
  deriving DecidableEq, Repr, Inhabited

/-- A DMA channel beyond its registers (R427 to R439): a fetch in progress (0 none, 1 to execute, 2 re-read), the descriptor
in execution, the next source byte, bursts in flight (oldest first), a failed access in its retry gap with its burst,
failures in a row, bytes written, pages written, and whether FLUSH or EOS has been carried out. -/
structure Dma where
  fetch  : Nat
  desc   : Option (BitVec 256)
  k      : Nat
  bursts : List Burst
  gap    : Bool
  failed : Option Burst
  fails  : Nat
  out    : Nat
  pages  : List Nat
  ended  : Bool
  deriving DecidableEq, Repr, Inhabited

/-- A codec beyond its registers (R440 to R451). -/
structure Codec where
  inb    : List Byte            -- input not yet taken
  outq   : List Byte            -- output not yet written
  idxQ   : List (Nat × List Byte)   -- index records to be written (R451)
  phase  : Nat                  -- 0 header, 1 codes, 2 padding, 3 trailer
  part   : List Byte            -- header or trailer bytes so far
  bits   : Nat                  -- bits not yet used, least significant first (R444)
  nb     : Nat
  pay    : Nat                  -- payload bytes of the block
  dict   : List (Nat × Byte)    -- string of each code from 258 on, latest first: code of its prefix and last byte
  cur    : Option Nat           -- decompressor: prev; compressor: the code of s
  have_  : Bool                 -- R446
  maxw   : Nat
  seq    : Nat                  -- SEQ of the next block
  olen   : Nat
  bcrc   : Word
  scrc   : Word
  open_  : Bool                 -- a block is open
  stream : Bool                 -- a stream is in progress
  err    : Nat                  -- a stream error found (R449)
  fin    : Bool                 -- the stream has ended
  hdrAt  : Nat                  -- address of the open block's header
  blen   : Nat                  -- bytes of the open block so far
  deriving DecidableEq, Repr, Inhabited

/-- A time base beyond its registers (R497, R504): its value in units of 2^-40 / 10^9 ns, the sample not yet applied, the low
half of an offset held, and samples in a row within THR. -/
structure Tb where
  t     : Nat
  meas  : Option Int
  lo    : Word
  run   : Nat
  deriving DecidableEq, Repr, Inhabited

/-- The pattern generator of a lane (R464, R465): its shift register, the bits since the last periodic inversion, and the inversions
asked for. -/
structure PrbsGen where
  sr  : Nat
  n   : Nat
  inj : Nat
  deriving DecidableEq, Repr, Inhabited

/-- The pattern checker of a lane (R464): its shift register, the bits that have seeded it, those that have matched in a row, and
which of the last 64 differed since SYNC. -/
structure PrbsChk where
  sr  : Nat
  got : Nat
  run : Nat
  win : List Bool
  deriving DecidableEq, Repr, Inhabited

/-- A lane beyond its registers (R459 to R467): where its block boundary stands, the valid headers in a row, which of the last
64 headers were invalid since BLOCK, the lane number that the received ALIGN blocks carry with the block at which they come, the
trims written for MANUAL, the two ends of the pattern test, and the register of the PRBS31 on the transmit balls in NEAR_PARALLEL
(R466). -/
structure Lane where
  bound : Nat
  run   : Nat
  win   : List Bool
  num   : Option (Nat × Nat)
  eq    : Option Word
  gen   : PrbsGen
  chk   : PrbsChk
  par   : Nat
  deriving DecidableEq, Repr, Inhabited

/-- What a port sends under class N (R473): a packet that is routed, or one of Kickoff's. -/
inductive LnkMsg where
  | pkt (k : LnkPkt)
  | kickCount (budget : Nat)
  | kickReply (n : Nat)
  | kickAssign (base size : Nat)
  deriving DecidableEq, Repr, Inhabited

/-- What a port sends under class T (R473, R507): a request, or the response to one that came at `t2`. -/
inductive TimeMsg where
  | req
  | rsp (t2 : Int)
  deriving DecidableEq, Repr, Inhabited

/-- A packet that waits for credits of a port (R476, R477): the packet, and the port whose receive buffer holds it. -/
structure LnkJob where
  msg  : LnkMsg
  src  : Option Nat
  deriving DecidableEq, Repr, Inhabited

/-- A Colud Link port beyond its registers (R469, R476): the training handshake sent and received, the peer's credits of class
T and class N in units of 64 bytes, and the packets of class T and class N that wait. -/
structure Lnk where
  txOk : Bool
  rxOk : Bool
  crT  : Nat
  crN  : Nat
  txt  : List TimeMsg
  txq  : List LnkJob
  deriving DecidableEq, Repr, Inhabited

/-- A Kickoff count in progress (R481): it runs, the ports awaited, and the counts of DN, B1 and B2. -/
structure Kick where
  run  : Bool
  wait : Nat
  c1   : Nat
  c2   : Nat
  c3   : Nat
  deriving DecidableEq, Repr, Inhabited

/-- An entry of the forwarding table (R479). -/
structure Fwd where
  port : Nat
  peer : EthPeer
  deriving DecidableEq, Repr, Inhabited

/-- A PTP frame that waits to leave (R512). -/
structure PtpTx where
  bytes : List Byte
  ctl   : Word
  tag   : Nat
  deriving DecidableEq, Repr, Inhabited

/-- A timestamp with its tag, base or frame (R513): in units of 2^-16 ns. -/
structure PtpStamp where
  tag   : Nat
  tb    : Nat
  t     : Nat
  bytes : List Byte
  deriving DecidableEq, Repr, Inhabited

/-- An Ethernet port beyond its registers (R512, R513): the PTP frame to leave, the transmit timestamps and the receive queue,
oldest first, the frames that near-end loopback has yet to return (R466), and the command responses that a PTP frame goes ahead of
(R512). -/
structure Net where
  tx   : Option PtpTx
  txts : List PtpStamp
  rxq  : List PtpStamp
  echo : List (List Byte)
  resp : List Out
  deriving DecidableEq, Repr, Inhabited

/-- A current sink beyond its registers (R518 to R523): the codes in effect, the number of its period and the CORE cycles for which it
is on in it, its next offset, and whether a strobe has been cut short. -/
structure Sink where
  code : Nat
  duty : Nat
  p    : Nat
  on   : Nat
  off  : Option Nat
  cut  : Bool
  deriving DecidableEq, Repr, Inhabited

/-- The state of a firmware slot (R536). -/
inductive SlotSt where
  | empty
  | trial
  | trying
  | confirmed
  | bad
  deriving DecidableEq, Repr, Inhabited

/-- A firmware slot of the SPI NOR: its state, and its header and body (R536, R537). -/
structure FwSlot where
  st  : SlotSt
  img : List Byte
  deriving DecidableEq, Repr, Inhabited

/-- A voltage monitor (R554): samples in a row below LO and above HI, and the events of this episode. -/
structure Vm where
  lo   : Nat
  hi   : Nat
  loEv : Bool
  hiEv : Bool
  deriving DecidableEq, Repr, Inhabited

/-- Proof in progress (R555, R556): the items yet to do, step and item, the first one in progress; an ABORT; for HEAD the
reference approached (4: the way back), slots spent at it, sums of ACT and the starting codes; for GRATIO the sums of channels A
and B. -/
structure Cal where
  q     : List (Nat × Nat)
  abort : Bool
  ref   : Nat
  n     : Nat
  sx    : Int
  sy    : Int
  home  : Codes
  g     : Option (Nat × Nat)
  deriving DecidableEq, Repr, Inhabited

/-- A command that has been accepted and has yet to act (R53, R55, R333): its source, its frame, the packet that brought it or
that carries it on through the chain, who sent it by UDP, and the Volley in which it was accepted (R342). -/
structure QCmd where
  src   : Nat
  frame : List Byte
  pkt   : Option LnkPkt
  peer  : Option EthPeer
  at_   : Nat := 0
  deriving DecidableEq, Repr, Inhabited

/-- A Batch load in progress (R333): its command, its descriptor, whether its map copy runs, the pools yet to set up, and the
Volley edges since EN of the first one was cleared. -/
structure Load where
  cmd   : QCmd
  desc  : List Byte
  map   : Bool
  pools : List Nat
  edges : Option Nat
  deriving DecidableEq, Repr, Inhabited

/-- The KG3248: what the spec gives it, with the queue of commands that wait and the model's own `fresh` and `outbox`. A table
lists only what differs from what reset leaves. -/
structure State where
  /-- Commands that wait, first in first out (the model's queue). -/
  pending : List Instr
  /-- Every software-visible register, by offset (R10); an unlisted one holds its reset value. -/
  regs : List (Nat × Word)
  /-- Engine local memories, by register offset (R6). -/
  lmem : List Host.Cell
  /-- Instruction words that each engine has fetched ahead, by address (R120). -/
  fetched : List (Nat × List (Nat × BitVec 64))
  /-- DRAM contents, by channel place (R11). -/
  dram : List Host.Cell
  /-- Events of this step, before they enter the queue. -/
  evNew : List Ev
  /-- The recorder's queue of 64 entries (R544). -/
  evq : List Ev
  /-- An entry was dropped since the last record (R544). -/
  evLoss : Bool
  /-- The supply detector holds the reset (R603). -/
  supplyHeld : Bool
  /-- The clock-loss reset is held (R610). -/
  clockLost : Bool
  /-- The register fabric accepts accesses (R582). -/
  fabricUp : Bool
  /-- REFCLK_156 has stopped, and no lane has locked to it since; a reset does not bring a clock back (R564, R610). -/
  laneDark : Bool
  /-- Levels at the interlock inputs, 1 = closed; a pin is no register, and a reset does not touch it (R108, R113). -/
  ilkLvl : Nat
  /-- What is written now falls into the cycle of a hardware update: that of a Volley edge, or that of the row beside the write
  (R196, R255, R260). -/
  inEdge : Bool
  /-- Beams whose engines start in the cycle of what is written now (R73, R123, R206). -/
  starting : Nat
  /-- Beams to which a safe-stop cause came in this step: a lower cause of the same cycle takes its place (R104). -/
  ssNow : Nat
  /-- What the memory accesses of this step's row meet, as the row says (R394, R399). -/
  seen : Seen
  /-- The last accepted register write was the first key (R587). -/
  tstArmed : Bool
  /-- Beam channels. -/
  beams : List (Nat × Beam)
  /-- Photodiode channels. -/
  pds : List (Nat × Pd)
  /-- Grid nodes, by beam and node (R63). -/
  grids : List (Nat × BitVec 64)
  /-- The model's own: how many free values have been taken. -/
  fresh : Nat
  /-- Scan Engines. -/
  engs : List (Nat × Eng)
  /-- Midcourt pools. -/
  pools : List (Nat × Pool)
  /-- Slot states, by pool and slot (R226). -/
  slotSt : List (Nat × Nat)
  /-- Rounds of cooling left, by tile (R212). -/
  cool : List (Nat × Nat)
  /-- Barriers (R182). -/
  bars : List (Nat × Barrier)
  /-- What the device has sent, oldest first. -/
  outbox : List Out
  /-- DRAM blocks that hold uncorrectable data. -/
  poison : List (Nat × Bool)
  /-- DRAM channels. -/
  mchs : List (Nat × Mch)
  /-- Blocks of requests that wait for an entry of their queue, oldest first: the request, and the block's address and length (R396). -/
  dramWait : List (DramReq × Nat × Nat)
  /-- Block of the diagnostic access in progress. -/
  diagAt : Option Nat
  /-- Slot 9 of this Volley has passed: a write takes effect an edge later. -/
  late : Bool
  /-- Camera ports. -/
  ports : List (Nat × CamPort)
  /-- Camera contexts. -/
  ctxs : List (Nat × CamCtx)
  /-- Port that the pipeline served last for melt-pool contexts (R284). -/
  mpLast : Option Nat
  /-- Port that it served last for layer contexts. -/
  lyLast : Option Nat
  /-- Pipeline cycles of this Volley. -/
  pipeBusy : Nat
  /-- Pipeline cycles of the line that it took last in this Volley, which the next edge may cut in two (R285, R315). -/
  pipeOver : Nat
  /-- Control loops, by beam. -/
  cleb : List (Nat × CleB)
  /-- Control-Law Engines. -/
  cles : List (Nat × Cle)
  /-- Trace memories, by beam (R261). -/
  trace : List Host.Cell
  /-- The latch instant of this Volley has passed (R241). -/
  latchPast : Bool
  /-- Stepper axes. -/
  axes : List (Nat × Axis)
  /-- Filtered levels of the limit inputs. -/
  limLvl : Nat
  /-- Quadrature inputs. -/
  qes : List (Nat × Qe)
  /-- Encoder outputs. -/
  eos : List (Nat × Eo)
  /-- DMA channels. -/
  dmas : List (Nat × Dma)
  /-- Round-robin pointers of DMA issue, by priority (R435). -/
  dmaPtr : List (Nat × Nat)
  /-- Compression codecs. -/
  codecs : List (Nat × Codec)
  /-- Time bases. -/
  tbs : List (Nat × Tb)
  /-- Volleys since the last TIME exchange was started, up to 255 (R507). -/
  linkVols : Nat
  /-- T1 of the TIME exchange in progress (R507). -/
  exch : Option Int
  /-- Serial lanes. -/
  lanes : List (Nat × Lane)
  /-- Colud Link ports. -/
  lnks : List (Nat × Lnk)
  /-- The Kickoff count. -/
  kick : Kick
  /-- Forwarding table (R479). -/
  fwd : List (Nat × Option Fwd)
  /-- Ethernet ports. -/
  nets : List (Nat × Net)
  /-- Strap CHAIN_ROOT as sampled (R579). -/
  chainRoot : Bool
  /-- Straps BOOT_SEL as sampled (R579). -/
  bootSel : Nat
  /-- Current sinks. -/
  sinks : List (Nat × Sink)
  /-- Frames that a lamp wire has yet to send (R527); in STOPPING the one that is cut (R531). -/
  lamps : List (Nat × List (List Nat))
  /-- Firmware slots of the SPI NOR (R536): 0 is A, 1 is B. -/
  fw : List (Nat × FwSlot)
  /-- Fused key hash, 0 while blank (R539). -/
  keyhash : Nat
  /-- Fuse bits of the security version blown (R539). -/
  fuses : Nat
  /-- Firmware operation in progress: OP, address, length (R540). -/
  upd : Option (Nat × Nat × Nat)
  /-- Milliseconds that the watchdog was started with, 0 while it does not run (R541). -/
  wdt : Nat
  /-- Event records, by position (R542). -/
  recs : List (Nat × Option EvRec)
  /-- Samples in a row below the level's threshold (R552). -/
  thBelow : Nat
  /-- Voltage monitors. -/
  vms : List (Nat × Vm)
  /-- Proof in progress. -/
  cal : Cal
  /-- The journal, by position (R342). -/
  jnl : List (Nat × BitVec 256)
  /-- Timed commands that wait, in order of acceptance (R53). -/
  sched : List QCmd
  /-- Immediate commands that act at the next edge, with its Volley (R55). -/
  imm : List (Nat × QCmd)
  /-- Batch load in progress (R333). -/
  load : Option Load
  /-- MGT_CMD_GO has submitted a frame (R320). -/
  goPend : Bool
  /-- A software reset has been asked for (R580). -/
  swrst : Bool
  /-- Pools that the loaded Batch names (R331). -/
  batchPools : Nat
  /-- The address from which the Court Map is copied, as at GO (R207). -/
  mapFrom : Nat
  /-- A map copy has failed (R333). -/
  mapBad : Bool
  /-- Clock source as sampled when the generator left OFF (R25, R29). -/
  volLocal : Bool
  /-- Length of the Volley in progress, in units of 1/256 ns (R26). -/
  volLen : Nat
  /-- CORE cycles from the last output merge to the present edge (R195). -/
  winLead : Nat
  /-- The generator's stop has passed its edge (R30). -/
  volStop : Bool
  /-- TRST_N is high (R618). -/
  tapUp : Bool
  /-- Boundary cells that PRELOAD has filled, by ball (R618). -/
  tapCells : List (Nat × Bool)
  /-- EXTEST drives the balls (R618). -/
  tapDrive : Bool
  deriving DecidableEq, Repr

/-- The machine right after the release of PORST_N with the straps open (R579, R608): every register at its reset value, every
memory empty, no function started, the fabric not yet up (R582), the interlock force active (R581); the test port held by the
pull-down of TRST_N. Blank fuses and firmware slots are the model's choice (assumption 29). -/
def State.reset : State :=
  { pending := [], regs := [], lmem := [], fetched := [], dram := [], evNew := [], ilkLvl := 0, inEdge := false, starting := 0, ssNow := 0, seen := [],
    evq := [], evLoss := false, supplyHeld := false, clockLost := false, fabricUp := false, laneDark := false,
    tstArmed := false, beams := [], pds := [], grids := [], fresh := 0,
    engs := [], pools := [], slotSt := [], cool := [], bars := [],
    outbox := [], poison := [], mchs := [], dramWait := [], diagAt := none, late := false,
    ports := [], ctxs := [], mpLast := none, lyLast := none, pipeBusy := 0, pipeOver := 0,
    cleb := [], cles := [], trace := [], latchPast := false, axes := [],
    limLvl := 0, qes := [], eos := [], dmas := [], dmaPtr := [],
    codecs := [], tbs := [], linkVols := 0, exch := none, lanes := [], lnks := [],
    kick := default, fwd := [], nets := [], chainRoot := false, bootSel := 0,
    sinks := [], lamps := [], fw := [], keyhash := 0, fuses := 0,
    upd := none, wdt := 0, recs := [], thBelow := 0, vms := [],
    cal := default, jnl := [], sched := [], imm := [], load := none,
    goPend := false, swrst := false, batchPools := 0, mapFrom := 0, mapBad := false, volLocal := false,
    volLen := 0, winLead := 0, volStop := false, tapUp := false, tapCells := [], tapDrive := false }

/-- No meaning of this model faults: the spec describes no event that stops the machine. -/
inductive Fault where
  deriving DecidableEq, Repr

/-- Why a command has no meaning. -/
inductive Refusal where
  /-- Raised by exec's arm of a command that has no meaning yet; safe: the machine would go on. -/
  | notModelled (mnemonic : String)
  deriving DecidableEq, Repr

end Sys2Proof.Machine
end

