-- ==== Sys2Proof/Machine/Ops.lean ====
section
/-! DEFINITION. The named operations over the state: sparse tables and memories in their canonical form, registers and their
fields, counters, byte memories, events, the lifecycle of functions, and the frame of every meaning. -/

namespace Sys2Proof.Machine

/-! ### Sparse tables -/

/-- The value a table holds for key `k`: the listed one, or what an unlisted key reads as. -/
def tabGet {α : Type} (d : Nat → α) : List (Nat × α) → Nat → α
  | [], k => d k
  | (k', v) :: rest, k => if k' = k then v else tabGet d rest k

/-- A table without the entries of key `k`. -/
def tabDrop {α : Type} : List (Nat × α) → Nat → List (Nat × α)
  | [], _ => []
  | (k', v) :: rest, k => if k' = k then tabDrop rest k else (k', v) :: tabDrop rest k

/-- Insert an entry before the first greater key. -/
def tabIns {α : Type} : List (Nat × α) → Nat → α → List (Nat × α)
  | [], k, v => [(k, v)]
  | (k', v') :: rest, k, v => if k < k' then (k, v) :: (k', v') :: rest else (k', v') :: tabIns rest k v

/-- Put `v` at key `k`, keeping the keys rising and listing no value that an unlisted key reads as. -/
def tabSet {α : Type} [DecidableEq α] (d : Nat → α) (t : List (Nat × α)) (k : Nat) (v : α) : List (Nat × α) :=
  if v = d k then tabDrop t k else tabIns (tabDrop t k) k v

/-- The canonical form: every key above `lo`, keys strictly rising, no listed value equal to the unlisted one. -/
def tabWfFrom {α : Type} [DecidableEq α] (d : Nat → α) : Nat → List (Nat × α) → Bool
  | _, [] => true
  | lo, (k, v) :: rest => decide (lo ≤ k) && decide (v ≠ d k) && tabWfFrom d (k + 1) rest

/-- The canonical form of a table. -/
def tabWf {α : Type} [DecidableEq α] (d : Nat → α) (t : List (Nat × α)) : Bool := tabWfFrom d 0 t

/-- The entry of a table of records; an unlisted record is the one that reset leaves. -/
def recGet {α : Type} [Inhabited α] (t : List (Nat × α)) (k : Nat) : α := tabGet (fun _ => default) t k

/-- Put a record into a table of records. -/
def recSet {α : Type} [Inhabited α] [DecidableEq α] (t : List (Nat × α)) (k : Nat) (v : α) : List (Nat × α) :=
  tabSet (fun _ => default) t k v

/-! ### Numbers -/

/-- The signed reading of the low `w` bits of `n`, two's complement. -/
def sgn (w n : Nat) : Int :=
  let m := n % 2 ^ w
  if m < 2 ^ (w - 1) then (m : Int) else (m : Int) - (2 : Int) ^ w

/-- The low `w` bits of an integer. -/
def low (w : Nat) (i : Int) : Nat := (i % (2 : Int) ^ w).toNat

/-- An integer as a register word, two's complement. -/
def wordOf (i : Int) : Word := BitVec.ofInt 32 i

/-- Clamp to a range. -/
def clampI (lo hi x : Int) : Int := max lo (min hi x)

/-- Clamp a natural number to a range. -/
def clampN (lo hi x : Nat) : Nat := max lo (min hi x)

/-- Does bit `i` of `n` read 1? -/
def bitOf (n i : Nat) : Bool := n / 2 ^ i % 2 == 1

/-- The least multiple count that covers `n`: the quotient rounded up. -/
def ceilDiv (n d : Nat) : Nat := (n + d - 1) / d

/-- A field that acts as 1 when it holds 0. -/
def orOne (n : Nat) : Nat := if n = 0 then 1 else n

/-! ### Registers and fields -/

/-- The value a register holds. -/
def State.rd (s : State) (off : Nat) : Word := tabGet regReset s.regs off

/-- Give a register a value. -/
def State.wr (s : State) (off : Nat) (v : Word) : State := { s with regs := tabSet regReset s.regs off v }

/-- The value of a field within a word. -/
def fldOf (lo w : Nat) (x : Word) : Nat := x.toNat / 2 ^ lo % 2 ^ w

/-- A word with one field replaced. -/
def fldIns (lo w : Nat) (x : Word) (v : Nat) : Word :=
  let m : Word := ((1#32 <<< w) - 1#32) <<< lo
  (x &&& ~~~m) ||| ((BitVec.ofNat 32 v <<< lo) &&& m)

/-- Read a field. -/
def State.get (s : State) (f : Fld) : Nat := fldOf f.lo f.w (s.rd f.off)

/-- Write a field, leaving the other bits of its register as they are. -/
def State.set (s : State) (f : Fld) (v : Nat) : State := s.wr f.off (fldIns f.lo f.w (s.rd f.off) v)

/-- Read a field as a flag. -/
def State.flag (s : State) (f : Fld) : Bool := s.get f != 0

/-- Write a flag. -/
def State.setFlag (s : State) (f : Fld) (b : Bool) : State := s.set f (if b then 1 else 0)

/-- Read a field as a signed number. -/
def State.getI (s : State) (f : Fld) : Int := sgn f.w (s.get f)

/-- Read a register as a natural number. -/
def State.rdN (s : State) (off : Nat) : Nat := (s.rd off).toNat

/-- Read a register as a signed number. -/
def State.rdI (s : State) (off : Nat) : Int := (s.rd off).toInt

/-- A value held in two registers, the lower half first (R12). -/
def State.rd64 (s : State) (lo : Nat) : Nat := s.rdN lo + s.rdN (lo + 4) * 2 ^ 32

/-- Give a two-register value (R12), modulo 2^64. -/
def State.wr64 (s : State) (lo : Nat) (v : Nat) : State :=
  (s.wr lo (BitVec.ofNat 32 v)).wr (lo + 4) (BitVec.ofNat 32 (v / 2 ^ 32))

/-- Raise a counter that saturates at 0xFFFF_FFFF. -/
def State.bumpSat (s : State) (off : Nat) : State :=
  if s.rd off = 0xFFFFFFFF#32 then s else s.wr off (s.rd off + 1)

/-- Raise a counter that wraps. -/
def State.bumpWrap (s : State) (off : Nat) : State := s.wr off (s.rd off + 1)

/-- Add to a wrapping 64-bit counter (R12). -/
def State.add64 (s : State) (lo n : Nat) : State := s.wr64 lo (s.rd64 lo + n)

/-- Add to a 32-bit counter that saturates. -/
def State.addSat (s : State) (off n : Nat) : State :=
  s.wr off (BitVec.ofNat 32 (min 0xFFFFFFFF (s.rdN off + n)))

/-- What a software write of `v` leaves in a register of which it had `old` (R13): stored bits take the written value, a
written 1 clears a W1C bit, every other bit stays. -/
def writeEff (d : RegDesc) (old v : Word) : Word :=
  (old &&& ~~~(BitVec.ofNat 32 d.rw ||| (v &&& BitVec.ofNat 32 d.w1c))) ||| (v &&& BitVec.ofNat 32 d.rw)

/-- A software write with no effect beyond the register's own bits; an unoccupied offset takes no effect (R17). -/
def State.plainWrite (s : State) (off : Nat) (v : Word) : State :=
  match regDesc off with
  | some d => s.wr off (writeEff d (s.rd off) v)
  | none => s

/-- A software write of a register that keeps a maximum: in the cycle of its update within a Volley (the commands of an edge come
before the latch) the larger of the two values is stored (R196, R260). -/
def State.maxWrite (s : State) (off : Nat) (v : Word) : State :=
  let t := s.plainWrite off v
  if s.inEdge && s.latchPast then t.wr off (BitVec.ofNat 32 (max (s.rdN off) (t.rdN off))) else t

/-! ### Byte memories -/

/-- Write one byte of a sparse byte memory in which an unlisted byte reads 0 (assumption 3). -/
def memSet (m : List Host.Cell) (a : Nat) (b : Byte) : List Host.Cell := tabSet (fun _ => 0#8) m a b

/-- Read one byte of a sparse byte memory. -/
def memGet (m : List Host.Cell) (a : Nat) : Byte := tabGet (fun _ => 0#8) m a

/-- The canonical form of a byte memory. -/
def Memory.wf (m : List Host.Cell) : Bool := tabWf (fun _ => 0#8) m

/-- Write bytes at rising addresses. -/
def memPut (m : List Host.Cell) (a : Nat) : List Byte → List Host.Cell
  | [] => m
  | b :: bs => memPut (memSet m a b) (a + 1) bs

/-- Read `n` bytes at rising addresses. -/
def memTake (m : List Host.Cell) (a : Nat) : Nat → List Byte
  | 0 => []
  | n + 1 => memGet m a :: memTake m (a + 1) n

/-- The number that little-endian bytes spell (R10). -/
def leNat : List Byte → Nat
  | [] => 0
  | b :: bs => b.toNat + 256 * leNat bs

/-- The `n` little-endian bytes of a number (R10). -/
def leBytes : Nat → Nat → List Byte
  | 0, _ => []
  | n + 1, v => BitVec.ofNat 8 v :: leBytes n (v / 256)

/-! ### Folding over instances -/

/-- Apply `f 0`, ..., `f (n - 1)` in that order. -/
def forN (n : Nat) (f : Nat → State → State) (s : State) : State := (List.range n).foldl (fun t i => f i t) s

/-- Apply `f` to the state where `c` holds. -/
def State.when (s : State) (c : Bool) (f : State → State) : State := if c then f s else s

/-! ### Events (R20, R543 to R548) -/

/-- The bit of EVR_ALERT_PEND that an event identifier sets: the row of R20's table. -/
def alertRow (id : Nat) : Nat := if id < 0x380 then id / 0x40 else 14

/-- A time base's record. -/
def State.tb (s : State) (n : Nat) : Tb := recGet s.tbs n

/-- Units of a time base in one nanosecond: 2^40 (R497) times 10^9, so that R498 needs no rounding (assumption 22). -/
def tbUnit : Nat := 2 ^ 40 * 10 ^ 9

/-- Whole nanoseconds since second 0: seconds times 10^9 plus nanoseconds. -/
def Tb.total (r : Tb) : Nat := r.t / tbUnit
/-- Nanoseconds (R497). -/
def Tb.ns (r : Tb) : Nat := r.total % 10 ^ 9
/-- Seconds (R497). -/
def Tb.sec (r : Tb) : Nat := r.total / 10 ^ 9
/-- The visible fraction, in units of 2^-16 ns (R497). -/
def Tb.frac (r : Tb) : Nat := r.t % tbUnit / (tbUnit / 2 ^ 16)

/-- Record an event: it waits for the end of the step, and its range's ALERT_PEND bit is set (R548). Its Volley number
and time are those of the instant it occurs (R543). -/
def State.raise (s : State) (id inst : Nat) (arg : Word := 0) : State :=
  let e : Ev := { id := id, inst := inst, arg := arg, volley := s.rd64 GLB_VOL_NUM_LO, tns := (s.tb 0).ns }
  let p := s.rd EVR_ALERT_PEND
  { s.wr EVR_ALERT_PEND (p ||| (1#32 <<< alertRow id)) with evNew := s.evNew ++ [e] }

/-- Ascending order of identifier, then of instance (R544). -/
def evBefore (a b : Ev) : Bool := decide (a.id < b.id) || (a.id == b.id && decide (a.inst ≤ b.inst))

/-- Insert an event after those that come before it or tie with it. -/
def evInsert (e : Ev) : List Ev → List Ev
  | [] => [e]
  | x :: xs => if evBefore x e then x :: evInsert e xs else e :: x :: xs

/-- Sort the events of one step. -/
def evSort (l : List Ev) : List Ev := l.foldl (fun acc e => evInsert e acc) []

/-- One event enters the recorder's queue of 64 entries, or is dropped (R544). -/
def State.enqueueEv (s : State) (e : Ev) : State :=
  if s.evq.length < 64 then { s with evq := s.evq ++ [e] }
  else { s.bumpSat EVR_DROP with evLoss := true }

/-- A step ends: its events enter the recorder's queue in their order (R544), and a safe-stop cause that comes later is of another
cycle (R104). -/
def State.flush (s : State) : State :=
  (evSort s.evNew).foldl State.enqueueEv { s with evNew := [], ssNow := 0, seen := [] }

/-! ### Records -/

/-- The record of a beam's control loop. -/
def State.cb (s : State) (b : Nat) : CleB := recGet s.cleb b
/-- Change it. -/
def State.modCb (s : State) (b : Nat) (f : CleB → CleB) : State := { s with cleb := recSet s.cleb b (f (s.cb b)) }

/-! ### Perturbation points (R587 to R589) -/

/-- Does point `k` act on instance `inst` of fabric point `point`? (R588, R589) -/
def State.tstActs (s : State) (k point inst : Nat) : Bool :=
  s.flag TST_STATUS_UNLOCKED && s.flag (TST_PT_CFG_EN k) && s.get (TST_PT_CFG_POINT k) == point
    && (s.flag (TST_PT_CFG_ALL k) || s.get (TST_PT_CFG_INST k) == inst)

/-- A transaction passes a fabric point: every point that acts there and affects it counts it (R589; whether back-pressure
meets a transaction is not the model's to know, assumption 21). -/
def State.tstHit (s : State) (point inst : Nat) : State :=
  forN 8 (fun k t =>
    if t.tstActs k point inst then
      let met := !t.flag (TST_PT_CFG_MODE k) || point == 6 || point == 7 || Config.tstMet t.fresh
      let t := { t with fresh := t.fresh + 1 }
      if met then t.bumpWrap (TST_PT_CNT k) else t
    else t) s

/-- The cycles that the points acting on a budget window or a commit take (R589). -/
def State.tstCycles (s : State) (point inst : Nat) : Nat :=
  (List.range 8).foldl (fun n k => if s.tstActs k point inst then n + s.get (TST_PT_AMT_AMOUNT k) else n) 0

/-! ### The lifecycle of functions (R18, R574, R575) -/

/-- STATE encodings of R574. -/
def stOFF : Nat := 0
/-- STARTING (R574). -/
def stSTARTING : Nat := 1
/-- READY (R574). -/
def stREADY : Nat := 2
/-- STOPPING (R574). -/
def stSTOPPING : Nat := 3
/-- FAULT (R574). -/
def stFAULT : Nat := 4
/-- STOPPING with RESTART_PENDING set (R574). -/
def stSTOPPING_RP : Nat := 5

/-- Is a function in OFF? -/
def State.isOff (s : State) (f : Fld) : Bool := s.get f == stOFF
/-- Is a function in READY? -/
def State.isReady (s : State) (f : Fld) : Bool := s.get f == stREADY

/-- EN written 1 (R575): OFF goes to `start`, STOPPING to STOPPING_RP; nothing else moves. -/
def State.lifeOn (s : State) (st : Fld) (start : State → State) : State :=
  if s.get st = stOFF then start s
  else if s.get st = stSTOPPING then s.set st stSTOPPING_RP
  else s

/-- EN written 0 (R575): STARTING and READY go to `stop`, STOPPING_RP to STOPPING, FAULT to OFF. -/
def State.lifeOff (s : State) (st : Fld) (stop : State → State) : State :=
  if s.get st = stSTARTING ∨ s.get st = stREADY then stop s
  else if s.get st = stSTOPPING_RP then s.set st stSTOPPING
  else if s.get st = stFAULT then s.set st stOFF
  else s

/-- A function that a write took from FAULT to OFF (R575) gives up by `off` what it still held. -/
def State.fromFault (s : State) (st : Fld) (was : Nat) (off : State → State) : State :=
  s.when (was == stFAULT && s.isOff st) off

/-- A write of EN: EN keeps the written value in every state, and the same value again changes nothing (R575). -/
def State.lifeWrite (s : State) (en st : Fld) (b : Bool) (start stop : State → State) : State :=
  if s.flag en = b then s
  else if b then (s.setFlag en true).lifeOn st start
  else (s.setFlag en false).lifeOff st stop

/-- The stop of a function has completed (R575): STOPPING ends in OFF, STOPPING_RP passes through OFF and starts again. -/
def State.stopDone (s : State) (st : Fld) (start : State → State) : State :=
  if s.get st = stSTOPPING then s.set st stOFF
  else if s.get st = stSTOPPING_RP then start (s.set st stOFF)
  else s

/-- What `f` writes falls into the cycle of a hardware update. -/
def State.coincide (f : State → State) (s : State) : State := { f { s with inEdge := true } with inEdge := false }

/-- Is the throttle gate closed? (R553) -/
def State.throttled (s : State) : Bool := s.flag CPT_TH_STATUS_GATE

/-! ### The frame of a meaning -/

/-- Does the device work? A held reset (R603, R610) stops everything but the events that end it. -/
def State.alive (s : State) : Bool := !s.supplyHeld && !s.clockLost

/-- Does the register fabric accept accesses? (R582) -/
def State.up (s : State) : Bool := s.alive && s.fabricUp

/-- Carry out one step of the table: while a reset is held nothing happens; otherwise the effect, then the events of the
step enter the recorder. -/
def run (f : State → State) (s : State) : Host.Outcome State Fault Refusal :=
  .next (if s.alive then (f s).flush else s)

/-- Carry out a row that says what its memory accesses meet (R394, R399). -/
def runSeen (x : Seen) (f : State → State) (s : State) : Host.Outcome State Fault Refusal := run (fun t => f { t with seen := x }) s

/-- The unlock sequence sees every register write that the fabric accepts (R587). -/
def State.tstWatch (s : State) (off : Nat) (v : Word) : State :=
  if s.tstArmed then
    if off = TST_UNLOCK ∧ v = 0x00000A11#32 then
      (({ s with tstArmed := false }).setFlag TST_STATUS_UNLOCKED true).raise 0x380 0
    else (({ s with tstArmed := decide (off = TST_UNLOCK ∧ v = 0x00007E57#32) }).raise 0x382 0)
  else { s with tstArmed := decide (off = TST_UNLOCK ∧ v = 0x00007E57#32) }

/-- The fabric accepts a write: it passes a perturbation point (R588) and the unlock sequence sees it (R587). -/
def State.accepted (s : State) (off : Nat) (v : Word) : State := (s.tstHit 9 0).tstWatch off v

/-- Carry out the write of `v` to the register at `off`: before the fabric accepts accesses the write is discarded
(R582); every accepted write is seen by the unlock sequence (R587). -/
def runReg (off : Nat) (v : Word) (f : State → State) (s : State) : Host.Outcome State Fault Refusal :=
  run (fun t => if t.up then f (t.accepted off v) else t) s

/-- An access to the register at `off` completes for want of an answer (R564): it is counted and recorded. -/
def State.fabTimeout (s : State) (off : Nat) : State := (s.bumpSat GLB_FAB_TO_CNT).raise 0x020 0 (BitVec.ofNat 32 off)

/-- Does no register of the block at `off` answer? The lane registers do not while REFCLK_156 is away (R564, R610). It comes back
with the next LANE_READY (DESIGN CHOICE: assumption 103). -/
def State.dark (s : State) (off : Nat) : Bool := s.laneDark && decide (0x040000 ≤ off ∧ off < 0x04C000)

/-- Carry out the write of a lane register: without REFCLK_156 it times out (R564, R610). -/
def runLaneReg (off : Nat) (v : Word) (f : State → State) (s : State) : Host.Outcome State Fault Refusal :=
  run (fun t => if t.up then (if t.dark off then t.fabTimeout off else f (t.accepted off v)) else t) s

end Sys2Proof.Machine
end

