-- ==== Sys2Proof/Machine/DramMap.lean ====
section
/-! DEFINITION. Where a device-physical DRAM address lies (R388, R392, R393), and the bytes DRAM holds. -/

namespace Sys2Proof.Machine

/-- Capacity of one rank of channel `m` in bytes: x4 devices of 16 Gb give 32 GiB, x8 half of it, 32 Gb dies twice (R388,
R393). -/
def State.rankCap (s : State) (m : Nat) : Nat :=
  2 ^ 35 * (if s.flag (MEM_M_CFG_DENS m) then 2 else 1) / (if s.flag (MEM_M_CFG_WIDTH m) then 2 else 1)

/-- Mapped ranks of channel `m`: its ranks without the spare; none while RANKS is 0 (R392). -/
def State.mappedRanks (s : State) (m : Nat) : Nat :=
  s.get (MEM_M_CFG_RANKS m) - (if s.flag (MEM_M_SPARE_EN m) then 1 else 0)

/-- The mapped capacity of channel `m` (R392). -/
def State.chCap (s : State) (m : Nat) : Nat := s.mappedRanks m * s.rankCap m

/-- The physical rank of a logical rank (R393). -/
def State.physRank (s : State) (m l : Nat) : Nat := s.get ⟨MEM_M_RANKMAP m, 2 * l, 2⟩

/-- The channel and the channel address of a device-physical address (R392), if it is mapped. -/
def State.dramChan (s : State) (a : Nat) : Option (Nat × Nat) :=
  if s.flag MEM_CTRL_ILV then
    if a < s.chCap 0 + s.chCap 1 then some (a / 4096 % 2, a / 8192 * 4096 + a % 4096) else none
  else if a < s.chCap 0 then some (0, a)
  else if a < s.chCap 0 + s.chCap 1 then some (1, a - s.chCap 0)
  else none

/-- The key under which the byte at a rank address is kept. -/
def dramKey (m rank ra : Nat) : Nat := (m * 4 + rank) * 2 ^ 36 + ra

/-- The channel's record. -/
def State.mch (s : State) (m : Nat) : Mch := recGet s.mchs m

/-- Change a channel's record. -/
def State.modMch (s : State) (m : Nat) (f : Mch → Mch) : State := { s with mchs := recSet s.mchs m (f (s.mch m)) }

/-- MIG.STATE codes (R421): RUNNING. -/
def migRUNNING : Nat := 1
/-- DONE (R421). -/
def migDONE : Nat := 2

/-- Does rank `p` of channel `m` migrate now? (R407) -/
def State.migrating (s : State) (m p : Nat) : Bool := s.get (MEM_M_MIG_STATE m) == migRUNNING && (s.mch m).migP == p

/-- Channel, physical rank and rank address of a device-physical address (R392, R393); while a rank migrates, its blocks
below the pointer are served by the spare (R407). -/
def State.dramPlace (s : State) (a : Nat) : Option (Nat × Nat × Nat) :=
  match s.dramChan a with
  | some (m, c) =>
    let p := s.physRank m (c / s.rankCap m)
    let ra := c % s.rankCap m
    some (m, if s.migrating m p && decide (ra / 64 < s.get (MEM_M_MIG_PTR_BLOCK m)) then s.get (MEM_M_SPARE_RANK m) else p, ra)
  | none => none

/-- The bytes DRAM holds from a device-physical address; an unmapped byte gives 0. -/
def State.dramTake (s : State) (a : Nat) : Nat → List Byte
  | 0 => []
  | n + 1 => (match s.dramPlace a with
              | some (m, r, ra) => memGet s.dram (dramKey m r ra)
              | none => 0#8) :: s.dramTake (a + 1) n

/-- Is a block poisoned (R401)? -/
def State.poisoned (s : State) (key : Nat) : Bool := tabGet (fun _ => false) s.poison (key / 64)

/-- Mark a block poisoned, or not. -/
def State.setPoison (s : State) (key : Nat) (b : Bool) : State :=
  { s with poison := tabSet (fun _ => false) s.poison (key / 64) b }

/-- Store bytes from a device-physical address on; unmapped bytes are not stored. -/
def State.dramPut (s : State) (a : Nat) : List Byte → State
  | [] => s
  | b :: bs =>
    State.dramPut (match s.dramPlace a with
      | some (m, r, ra) => { s with dram := memSet s.dram (dramKey m r ra) b }
      | none => s) (a + 1) bs

end Sys2Proof.Machine
end

