-- ==== Sys2Proof/Machine/Beam.lean ====
section
/-! DEFINITION. Beam channels (R63 to R113): safe-stop causes, field correction, set point, scan-port words, channel
lifecycle, head return, laser inputs, photodiodes and interlocks. -/

namespace Sys2Proof.Machine

/-- The beam channel's record. -/
def State.beam (s : State) (b : Nat) : Beam := recGet s.beams b

/-- Change a beam channel's record. -/
def State.modBeam (s : State) (b : Nat) (f : Beam → Beam) : State :=
  { s with beams := recSet s.beams b (f (s.beam b)) }

/-- The photodiode channel's record. -/
def State.pd (s : State) (n : Nat) : Pd := recGet s.pds n

/-- Change a photodiode channel's record. -/
def State.modPd (s : State) (n : Nat) (f : Pd → Pd) : State := { s with pds := recSet s.pds n (f (s.pd n)) }

/-- The present Volley number (R22). -/
def State.vnum (s : State) : Nat := s.rd64 GLB_VOL_NUM_LO

/-- Is the Volley generator in READY? -/
def State.volReady (s : State) : Bool := s.isReady GLB_VOL_STATUS_STATE

/-- Does the generator make edges? -/
def State.volEdges (s : State) : Bool :=
  let st := s.get GLB_VOL_STATUS_STATE
  st == stREADY || st == stSTOPPING || st == stSTOPPING_RP

/-- Does beam `b` run: is its Scan Engine running? -/
def State.running (s : State) (b : Nat) : Bool := s.flag (SCN_STATUS_RUN b)

/-- Does the engine of beam `b` run, or start in the cycle of what is written now (R73, R123)? -/
def State.inUse (s : State) (b : Nat) : Bool := s.running b || bitOf s.starting b

/-- Is a safe stop of beam `b` in progress (R73, R87)? -/
def State.ssInProgress (s : State) (b : Nat) : Bool :=
  (s.beam b).ssPend != 0 || (s.flag (BIO_STATUS_SAFE b) && !s.flag (BIO_STATUS_PARKED b))

/-- Does a cause that reaches beam `b` now change nothing (R104)? The channel is OFF, or a safe stop is in progress or complete,
unless it was asked for in this cycle by a higher cause. -/
def State.ssDeaf (s : State) (b cause : Nat) : Bool :=
  s.isOff (BIO_STATUS_STATE b) || s.flag (BIO_STATUS_SAFE b)
    || ((s.beam b).ssPend != 0 && !(bitOf s.ssNow b && decide (cause < (s.beam b).ssPend)))

/-- A cause reaches beam `b` (R104): of the causes of one cycle the lowest is recorded. -/
def State.ssRequest (s : State) (b cause : Nat) : State :=
  if s.ssDeaf b cause then s
  else { (s.set (BIO_SS_CAUSE_CAUSE b) cause).modBeam b fun r => { r with ssPend := cause } with ssNow := s.ssNow ||| 2 ^ b }

/-- A cause reaches every running beam. -/
def State.ssRequestRunning (s : State) (cause : Nat) : State :=
  forN 32 (fun b t => t.when (t.running b) fun u => u.ssRequest b cause) s

/-! ### Field correction (R66 to R72) -/

/-- Nodes of a grid (R66). -/
def gridNodes : Nat := 4225

/-- A node of beam `b`'s grid. -/
def State.node (s : State) (b i : Nat) : BitVec 64 := tabGet (fun _ => 0#64) s.grids (b * gridNodes + i)

/-- The fields of a node (R67): X code, Y code, Z offset. -/
def nodeX (n : BitVec 64) : Int := sgn 24 n.toNat
/-- Y code of a node (R67). -/
def nodeY (n : BitVec 64) : Int := sgn 24 (n.toNat / 2 ^ 24)
/-- Z offset of a node (R67). -/
def nodeZ (n : BitVec 64) : Int := sgn 16 (n.toNat / 2 ^ 48)

/-- Twice the weight of R69 for the neighbour `a - 1`, scaled by 2^48; `t` is the fraction in 1/65,536. -/
def cubicW (a : Nat) (t : Int) : Int :=
  let o : Int := 65536
  match a with
  | 0 => -t * t * t + 2 * t * t * o - t * o * o
  | 1 => 3 * t * t * t - 5 * t * t * o + 2 * o * o * o
  | 2 => -3 * t * t * t + 4 * t * t * o + t * o * o
  | _ => t * t * t - t * t * o

/-- Where a relative coordinate falls on the grid (R68): whether it was clamped, the index and the fraction. -/
def gridPlace (u : Int) (p : Nat) : Bool × Nat × Int :=
  let lim : Int := 32 * p
  let c := clampI (-lim) lim u
  let n := (c + lim).toNat
  let i := n / p
  if i = 64 then (u != c, 63, 65536) else (u != c, i, (n % p * 65536 / p : Nat))

/-- Round to the nearest integer, halves towards plus infinity (R69). -/
def roundDiv (n : Int) (d : Nat) : Int := (2 * n + d) / (2 * d)

/-- The interpolated value of a node field (R69). -/
def gridInterp (f : Nat → Int) (i j : Nat) (tx ty : Int) : Int :=
  let idx (k a : Nat) : Nat := min 64 (k + a - 1)
  let sum := (List.range 4).foldl (fun acc a =>
    (List.range 4).foldl (fun acc c => acc + cubicW a tx * cubicW c ty * f (idx j c * 65 + idx i a)) acc) (0 : Int)
  roundDiv sum (4 * 2 ^ 96)

/-- The output codes of a bed position on beam `b`, and whether the point is clipped (R66 to R70). -/
def State.correct (s : State) (b : Nat) (px py pz : Int) : Codes × Bool :=
  let p := orOne (s.get (BIO_GRID_PITCH_PITCH b))
  let (cx, i, tx) := gridPlace (px - s.rdI (BIO_HEAD_X0 b)) p
  let (cy, j, ty) := gridPlace (py - s.rdI (BIO_HEAD_Y0 b)) p
  let f (g : BitVec 64 → Int) : Int := gridInterp (fun k => g (s.node b k)) i j tx ty
  let lim (v : Int) : Int := clampI (-8388608) 8388607 v
  let x := f nodeX
  let y := f nodeY
  let z := roundDiv (pz * s.rdI (BIO_ZGAIN b)) 65536 + f nodeZ
  (⟨lim x, lim y, lim z⟩, cx || cy || lim x != x || lim y != y || lim z != z)

/-- May the grid and head configuration of beam `b` be written now? (R73) -/
def State.headCfgOpen (s : State) (b : Nat) : Bool := !s.inUse b && !s.ssInProgress b

/-- A write that R73 refuses. -/
def State.headCfgRefuse (s : State) (b : Nat) : State := (s.setFlag (BIO_STATUS_CFG_REFUSED b) true).raise 0x052 b

/-- A write of HEAD_X0, HEAD_Y0, GRID_PITCH, ZGAIN or GRID_DATA_LO (R73). -/
def wrHeadCfg (b off : Nat) (v : Word) (s : State) : State :=
  if s.headCfgOpen b then s.plainWrite off v else s.headCfgRefuse b

/-- Advance GRID_ADDR by 1 (R72). -/
def State.gridAdvance (s : State) (b : Nat) : State := s.set (BIO_GRID_ADDR_ADDR b) (s.get (BIO_GRID_ADDR_ADDR b) + 1)

/-- A write of GRID_DATA_HI stores a node and advances ADDR, if R73 allows it (R72). -/
def wrGridHi (b : Nat) (v : Word) (s : State) : State :=
  if s.headCfgOpen b then
    let a := s.get (BIO_GRID_ADDR_ADDR b)
    if a < gridNodes then
      let n : BitVec 64 := v ++ s.rd (BIO_GRID_DATA_LO b)
      State.gridAdvance { s with grids := tabSet (fun _ => 0#64) s.grids (b * gridNodes + a) n } b
    else s
  else s.headCfgRefuse b

/-- What GRID_DATA_LO and GRID_DATA_HI read (R72). -/
def State.gridLo (s : State) (b : Nat) : Word :=
  let a := s.get (BIO_GRID_ADDR_ADDR b)
  if a < gridNodes then (s.node b a).setWidth 32 else 0

/-- The upper half of the addressed node (R72). -/
def State.gridHi (s : State) (b : Nat) : Word :=
  let a := s.get (BIO_GRID_ADDR_ADDR b)
  if a < gridNodes then ((s.node b a) >>> 32).setWidth 32 else 0

/-- The effect of a read of GRID_DATA_HI: ADDR advances (R72). -/
def rdGridHi (b : Nat) (s : State) : State :=
  if s.get (BIO_GRID_ADDR_ADDR b) < gridNodes then s.gridAdvance b else s

/-! ### Set point and port words (R77 to R94) -/

/-- The DAC code of a power under a correction, and whether the limit clipped it (R90). -/
def powerCode (pw m lim : Nat) : Nat × Bool :=
  let c := min 65535 ((pw * m + 16384) / 32768)
  if lim < c then (lim, true) else (c, false)

/-- Does the laser permit emission: RDY asserted, ALM not, and no interlock force (R91)? -/
def State.laserOk (s : State) (b : Nat) : Bool :=
  s.flag (BIO_STATUS_RDY_LVL b) && !s.flag (BIO_STATUS_ALM_LVL b) && !s.flag SAF_ILK_STATUS_FORCE

/-- One step of the CRC-8 of R80, most significant bit first, polynomial x^8 + x^2 + x + 1. -/
def crc8Step (c : Nat) (bit : Bool) : Nat :=
  let top := bitOf c 7
  let c' := c * 2 % 256
  if top != bit then c' ^^^ 7 else c'

/-- The CRC-8 of R80 over bits [37:8] of a word. -/
def crc8Of (w : Nat) : Nat :=
  (List.range 30).foldl (fun c i => crc8Step c (bitOf w (37 - i))) 0

/-- The XY-HD word of a line (R80). -/
def hdWord (line slot : Nat) (code : Int) : BitVec 40 :=
  let body := 2 * 2 ^ 38 + line * 2 ^ 36 + slot * 2 ^ 32 + low 24 code * 2 ^ 8
  BitVec.ofNat 40 (body + crc8Of body)

/-- The XY2-100 position of a code (R78). -/
def xy2Pos (code : Int) : Nat := (min 0xFFFF ((code + 8388608 + 128) / 256)).toNat

/-- Does a 20-bit frame hold an even number of ones? (R77) -/
def evenParity (w : Nat) : Bool := (List.range 20).foldl (fun p i => p != bitOf w i) false == false

/-- The XY2-100 frame of a code (R77). -/
def xy2Word (code : Int) : BitVec 40 :=
  let body := 2 ^ 17 + xy2Pos code * 2
  BitVec.ofNat 40 (if evenParity body then body else body + 1)

/-- Put codes on the port at slot `j` (R76 to R80), and remember them as sent. -/
def State.sendCodes (s : State) (b j : Nat) (c : Codes) : State :=
  s.modBeam b fun r =>
    { r with
      codes := c
      hist := ((j, c) :: r.hist).take 80
      wx := if r.hd then hdWord 0 j c.x else xy2Word c.x
      wy := if r.hd then hdWord 1 j c.y else xy2Word c.y
      wz := if r.hd then hdWord 2 j c.z else xy2Word c.z }

/-- Drive the gate low and the DAC to a code. -/
def State.darkOut (s : State) (b code : Nat) : State := s.modBeam b fun r => { r with gate := false, dac := code }

/-- The park codes of beam `b` (R105). -/
def State.parkCodes (s : State) (b : Nat) : Codes :=
  ⟨s.getI (BIO_PARK_X_CODE b), s.getI (BIO_PARK_Y_CODE b), s.getI (BIO_PARK_Z_CODE b)⟩

/-- One axis moves towards its park code by at most `step` (R105). -/
def parkStep (step : Nat) (c p : Int) : Int := c + clampI (-(step : Int)) step (p - c)

/-! ### Channel lifecycle (R87) -/

/-- A channel in STARTING enters READY once the generator is READY and, in XY-HD mode, the actual positions are valid. -/
def State.beamTryReady (s : State) (b : Nat) : State :=
  if s.get (BIO_STATUS_STATE b) = stSTARTING && s.volReady && (!(s.beam b).hd || s.flag (BIO_STATUS_ACT_VALID b)) then
    s.set (BIO_STATUS_STATE b) stREADY
  else s

/-- A channel leaves OFF: MODE is sampled, the return starts anew, the state is STARTING (R74, R82, R87). -/
def State.beamStart (b : Nat) (s : State) : State :=
  let hd := s.flag (BIO_CTRL_MODE b)
  let s := s.modBeam b fun r =>
    { r with hd := hd, codes := s.parkCodes b, rxDone := false, heard := false, actUpd := 0, lost := 0, lostTold := false,
             startVol := 0, hist := [], ssPend := 0, cur := .hold, next := .hold, gate := false, dac := 0 }
  let s := (s.setFlag (BIO_STATUS_ACT_VALID b) false).set (BIO_STATUS_STATE b) stSTARTING
  let s := if hd then s else ((s.wr (BIO_ACT_X b) 0).wr (BIO_ACT_Y b) 0).wr (BIO_ACT_Z b) 0
  s.beamTryReady b

/-- A channel enters OFF: its outputs go to their off levels (R87). -/
def State.beamOff (b : Nat) (s : State) : State :=
  (s.set (BIO_STATUS_STATE b) stOFF).modBeam b fun r =>
    { r with gate := false, dac := 0, cur := .hold, next := .hold, wx := 0, wy := 0, wz := 0 }

/-- EN cleared while STARTING or READY (R87): a running beam first completes a safe stop. -/
def State.beamStop (b : Nat) (s : State) : State :=
  if s.running b || s.ssInProgress b then
    (s.when (s.running b) fun t => t.ssRequest b 0xE).set (BIO_STATUS_STATE b) stSTOPPING
  else s.beamOff b

/-- PARKED completes the stop of a channel (R87, R576). -/
def State.beamStopDone (s : State) (b : Nat) : State :=
  if s.get (BIO_STATUS_STATE b) = stSTOPPING then s.beamOff b
  else if s.get (BIO_STATUS_STATE b) = stSTOPPING_RP then State.beamStart b (s.beamOff b)
  else s

/-- A register with an EN bit is written: the other bits take the written value, and EN acts through the lifecycle. -/
def State.wrEnable (s : State) (off : Nat) (v : Word) (en st : Fld) (start stop : State → State) : State :=
  let old := s.get en
  let s1 := (s.plainWrite off v).set en old
  s1.lifeWrite en st (fldOf en.lo en.w v != 0) start stop

/-- A write of BIOn_CTRL (R74, R87). -/
def wrBioCtrl (b : Nat) (v : Word) (s : State) : State :=
  let t := s.wrEnable (BIO_CTRL b) v (BIO_CTRL_EN b) (BIO_STATUS_STATE b) (State.beamStart b) (State.beamStop b)
  t.fromFault (BIO_STATUS_STATE b) (s.get (BIO_STATUS_STATE b)) (State.beamOff b)

/-- A write of BIOn_SP_CFG: OFFSET above 39 stores 39 (R75). -/
def wrSpCfg (b : Nat) (v : Word) (s : State) : State :=
  let s := s.plainWrite (BIO_SP_CFG b) v
  s.set (BIO_SP_CFG_OFFSET b) (min 39 (s.get (BIO_SP_CFG_OFFSET b)))

/-- Has the head of a starting channel answered (R87)? In XY-HD mode it has once its positions are valid, in XY2-100 mode once a
frame with correct parity has come (DESIGN CHOICE: assumption 86). -/
def State.headAnswered (s : State) (b : Nat) : Bool :=
  if (s.beam b).hd then s.flag (BIO_STATUS_ACT_VALID b) else (s.beam b).heard

/-- CHANNEL_START_TIMEOUT (R87): a head that has not answered after 100 edges in STARTING makes the channel enter FAULT
with HEAD_LOST set. -/
def channelStartTimeout (b : Nat) (s : State) : State :=
  if s.get (BIO_STATUS_STATE b) = stSTARTING && !s.headAnswered b && decide (100 ≤ (s.beam b).startVol) then
    let was := s.flag (BIO_STATUS_HEAD_LOST b)
    let s := (s.set (BIO_STATUS_STATE b) stFAULT).setFlag (BIO_STATUS_HEAD_LOST b) true
    let s := s.modBeam b fun r => { r with lostTold := true }
    s.when (!was) fun t => t.raise 0x04C b
  else s

/-! ### Head return (R81 to R86) -/

/-- The phase search has watched 10 slots, those sent since STARTING (R82). -/
def rxPhaseSearchDone (b : Nat) (phase : Nat) (s : State) : State :=
  if !s.isOff (BIO_STATUS_STATE b) && (s.beam b).hd && !(s.beam b).rxDone && decide (10 ≤ (s.beam b).hist.length) then
    (s.set (BIO_SP_CFG_RX_PHASE b) phase).modBeam b fun r => { r with rxDone := true }
  else s

/-- Has the phase search ended for the word that answers slot `j` (R82)? At least 10 slots were sent between STARTING and the slot
it answers. -/
def Beam.searched (r : Beam) (j : Nat) : Bool := decide (11 ≤ (r.hist.dropWhile fun e => e.1 != j).length)

/-- With HEAD_STOP, a head fault or loss stops a running beam (R86), at the word or the loss itself: a flag that is already set
stops no beam that starts later, nor one whose HEAD_STOP is set later (DESIGN CHOICE: assumption 87). -/
def State.headStop (s : State) (b : Nat) : State :=
  s.when (s.flag (BIO_CTRL_HEAD_STOP b) && s.running b) fun t => t.ssRequest b 6

/-- A status word is tested against MASK and EXP (R84). -/
def State.headStatus (s : State) (b v : Nat) : State :=
  let width := if (s.beam b).hd then 24 else 16
  let s := s.wr (BIO_HEAD_STAT b) (BitVec.ofNat 32 v)
  let m := s.get (BIO_HEAD_STAT_MASK_BITS b) % 2 ^ width
  if v &&& m = s.get (BIO_HEAD_STAT_EXP_BITS b) &&& m then s
  else ((s.setFlag (BIO_STATUS_HEAD_FAULT b) true).raise 0x04B b).headStop b

/-- The commanded code of an axis. -/
def Codes.axis (c : Codes) : Nat → Int
  | 0 => c.x
  | 1 => c.y
  | _ => c.z

/-- The codes of the slot LAG slots before the latest slot numbered `j` that the port sent (R258). -/
def lagCodes (j lag : Nat) (hist : List (Nat × Codes)) : Option Codes :=
  ((hist.dropWhile fun e => e.1 != j).drop lag).head?.map Prod.snd

/-- A valid ACT word enters the following-error figure of its Volley (R258). -/
def State.feUpdate (s : State) (b axis j : Nat) (code : Int) : State :=
  if s.running b && !s.flag (BIO_STATUS_SAFE b) && s.flag (BIO_STATUS_ACT_VALID b) && (s.beam b).hd then
    match lagCodes j (s.get ⟨CLE_B_FE_LAG b, 0, 6⟩) (s.beam b).hist with
    | some c =>
      let e := (code - c.axis axis).natAbs
      s.modBeam b fun r => { r with feCur := match r.feCur with
                                   | some (m, a) => if m < e then some (e, axis) else some (m, a)
                                   | none => some (e, axis) }
    | none => s
  else s

/-- A valid ACT word updates its axis; all three since STARTING make the positions valid (R83). -/
def State.actUpdate (s : State) (b axis j : Nat) (code : Int) : State :=
  let s := s.wr (match axis with | 0 => BIO_ACT_X b | 1 => BIO_ACT_Y b | _ => BIO_ACT_Z b) (wordOf code)
  let v := s.vnum
  let s := s.modBeam b fun r =>
    { r with actUpd := r.actUpd ||| (1#3 <<< axis)
             actVolX := if axis = 0 then v else r.actVolX
             actVolY := if axis = 1 then v else r.actVolY
             actVolZ := if axis = 2 then v else r.actVolZ }
  let s := s.when ((s.beam b).actUpd == 7#3) fun t => t.setFlag (BIO_STATUS_ACT_VALID b) true
  (s.feUpdate b axis j code).beamTryReady b

/-- STAT_WORD (R79, R81 to R84): the word that answers slot `slot`; in XY2-100 mode the 20-bit frame of R79. A frame with
wrong parity counts as a rejected return word (DEDUCED: assumption 10). -/
def statWord (b slot : Nat) (w : BitVec 40) (s : State) : State :=
  if s.isOff (BIO_STATUS_STATE b) then s
  else
    let n := w.toNat
    let reject (t : State) : State := (t.bumpSat (BIO_STAT_ERR_CNT b)).raise 0x04D b
    if (s.beam b).hd then
      if !(s.beam b).searched slot then s
      else
        let line := n / 2 ^ 36 % 4
        let want := if slot = 9 then 3 else slot % 3
        if n / 2 ^ 38 = 2 && crc8Of n == n % 256 && n / 2 ^ 32 % 16 == slot && line == want then
          let s := s.modBeam b fun r => { r with heard := true, lost := 0, lostTold := false }
          let code := n / 2 ^ 8 % 2 ^ 24
          if slot = 9 then s.headStatus b code else s.actUpdate b line slot (sgn 24 code)
        else reject s
    else if evenParity (n % 2 ^ 20) then
      (s.modBeam b fun r => { r with heard := true, lost := 0, lostTold := false }).headStatus b (n / 2 % 2 ^ 16)
    else reject s

/-- HEAD_LOST (R85): no valid word for 10 slots in XY-HD mode, or no good frame for 4 Volleys in XY2-100 mode. A loss acts once,
until a word arrives again; a head that has not sent one since STARTING is R87's to decide (DEDUCED: assumption 11). -/
def headLost (b : Nat) (s : State) : State :=
  if !s.isOff (BIO_STATUS_STATE b) && (s.get (BIO_STATUS_STATE b) != stSTARTING || (s.beam b).heard)
      && decide ((if (s.beam b).hd then 10 else 4) ≤ (s.beam b).lost) && !(s.beam b).lostTold then
    let was := s.flag (BIO_STATUS_HEAD_LOST b)
    let s := s.modBeam b fun r => { r with lostTold := true }
    let s := (s.setFlag (BIO_STATUS_HEAD_LOST b) true).setFlag (BIO_STATUS_ACT_VALID b) false
    (s.when (!was) fun t => t.raise 0x04C b).headStop b
  else s

/-! ### Laser inputs (R95, R96) -/

/-- The level test of R96 on beam `b`: it acts while the beam runs. The event is recorded where the level first stops the
beam or sets its flag (DEDUCED: assumption 12). -/
def State.laserTest (s : State) (b : Nat) : State :=
  if s.running b then
    let fresh (t : State) (f : Fld) : Bool := !t.flag f || !(t.flag (BIO_STATUS_SAFE b) || (t.beam b).ssPend != 0)
    let alm := s.flag (BIO_STATUS_ALM_LVL b)
    let nrdy := !s.flag (BIO_STATUS_RDY_LVL b)
    let fa := fresh s (BIO_STATUS_LASER_ALM b)
    let fn := fresh s (BIO_STATUS_LASER_NRDY b)
    let s := s.when alm fun t =>
      ((t.setFlag (BIO_STATUS_LASER_ALM b) true).when fa fun u => u.raise 0x04E b).ssRequest b 3
    s.when nrdy fun t =>
      ((t.setFlag (BIO_STATUS_LASER_NRDY b) true).when fn fun u => u.raise 0x04F b).ssRequest b 4
  else s

/-- In a cycle in which the beam runs onto a level that R96 names, the level's flag is set whatever software writes to it (R96,
R570). -/
def State.laserHold (s : State) (b : Nat) : State :=
  s.when (s.running b) fun t =>
    (t.when (t.flag (BIO_STATUS_ALM_LVL b)) fun u => u.setFlag (BIO_STATUS_LASER_ALM b) true).when
      (!t.flag (BIO_STATUS_RDY_LVL b)) fun u => u.setFlag (BIO_STATUS_LASER_NRDY b) true

/-- LASER_INPUT_CHANGE (R95, R96): the levels that have held for FILT samples. -/
def laserInputChange (b : Nat) (rdy alm : Bool) (s : State) : State :=
  let s := s.modBeam b fun r => { r with almRaw := alm }
  let s := s.setFlag (BIO_STATUS_RDY_LVL b) rdy
  let s := s.setFlag (BIO_STATUS_ALM_LVL b) (alm != s.flag (BIO_LASER_CFG_ALM_POL b))
  s.laserTest b

/-- A write of BIOn_LASER_CFG: the delays above 39 store 39 (R94); ALM_POL acts on the filtered level at once (R95). -/
def wrLaserCfg (b : Nat) (v : Word) (s : State) : State :=
  let s := s.plainWrite (BIO_LASER_CFG b) v
  let s := s.set (BIO_LASER_CFG_GATE_ON_DLY b) (min 39 (s.get (BIO_LASER_CFG_GATE_ON_DLY b)))
  let s := s.set (BIO_LASER_CFG_GATE_OFF_DLY b) (min 39 (s.get (BIO_LASER_CFG_GATE_OFF_DLY b)))
  let s := s.setFlag (BIO_STATUS_ALM_LVL b) ((s.beam b).almRaw != s.flag (BIO_LASER_CFG_ALM_POL b))
  s.laserTest b

/-! ### Photodiodes (R97 to R103) -/

/-- A write of BIO_PDn_CFG (R102). -/
def wrPdCfg (n : Nat) (v : Word) (s : State) : State :=
  s.wrEnable (BIO_PD_CFG n) v (BIO_PD_CFG_EN n) (BIO_PD_STATUS_STATE n)
    (fun t => t.set (BIO_PD_STATUS_STATE n) stSTARTING)
    (fun t => t.set (BIO_PD_STATUS_STATE n) stSTOPPING)

/-- The ADC code of an input of `vin` microvolts (R97); `err` is the chain's own error in codes. -/
def State.pdCode (s : State) (n : Nat) (vin err : Int) : Nat :=
  let g : Int := 2 ^ s.get (BIO_PD_CFG_GAIN n)
  let off := s.getI (BIO_PD_CFG_OFFSET n)
  (clampI 0 4095 ((vin - off * 117) * g * 4096 / 1200000 + err)).toNat

/-- PD_SAMPLE (R97 to R99, R103): one sample of channel `n`; a Volley has 100. -/
def pdSample (n : Nat) (vin err : Int) (s : State) : State :=
  let b := n / 2
  let en := !s.isOff (BIO_PD_STATUS_STATE n)
  let br := n % 2 == 1 && s.get (BIO_BR_CFG_COUNT b) != 0
  if (en || br) && decide ((s.pd n).cnt < 100) then
    let c := s.pdCode n vin err
    let gate := (s.beam b).gate
    let s := s.set ⟨BIO_PD_SAMPLE n, 0, 12⟩ c
    let s := s.modPd n fun r =>
      { r with sum := r.sum + c, cnt := r.cnt + 1, gated := r.gated + (if gate then 1 else 0), sat := r.sat || c == 4095 }
    let above := decide (s.get (BIO_BR_CFG_LIM b) ≤ c)
    s.when (n % 2 == 1 && (br || !above)) fun t => t.modBeam b fun r =>
      if above then { r with brRun := r.brRun + 1 } else { r with brRun := 0, brTrip := false }
  else s

/-- BACK_REFLECTION (R103): COUNT qualifying samples in a row; the trip acts once for each run. -/
def backReflection (b : Nat) (s : State) : State :=
  let count := s.get (BIO_BR_CFG_COUNT b)
  if count ≠ 0 && decide (count ≤ (s.beam b).brRun) && !(s.beam b).brTrip then
    let s := (s.modBeam b fun r => { r with brTrip := true }).darkOut b 0
    ((s.setFlag (BIO_STATUS_BR_TRIP b) true).raise 0x050 b).ssRequest b 5
  else s

/-- The record of the Volley that ends at this edge (R99, R100). -/
def State.pdRecord (s : State) (n : Nat) : Word :=
  let r := s.pd n
  let b := n / 2
  let inv := (s.beam b).cur == .dead || s.flag (BIO_STATUS_SAFE b) || !(r.whole && s.isReady (BIO_PD_STATUS_STATE n))
  BitVec.ofNat 32 ((r.sum * 16 + 50) / 100 + r.gated * 2 ^ 16 + (if r.sat then 2 ^ 24 else 0) + (if inv then 2 ^ 25 else 0))

/-- A photodiode channel at a Volley edge (R100, R102): an enabled channel makes its record, STARTING becomes READY and
STOPPING becomes OFF. -/
def State.pdEdge (n : Nat) (s : State) : State :=
  let st := BIO_PD_STATUS_STATE n
  let rcd := if s.isOff st then none else some (s.pdRecord n)
  let s :=
    if s.get st = stSTARTING then s.set st stREADY
    else s.stopDone st fun t => t.set st stSTARTING
  s.modPd n fun _ =>
    { sum := 0, cnt := 0, gated := 0, sat := false, whole := s.isReady st, rcd := rcd }

/-- The record is delivered at V+0.2 us (R100, R101). -/
def State.pdDeliver (n : Nat) (s : State) : State :=
  match (s.pd n).rcd with
  | none => s
  | some w =>
    let s := (s.wr (BIO_PD_VAL n) w).modPd n fun r => { r with rcd := none }
    s.when (bitOf w.toNat 24) fun t =>
      ((t.setFlag (BIO_PD_STATUS_SAT n) true).bumpSat (BIO_PD_SAT_CNT n)).raise 0x051 n

/-! ### Interlocks (R108 to R110) -/

/-- ILK_OPEN (R109, R110): an opening makes the force act and stops every running beam. -/
def ilkOpen (i : Nat) (s : State) : State :=
  let s := s.set ⟨SAF_ILK_STATUS, i, 1⟩ 0
  let s := s.set ⟨SAF_ILK_STATUS, 8 + i, 1⟩ 1
  let s := ((s.bumpSat (SAF_ILK_CNT i)).raise 0x300 i).setFlag SAF_ILK_STATUS_FORCE true
  let s := forN 32 (fun b t => t.darkOut b 0) s
  s.ssRequestRunning 2

/-- ILK_CLOSE (R108, R110): the input reads closed; the force stays. -/
def ilkClose (i : Nat) (s : State) : State := s.set ⟨SAF_ILK_STATUS, i, 1⟩ 1

/-- The level at interlock input `i` is now `high` (R108): the pin carries it, and LEVEL shows it, whether or not the device works
(R112, R113). -/
def State.ilkPin (s : State) (i : Nat) (high : Bool) : State :=
  { s with ilkLvl := s.ilkLvl - (if bitOf s.ilkLvl i then 2 ^ i else 0) + (if high then 2 ^ i else 0) }.setFlag ⟨SAF_ILK_STATUS, i, 1⟩ high

/-- A write of SAF_ILK_REARM (R110). -/
def wrIlkRearm (v : Word) (s : State) : State :=
  if v = 0x00005AF0#32 && s.get SAF_ILK_STATUS_LEVEL == 15 then
    s.when (s.flag SAF_ILK_STATUS_FORCE) fun t => (t.setFlag SAF_ILK_STATUS_FORCE false).raise 0x301 0
  else s.raise 0x302 0

/-- Writes of the registers of beam `b` that do more than store (R72 to R75, R87, R94 to R96). A write of GRID_ADDR is none of the
writes that R73 names, and is not refused (DESIGN CHOICE: assumption 88). -/
def wrBioReg (b r off : Nat) (v : Word) (s : State) : State :=
  match r with
  | 0x000 => wrBioCtrl b v s
  | 0x004 => (s.plainWrite off v).laserHold b
  | 0x008 => wrSpCfg b v s
  | 0x00C | 0x010 | 0x014 | 0x018 => wrHeadCfg b off v s
  | 0x020 =>
    if s.headCfgOpen b && decide (gridNodes ≤ s.get (BIO_GRID_ADDR_ADDR b)) then s else wrHeadCfg b off v s
  | 0x024 => wrGridHi b v s
  | 0x028 => wrLaserCfg b v s
  | _ => s.plainWrite off v

end Sys2Proof.Machine
end

