-- ==== Sys2Proof/Machine/Motion.lean ====
section
/-! DEFINITION. The motion of the Aimapor exposure instructions (R124 to R156): exact fixed-point arithmetic on lengths, speeds
and path time. Lengths and times carry 96 fraction bits, far below the 1 um of R128; path time is in units of 1/65,536 us
(R124). -/

namespace Sys2Proof.Machine

/-- The scale of fixed-point lengths and times. -/
def fx : Nat := 2 ^ 96

/-- Units of path time in one second (R124). -/
def ptSec : Nat := 65536000000

/-- Largest `r` with `r^p <= n`, found bit by bit from bit `i - 1`. -/
def rootBits (p n : Nat) : Nat → Nat → Nat
  | 0, r => r
  | i + 1, r => rootBits p n i (if (r + 2 ^ i) ^ p ≤ n then r + 2 ^ i else r)

/-- Whole part of the square root. -/
def isqrt (n : Nat) : Nat := rootBits 2 n (n.log2 / 2 + 1) 0

/-- Whole part of the cube root. -/
def icbrt (n : Nat) : Nat := rootBits 3 n (n.log2 / 3 + 1) 0

/-- Round a fixed-point value to the nearest whole number, halves towards plus infinity (R127). A value within 2^-60 below a
half counts as the half, since fixed-point parts are rounded down. -/
def fxRound (x : Int) : Int := (x + 2 ^ 95 + 2 ^ 36) / (fx : Int)

/-- A whole number as a fixed-point value. -/
def fxOf (n : Int) : Int := n * fx

/-- Product of two fixed-point values. -/
def fxMul (a b : Int) : Int := a * b / (fx : Int)

/-- Euclidean length of a fixed-point vector (R139). -/
def V3.len (v : V3) : Nat := isqrt (v.x * v.x + v.y * v.y + v.z * v.z).toNat

/-- Difference of two vectors. -/
def V3.sub (a b : V3) : V3 := ⟨a.x - b.x, a.y - b.y, a.z - b.z⟩

/-- Sum of two vectors. -/
def V3.add (a b : V3) : V3 := ⟨a.x + b.x, a.y + b.y, a.z + b.z⟩

/-- A whole-number position as a fixed-point vector. -/
def V3.up (a : V3) : V3 := ⟨fxOf a.x, fxOf a.y, fxOf a.z⟩

/-- The point at distance `s` along a direction (R139); a direction of length 0 gives the start. -/
def V3.along (p d : V3) (s : Int) : V3 :=
  let n : Int := d.len
  if n = 0 then p else ⟨p.x + d.x * s / n, p.y + d.y * s / n, p.z + d.z * s / n⟩

/-- Each coordinate rounded under R127. -/
def V3.round (a : V3) : V3 := ⟨fxRound a.x, fxRound a.y, fxRound a.z⟩

/-- May a position be output? (R65) -/
def V3.inRange (a : V3) : Bool :=
  let ok (v : Int) : Bool := decide (-1024000 ≤ v) && decide (v ≤ 1024000)
  ok a.x && ok a.y && ok a.z

/-! ### Jerk-limited profiles (R137, R138) -/

/-- The limits of a profile: speed in um/s, acceleration in um/s^2, jerk in um/s^3. -/
def Lim.ofRegs (v a j : Nat) : Lim := ⟨orOne v, orOne a * 1000, orOne j * 1000000⟩

/-- Is the peak speed of a ramp high enough for a constant-acceleration part? (R137) -/
def rampLong (l : Lim) (v : Nat) : Bool := decide (l.a * l.a * fx ≤ v * l.j)

/-- Duration of one jerk part of the ramp to `v` (fixed-point speed), in fixed-point seconds (R137). -/
def rampTj (l : Lim) (v : Nat) : Nat :=
  if rampLong l v then l.a * fx / l.j else isqrt (v * fx / l.j)

/-- Duration of the ramp from rest to `v` (R137). -/
def rampT (l : Lim) (v : Nat) : Nat :=
  if rampLong l v then v / l.a + l.a * fx / l.j else 2 * rampTj l v

/-- Distance of the ramp from rest to `v` (R137). -/
def rampD (l : Lim) (v : Nat) : Nat :=
  if rampLong l v then v * (v * l.j + l.a * l.a * fx) / (2 * l.a * l.j) / fx
  else isqrt (v * v * v / (l.j * fx))

/-- Distance covered `t` after the start of the ramp to `v` (R137). -/
def rampS (l : Lim) (v t : Nat) : Nat :=
  let tj := rampTj l v
  let tr := rampT l v
  let jerk (x : Nat) : Nat := l.j * x * x * x / (6 * fx * fx)
  if t ≤ tj then jerk t
  else if t ≤ tr - tj then
    let u := t - tj
    jerk tj + (l.j * tj * tj / (2 * fx)) * u / fx + l.a * u * u / (2 * fx)
  else rampD l v + jerk (tr - t) - v * (tr - t) / fx

/-- Peak speed of the jump over `d` (R138): the limit, or the speed whose two ramps just cover `d`. -/
def jumpPeak (l : Lim) (d : Nat) : Nat :=
  let vmax := l.v * fx
  if 2 * rampD l vmax ≤ d then vmax
  else
    let ratio := l.a * l.a * fx / l.j
    if 4 * l.a * l.a * l.a * fx ≤ 2 * d * l.j * l.j then
      (isqrt (ratio * ratio + 4 * l.a * d * fx) - ratio) / 2
    else icbrt (d * d * l.j * fx / 4)

/-- Duration of the jump over `d` in fixed-point seconds (R138). -/
def jumpT (l : Lim) (d : Nat) : Nat :=
  if d = 0 then 0
  else
    let vmax := l.v * fx
    if 2 * rampD l vmax ≤ d then
      if rampLong l vmax then d / l.v + vmax / l.a + l.a * fx / l.j
      else d / l.v + 2 * isqrt (vmax * fx / l.j)
    else if 4 * l.a * l.a * l.a * fx ≤ 2 * d * l.j * l.j then
      let aj := l.a * fx / l.j
      aj + isqrt (aj * aj + 4 * d * fx / l.a)
    else 4 * icbrt (d * fx * fx / (2 * l.j))

/-- Distance covered `t` after the start of the jump over `d` (R138). -/
def jumpS (l : Lim) (d t : Nat) : Nat :=
  let v := jumpPeak l d
  let tr := rampT l v
  let tt := jumpT l d
  if tt ≤ t then d
  else if t < tr then min d (rampS l v t)
  else if t ≤ tt - tr then min d (rampD l v + v * (t - tr) / fx)
  else d - min d (rampS l v (tt - t))

/-- A duration in fixed-point seconds as whole units of path time, rounded up (R124). -/
def toUnits (t : Nat) : Nat := ceilDiv (t * ptSec) fx

/-- Units of path time as fixed-point seconds. -/
def toSecs (u : Nat) : Nat := u * fx / ptSec

/-! ### Angles -/

/-- pi with 96 fraction bits, rounded to the nearest. -/
def fxPi : Nat := 248902613312231085230521944622

/-- Terms of the sine series at `x` (fixed-point radians of at most one eighth of a turn). -/
def sinSeries (x : Int) : Int :=
  ((List.range 20).foldl (fun (acc : Int × Int) i =>
    (acc.1 + acc.2, -(fxMul (fxMul acc.2 x) x) / ((2 * i + 2) * (2 * i + 3) : Nat))) (0, x)).1

/-- Terms of the cosine series. -/
def cosSeries (x : Int) : Int :=
  ((List.range 20).foldl (fun (acc : Int × Int) i =>
    (acc.1 + acc.2, -(fxMul (fxMul acc.2 x) x) / ((2 * i + 1) * (2 * i + 2) : Nat))) (0, (fx : Int))).1

/-- Cosine and sine of `n / d` of a turn, in fixed point; exact at whole quarter turns. -/
def cosSin (n : Int) (d : Nat) : Int × Int :=
  let m := (n % (d : Int)).toNat           -- within one turn
  let q := (4 * m + d / 2) / d             -- nearest quarter turn
  let r : Int := 4 * (m : Int) - q * d     -- rest, in quarter turns over d
  let x := r * (fxPi : Int) / (2 * d)
  let c := cosSeries x
  let s := sinSeries x
  match q % 4 with
  | 0 => (c, s)
  | 1 => (-s, c)
  | 2 => (-c, -s)
  | _ => (s, -c)

/-- A vector turned by an angle given by its cosine and sine, in the XY plane. -/
def V3.turn (v : V3) (cs : Int × Int) : V3 :=
  ⟨fxMul v.x cs.1 - fxMul v.y cs.2, fxMul v.x cs.2 + fxMul v.y cs.1, v.z⟩

/-- The direction of a vector projected onto the XY plane, of unit length; +X where the projection is zero (R152). -/
def V3.unitXY (v : V3) : Int × Int :=
  let n : Int := isqrt (v.x * v.x + v.y * v.y).toNat
  if n = 0 then ((fx : Int), 0) else (v.x * fx / n, v.y * fx / n)

/-! ### Segments -/

/-- Duration of a MARK of length `d` (fixed point) at `sp` um/s, in units of path time (R142). -/
def markUnits (d sp : Nat) : Nat := ceilDiv (ceilDiv (d * ptSec) fx) sp

/-- The sweep of an ARC in thousandths of a degree is `theta`; its duration in units of path time (R145). -/
def arcUnits (r : Nat) (theta : Int) (sp : Nat) : Nat :=
  ceilDiv (r * theta.natAbs * fxPi * ptSec / (180000 * sp)) (fx * fx)

/-- The tangent of an arc at a radius vector, in the direction of the sweep. -/
def V3.tangent (r : V3) (theta : Int) : V3 := if 0 ≤ theta then ⟨-r.y, r.x, 0⟩ else ⟨r.y, -r.x, 0⟩

/-- Where a segment of duration `tau` is `u` units after its start (R138, R139, R141, R142, R145, R148, R149), and the
direction of travel there. -/
def Seg.pos (seg : Seg) (tau u : Nat) : V3 × V3 :=
  match seg with
  | .none => (⟨0, 0, 0⟩, ⟨0, 0, 0⟩)
  | .hold p dir => (p.up, dir)
  | .jump p t l =>
    let d := t.sub p
    (p.along d (jumpS l d.len (toSecs u)), d)
  | .line p d sp => (p.along d (min d.len (sp * fx * u / ptSec)), d)
  | .arc c r theta =>
    let cs := cosSin (theta * u) (360000 * tau)
    let v := r.turn cs
    (c.add v, v.tangent theta)
  | .skyIn p st dir run v l =>
    -- the jump to the run start, then the ramp to v, then travel at v (R148)
    let d := st.sub p
    let t := toSecs u
    let tj := jumpT l d.len
    if t < tj then (p.along d (jumpS l d.len t), d)
    else
      let ls : Lim := run.lim
      let tr := rampT ls v
      let w := t - tj
      let s := if w < tr then rampS ls v w else rampD ls v + v * (w - tr) / fx
      (st.along dir (min run.len s), dir)
  | .skyOut p dir run v =>
    -- travel at v, then the ramp to rest (R149)
    let ls : Lim := run.lim
    let tc := (run.len - rampD ls v) * fx / v
    let tr := rampT ls v
    let t := toSecs u
    let s := if t ≤ tc then v * t / fx
             else if t < tc + tr then run.len - rampS ls v (tc + tr - t)
             else run.len
    (p.along dir s, dir)

end Sys2Proof.Machine
end

