-- ==== Sys2Proof/Machine/EngBase.lean ====
section
/-! DEFINITION. What every Scan Engine step shares (R114 to R133, R190, R191): the engine's record, its local memory, traps,
the end of issue, and placing a point. -/

namespace Sys2Proof.Machine

/-- The engine's record. -/
def State.eng (s : State) (b : Nat) : Eng := recGet s.engs b

/-- Change an engine's record. -/
def State.modEng (s : State) (b : Nat) (f : Eng → Eng) : State := { s with engs := recSet s.engs b (f (s.eng b)) }

/-- Unpredictable values taken so far; each use takes the next. -/
def State.nextFresh (s : State) : State := { s with fresh := s.fresh + 1 }

/-! ### Local memory (R6, R117 to R122) -/

/-- Where local memory address `a` of engine `b` lies in the register space (R6). -/
def lmOff (b a : Nat) : Nat := 0x300000 + b * 0x10000 + a % 0x10000

/-- Is the page of local address `a` present? (R118) -/
def State.present (s : State) (b a : Nat) : Bool :=
  let p := a % 0x10000 / 0x400
  if p < 32 then bitOf (s.rdN (SCN_PAGE_LO b)) p else bitOf (s.rdN (SCN_PAGE_HI b)) (p - 32)

/-- A little-endian word of local memory. -/
def State.lmWord (s : State) (b a : Nat) : Word := BitVec.ofNat 32 (leNat (memTake s.lmem (lmOff b a) 4))

/-- An instruction word of local memory (R117). -/
def State.lmInstr (s : State) (b a : Nat) : BitVec 64 := BitVec.ofNat 64 (leNat (memTake s.lmem (lmOff b a) 8))

/-- The words that engine `b` has fetched ahead, by address (R120). -/
def State.words (s : State) (b : Nat) : List (Nat × BitVec 64) := tabGet (fun _ => []) s.fetched b

/-- Give the words fetched ahead. -/
def State.setWords (s : State) (b : Nat) (l : List (Nat × BitVec 64)) : State :=
  { s with fetched := tabSet (fun _ => []) s.fetched b l }

/-- The instruction word at address `a` as the engine would run it: one already fetched runs as fetched (R120), any other is read
from local memory once its page is present (R119). -/
def State.wordAt (s : State) (b a : Nat) : Option (BitVec 64) :=
  match (s.words b).find? fun x => x.1 == a % 0x10000 with
  | some x => some x.2
  | none => if s.present b a then some (s.lmInstr b a) else none

/-- The words that the engine holds once it has fetched the instruction at `pc` and `n` words ahead of it or more (R120): that word,
which stays fetched until it has issued (DEDUCED: assumption 124), and those after it in sequence; the ones already fetched as they were. -/
def State.prefetch (s : State) (b pc n : Nat) : State :=
  let seq := (List.range (n + 1)).map fun i => (pc + 8 * i) % 0x10000
  let window := (List.range 5).map fun i => (pc + 8 * i) % 0x10000
  s.setWords b (window.filterMap fun a =>
    match (s.words b).find? fun x => x.1 == a with
    | some x => some x
    | none => if seq.contains a && s.present b a then some (a, s.lmInstr b a) else none)

/-- Store a word in local memory. -/
def State.lmStore (s : State) (b a : Nat) (v : Word) : State :=
  { s with lmem := memPut s.lmem (lmOff b a) (leBytes 4 v.toNat) }

/-- The present bits of pages `first` to `first + count - 1`; pages above 63 are ignored (R118). -/
def pageMask (first count : Nat) : Nat := (2 ^ (first + count) - 2 ^ first) % 2 ^ 64

/-- A write of SCNn_PAGE_CLR (R118): the present bits clear, and the words fetched from those pages are discarded (R120). -/
def wrPageClr (b : Nat) (v : Word) (s : State) : State :=
  let old := s.rd64 (SCN_PAGE_LO b)
  let m := pageMask (fldOf 0 6 v) (orOne (fldOf 8 7 v))
  (s.wr64 (SCN_PAGE_LO b) (old ^^^ (old &&& m))).setWords b ((s.words b).filter fun x => !bitOf m (x.1 / 0x400))

/-! ### Engine registers -/

/-- General register `g` (R114). -/
def State.gReg (s : State) (b g : Nat) : Word := s.rd (SCN_G b g)

/-- The program position (R116). -/
def State.ppos (s : State) (b : Nat) : V3 := ⟨s.rdI (SCN_PX b), s.rdI (SCN_PY b), s.rdI (SCN_PZ b)⟩

/-- Set the program position. -/
def State.setPpos (s : State) (b : Nat) (p : V3) : State :=
  ((s.wr (SCN_PX b) (wordOf p.x)).wr (SCN_PY b) (wordOf p.y)).wr (SCN_PZ b) (wordOf p.z)

/-- The marking speed; 0 acts as 1 (R159). -/
def State.spd (s : State) (b : Nat) : Nat := orOne (s.get (SCN_SP_SP b))

/-- The jump limits (R141, R157). -/
def State.jumpLim (s : State) (b : Nat) : Lim :=
  Lim.ofRegs (s.rdN (SCN_JUMP_V b)) (s.rdN (SCN_JUMP_A b)) (s.rdN (SCN_JUMP_J b))

/-- The skywriting limits (R148). -/
def State.skyLim (s : State) (b : Nat) : Lim := Lim.ofRegs 1 (s.rdN (SCN_SKY_A b)) (s.rdN (SCN_SKY_J b))

/-- WAIT codes of R160. -/
def State.setWait (s : State) (b w : Nat) : State := s.set (SCN_STATUS_WAIT b) w

/-- The point interval in units of path time (R125). -/
def Eng.delta (e : Eng) : Nat := if e.hd then 65536 else 655360

/-- Points that one Volley needs (R129). -/
def Eng.ppv (e : Eng) : Nat := if e.hd then 10 else 1

/-- Does the current instruction own the next point? (R126, R130) -/
def Eng.owns (e : Eng) : Bool := e.openEnd || decide (e.k * e.delta < e.te)

/-- The Volley in which point `k` is emitted if no dead ball occurs from now on (R129, R41). -/
def Eng.emitVolley (e : Eng) (k : Nat) : Nat := e.start + 1 + k / e.ppv + e.lost

/-- The first point that is emitted in slot 0 of Volley `v`, if no dead ball occurs from now on (R129). -/
def Eng.firstOf (e : Eng) (v : Nat) : Nat := (v - (e.start + 1 + e.lost)) * e.ppv

/-- The address of the instruction that the engine executes (R46): the owner of the next point, or the one it has yet to
complete. -/
def State.execPc (s : State) (b : Nat) : Nat :=
  if (s.eng b).owns then (s.eng b).segPc else s.get (SCN_PC_PC b)

/-! ### Traps and the end of issue -/

/-- Trap causes of R192. -/
def tcIllegal : Nat := 1
/-- BED_RANGE (R192). -/
def tcBed : Nat := 2
/-- OPERAND_RANGE (R192). -/
def tcOperand : Nat := 3
/-- MEM_RANGE (R192). -/
def tcMem : Nat := 4
/-- ARC_GEOMETRY (R192). -/
def tcArc : Nat := 5
/-- SKY_SEQUENCE (R192). -/
def tcSky : Nat := 6
/-- CALL_STACK (R192). -/
def tcCall : Nat := 7
/-- LOOP_STACK (R192). -/
def tcLoop : Nat := 8
/-- COURT_SEQUENCE (R192). -/
def tcCourtSeq : Nat := 9
/-- COURT_LIMIT (R192). -/
def tcCourtLim : Nat := 10
/-- SYNC_MISMATCH (R192). -/
def tcSync : Nat := 11
/-- COURT_CHECK (R192). -/
def tcCheck : Nat := 12
/-- SOFTWARE (R192). -/
def tcSoft : Nat := 13

/-- A trap of the instruction at `pc` (R191): issue stops, the cause is recorded and the beam enters safe stop. -/
def State.trapAt (s : State) (b cause pc : Nat) (info : Word) : State :=
  let s := s.modEng b fun e => { e with stopped := true, wait := .none, ready := none, fillB := none }
  let s := ((s.set (SCN_TRAP_CAUSE b) cause).set (SCN_TRAP_PC b) pc).wr (SCN_TRAP_INFO b) info
  (((s.setFlag (SCN_STATUS_TRAPPED b) true).setWait b 0).raise 0x055 b).ssRequest b 0xD

/-- A trap of the instruction now issuing. -/
def State.trap (s : State) (b cause : Nat) (info : Word := 0) : State := s.trapAt b cause (s.get (SCN_PC_PC b)) info

/-- Every region of the claim set is released as RELEASE.ALL does (R178, R190): a granted region leaves after the points
placed so far have been emitted, an ungranted one at the next round. -/
def Eng.releaseAll (e : Eng) : Eng :=
  { e with claims := e.claims.map fun c =>
      if c.relAt.isSome then c else { c with relAt := some (if c.granted then e.placed else 0) } }

/-- A gate-low repeat that HALT places (R190). -/
def Eng.fillPt (e : Eng) (p : V3) (pc i : Nat) : Pt :=
  { x := p.x, y := p.y, z := p.z, pw := 0, g := false, setp := [], camw := [], n := e.placed + i, slot := none, pc := pc }

/-- Issue ends as if HALT with this code had issued (R190, R338, R620): the buffer is filled with gate-low repeats, the claim
set empties, and the next merge takes the last buffer. The window's used cycles are `cyc` where the fill makes the buffer full
(R195). A repeat of a position out of range would reach the output stage, and traps in its place (R65, R131; DEDUCED: assumption
89). -/
def State.haltEng (s : State) (b code cyc : Nat) : State :=
  let pc := s.execPc b
  let p := (s.eng b).last.getD (s.ppos b)
  if (s.eng b).buf.length < (s.eng b).ppv ∧ !p.inRange then s.trapAt b tcBed pc 0
  else
    let s := s.modEng b fun e =>
      let miss := e.ppv - e.buf.length
      let fill := (List.range miss).map (e.fillPt p pc)
      let e1 := e.releaseAll
      { e1 with
        buf := e.buf ++ fill, placed := e.placed + miss, stopped := true, halting := true, openEnd := false,
        te := min e.te (e.k * e.delta), wait := .none, paused := false, holdReq := 0,
        full := some (e.full.getD cyc), ready := none, fillB := none }
    (s.wr (SCN_HALT_CODE b) (BitVec.ofNat 32 code)).setWait b 0

/-- A safe stop halts the engine (R105): its buffer and every point not yet sent are discarded; values that travel with
discarded points take effect at the next edge (R186, R187). -/
def State.safeHalt (s : State) (b : Nat) : State :=
  if s.running b then
    let e := s.eng b
    let setp := (e.buf.map Pt.setp).flatten ++ e.pendS
    let camw := (e.buf.map Pt.camw).flatten ++ e.pendC
    let s := s.modBeam b fun r => { r with setpN := r.setpN ++ setp, camwN := r.camwN ++ camw }
    let s := s.modEng b fun e =>
      { e with buf := [], pendS := [], pendC := [], stopped := true, halting := false, openEnd := false,
               te := min e.te (e.k * e.delta), wait := .none, ended := .safe, used := 0, full := none, holdReq := 0,
               ready := none, fillB := none }
    let s := (s.setFlag (SCN_STATUS_RUN b) false).setWait b 0
    -- a function in STOPPING enters OFF in this cycle (R620), and its present bits clear (R118)
    s.when (s.get (SCN_STATUS_STATE b) == stSTOPPING || s.get (SCN_STATUS_STATE b) == stSTOPPING_RP) fun t =>
      (t.stopDone (SCN_STATUS_STATE b) fun u => u.set (SCN_STATUS_STATE b) stREADY).wr64 (SCN_PAGE_LO b) 0
  else s

/-! ### The lifecycle of the engine function (R620) and its registers (R123) -/

/-- Cycles that an engine has spent since its last instruction or point where no operand says so (R195; DESIGN CHOICE: assumption
90): not more than a window has. -/
def State.waited (s : State) : Nat := (Config.waited s.fresh).val

/-- A write of SCNn_CTRL (R620): READY in the next cycle; clearing EN while the engine runs ends issue as HALT #0xFFFF does, and a
paused beam's buffers are taken again. `wait` is the number of cycles waited since the last instruction or point. -/
def wrScnCtrl (b wait : Nat) (v : Word) (s : State) : State :=
  let st := SCN_STATUS_STATE b
  s.wrEnable (SCN_CTRL b) v (SCN_CTRL_EN b) st
    (fun t => t.set st stREADY)
    (fun t =>
      if t.running b then
        let t := t.set st stSTOPPING
        if (t.eng b).stopped then
          (t.modEng b fun e => { e with paused := false, holdReq := 0 }).wr (SCN_HALT_CODE b) 0xFFFF
        else t.haltEng b 0xFFFF ((t.eng b).used + wait)
      else (t.set st stOFF).wr64 (SCN_PAGE_LO b) 0)

/-- A write of an engine register that software can write only while the engine is not running, nor starting in this cycle (R123). -/
def wrScnState (b off : Nat) (v : Word) (s : State) : State :=
  if s.inUse b then (s.setFlag (SCN_STATUS_CFG_REFUSED b) true).raise 0x053 b
  else
    let s := s.plainWrite off v
    if off = SCN_PC b then s.set (SCN_PC_PC b) (s.get (SCN_PC_PC b) / 8 * 8)
    else if off = SCN_JUMP_V b then s.wr off (BitVec.ofNat 32 (min 40000000 (s.rdN off)))
    else s

end Sys2Proof.Machine
end

