-- ==== Sys2Proof/Machine/Court.lean ====
section
/-! DEFINITION. The Court Arbiter (R201 to R238): tiles and the rules between them, claims and takes, the round, pools and
their slots, the Court check, the rework log, and the barriers that the rounds release (R182). -/

namespace Sys2Proof.Machine

/-- The pool's record. -/
def State.pool (s : State) (p : Nat) : Pool := recGet s.pools p

/-- Change a pool's record. -/
def State.modPool (s : State) (p : Nat) (f : Pool → Pool) : State := { s with pools := recSet s.pools p (f (s.pool p)) }

/-- Slot states of R226. -/
def slFREE : Nat := 0
/-- HELD (R226). -/
def slHELD : Nat := 1
/-- DONE (R226). -/
def slDONE : Nat := 2
/-- RETIRED (R226). -/
def slRETIRED : Nat := 3

/-- The state of slot `i` of pool `p`. -/
def State.slotState (s : State) (p i : Nat) : Nat := tabGet (fun _ => 0) s.slotSt (p * 4096 + i)

/-- Change a slot's state. -/
def State.setSlot (s : State) (p i v : Nat) : State := { s with slotSt := tabSet (fun _ => 0) s.slotSt (p * 4096 + i) v }

/-- Is any Scan Engine running? (R206, R28) -/
def State.anyRunning (s : State) : Bool := (List.range 32).any s.running

/-! ### Tiles and regions (R201 to R205, R174) -/

/-- Tile width in um; 0 acts as 1 (R237). -/
def State.tw (s : State) : Nat := orOne (s.get ARB_MAP_TILE_TW)
/-- Tile height in um. -/
def State.th (s : State) : Nat := orOne (s.get ARB_MAP_TILE_TH)
/-- Configured columns (R201). -/
def State.cols (s : State) : Nat := s.get ARB_MAP_GEOM_COLS_M1 + 1
/-- Configured rows (R201). -/
def State.rows (s : State) : Nat := s.get ARB_MAP_GEOM_ROWS_M1 + 1

/-- The tile of a position (R202). -/
def State.tileOf (s : State) (x y : Int) : Option (Nat × Nat) :=
  let place (d : Int) (w n : Nat) : Int := if d = (n * w : Nat) then (n : Int) - 1 else d / (w : Int)
  let c := place (x - s.rdI ARB_MAP_X0) s.tw s.cols
  let r := place (y - s.rdI ARB_MAP_Y0) s.th s.rows
  if 0 ≤ c ∧ c < s.cols ∧ 0 ≤ r ∧ r < s.rows then some (c.toNat, r.toNat) else none

/-- The Court Map entry of tile (c, r) (R201, R203). -/
def State.tileEntry (s : State) (t : Nat × Nat) : Nat := s.rd64 (COURT_MAP (2 * (t.2 * 128 + t.1)))

/-- The REACH of an entry (R203). -/
def entReach (e b : Nat) : Bool := bitOf e b
/-- The cool-down of an entry. -/
def entCool (e : Nat) : Nat := e / 2 ^ 32 % 4096
/-- The kind of an entry; an entry that is not valid acts as OFF (R204, R205). -/
def entKind (e : Nat) : Nat :=
  let k := e / 2 ^ 44 % 4
  if k = 3 ∨ e / 2 ^ 51 ≠ 0 then 0 else k
/-- The gas sector of an entry. -/
def entGsel (e : Nat) : Nat := e / 2 ^ 46 % 4
/-- Does the tile take part in the gas-flow rule? -/
def entGas (e : Nat) : Bool := bitOf e 48
/-- The separation class of an entry. -/
def entSsel (e : Nat) : Nat := e / 2 ^ 49 % 4

/-- First column, first row, width and height of a region word (R174). -/
def regParts (w : Nat) : Nat × Nat × Nat × Nat :=
  (w % 128, w / 2 ^ 8 % 128, w / 2 ^ 16 % 16 + 1, w / 2 ^ 24 % 16 + 1)

/-- Is a region word valid under R174? -/
def State.regionOk (s : State) (w : Nat) : Bool :=
  let (c, r, wd, ht) := regParts w
  (w &&& 0xF0F08080 == 0) && decide (c + wd ≤ s.cols) && decide (r + ht ≤ s.rows)

/-- Does a region cover a tile? -/
def covers (w : Nat) (t : Nat × Nat) : Bool :=
  let (c, r, wd, ht) := regParts w
  decide (c ≤ t.1) && decide (t.1 < c + wd) && decide (r ≤ t.2) && decide (t.2 < r + ht)

/-- The tiles of a region. -/
def tilesOf (w : Nat) : List (Nat × Nat) :=
  let (c, r, wd, ht) := regParts w
  (List.range ht).flatMap fun j => (List.range wd).map fun i => (c + i, r + j)

/-! ### The rules (R208 to R212) -/

/-- Regions that beam `b` holds: granted claims and held slots. -/
def State.heldRegions (s : State) (b : Nat) : List Nat :=
  let e := s.eng b
  (e.claims.filter Claim.granted).map Claim.region ++ e.held.map Held.region

/-- Is a tile held by a beam? -/
def State.holds (s : State) (b : Nat) (t : Nat × Nat) : Bool := (s.heldRegions b).any fun w => covers w t

/-- The beam that holds a tile (R208). -/
def State.holder (s : State) (t : Nat × Nat) : Option Nat := (List.range 32).find? fun b => s.holds b t

/-- Separation conflict of two tiles (R210). -/
def State.sepConflict (s : State) (t h : Nat × Nat) : Bool :=
  let gap (a b w : Nat) : Nat := (max a b - min a b - 1) * w
  let gx := gap t.1 h.1 s.tw
  let gy := gap t.2 h.2 s.th
  let sep (u : Nat × Nat) : Nat := s.get (ARB_SEP_SEP (entSsel (s.tileEntry u)))
  let d := max (sep t) (sep h)
  decide (gx * gx + gy * gy < d * d)

/-- Does tile `t` lie in the downstream sector of tile `h`? (R211) -/
def State.downstream (s : State) (t h : Nat × Nat) : Bool :=
  let e := s.tileEntry h
  let k := entGsel e
  let len := s.get (ARB_GAS_LEN_LEN k)
  let dx : Int := ((t.1 : Int) - h.1) * s.tw
  let dy : Int := ((t.2 : Int) - h.2) * s.th
  let dot := dx * s.getI (ARB_GAS_DIR_UX k) + dy * s.getI (ARB_GAS_DIR_UY k)
  let c : Int := s.get (ARB_GAS_COS_COS k)
  let d2 := dx * dx + dy * dy
  entGas e && len != 0 && d2 != 0 && decide (d2 ≤ (len : Int) * len) && decide (0 ≤ dot) && decide (c * c * d2 ≤ dot * dot)

/-- The first rule of R209, item 3 on, that a tile fails for beam `b`, given the reservations of the round. -/
def State.tileRule (s : State) (resv : List (Nat × Nat)) (b : Nat) (t : Nat × Nat) : Option Nat :=
  let others := (List.range 32).filter (· != b)
  let heldT := others.flatMap fun o => (s.heldRegions o).flatMap tilesOf
  let resT := (resv.filter fun r => r.2 != b).flatMap fun r => tilesOf r.1
  if heldT.any (· == t) then some 3
  else if resT.any (· == t) then some 4
  else if tabGet (fun _ => 0) s.cool (t.2 * 128 + t.1) ≠ 0 then some 5
  else if (heldT ++ resT).any (s.sepConflict t) then some 6
  else if (heldT ++ resT).any (fun h => s.downstream t h || s.downstream h t) then some 7
  else none

/-- The least rule number among the tiles that fail one. -/
def leastRule (l : List (Option Nat)) : Option Nat :=
  l.foldl (fun acc x => match acc, x with
    | some a, some c => some (min a c)
    | some a, none => some a
    | none, x => x) none

/-- The first rule of R209, item 3 on, that any tile of a region fails. -/
def State.regionRule (s : State) (resv : List (Nat × Nat)) (b w : Nat) : Option Nat :=
  leastRule ((tilesOf w).map (s.tileRule resv b))

/-- Items 1 and 2 of R209 for a claim: every tile OPEN and within reach (R219). -/
def State.claimAllowed (s : State) (b w : Nat) : Bool :=
  (tilesOf w).all fun t => let e := s.tileEntry t; entKind e == 1 && entReach e b

/-- Items 1 and 2 of R209 for a take: a slot staged before a write of ARB_MAP_GEOM is judged by the entries of its tiles, wherever they lie
now (DESIGN CHOICE: assumption 110). -/
def State.takeAllowed (s : State) (b w : Nat) : Bool :=
  (tilesOf w).all fun t => let e := s.tileEntry t; (entKind e == 1 || entKind e == 2) && entReach e b

/-! ### The rework log (R233 to R235) -/

/-- Write the words of a 32-byte log record. -/
def State.logWords (s : State) (base : Nat) : List Nat → State
  | [] => s
  | w :: ws => State.logWords (s.wr base (BitVec.ofNat 32 w)) (base + 4) ws

/-- A retirement appends a record to the rework log and records its event (R233 to R235). -/
def State.retire (s : State) (pool slot reason beam vid onpts : Nat) (lx ly : Int) : State :=
  let v := s.vnum
  let s := s.setSlot pool slot slRETIRED
  let s := s.raise (if reason = 2 ∨ reason = 3 then 0x083 else 0x082) pool (BitVec.ofNat 32 slot)
  let wr := s.rdN ARB_RWLOG_WR % 256
  let rd := s.rdN ARB_RWLOG_RD % 256
  if (wr + 1) % 256 = rd then
    let was := s.flag ARB_STATUS_RWLOG_FULL
    let s := (s.bumpSat ARB_RWLOG_DROP).setFlag ARB_STATUS_RWLOG_FULL true
    s.when (!was) fun t => t.raise 0x084 0
  else
    let s := s.logWords (0x0B8000 + wr * 0x20)
      [v, v / 2 ^ 32, vid, slot % 4096 + reason * 2 ^ 12 + pool * 2 ^ 16 + beam * 2 ^ 24, low 32 lx, low 32 ly, onpts, 0]
    s.wr ARB_RWLOG_WR (BitVec.ofNat 32 ((wr + 1) % 256))

/-- A held slot ends without a pass: not started goes back to FREE, started is retired (R232). -/
def State.dropHeld (s : State) (b : Nat) (h : Held) (reason : Nat) : State :=
  if h.onpts = 0 then s.setSlot h.pool h.slot slFREE
  else s.retire h.pool h.slot reason b h.vid h.onpts h.lastx h.lasty

/-- A write of an index register that frees log records: a value outside the held range changes nothing (R62, R233). The value is the
word written: one with bits set above INDEX lies outside the range (DESIGN CHOICE: assumption 105). -/
def wrLogIndex (rdOff wrOff size : Nat) (v : Word) (s : State) : State :=
  let rd := s.rdN rdOff % size
  let wr := s.rdN wrOff % size
  if v.toNat < size ∧ (v.toNat + size - rd) % size ≤ (wr + size - rd) % size then s.wr rdOff v else s

/-! ### Slot changes and the end of holds (R214, R232) -/

/-- The slots of one beam at the edge of a round: passed slots whose points have left become DONE, and an engine that has
ended gives back or retires the others (R181, R232). A slot whose last point left before Volley E and whose PASSPT issued in E, when
a safe stop begins in E, falls under R181's last sentence and under R232's row for a safe stop: the model follows R232 (DESIGN
CHOICE: assumption 93). -/
def State.slotEdge (b : Nat) (s : State) : State :=
  let e := s.eng b
  let due (h : Held) : Bool := match h.passAt with
    | some n => decide (n ≤ e.emitted)
    | none => false
  let fin := match e.ended with
    | .safe => true
    | .halt true => true
    | _ => false
  let safe := e.ended == .safe
  let s := e.held.foldl (fun t h =>
    if !safe && due h then t.setSlot h.pool h.slot slDONE
    else if fin then t.dropHeld b h 1
    else t) s
  let keep := e.held.filter fun h => !(fin || (!safe && due h))
  s.modEng b fun e =>
    { e with
      held := keep
      take := if fin && !s.running b then none else e.take
      ended := match e.ended with
        | .halt false => .halt true
        | .halt true => .no
        | .safe => .no
        | .no => .no }

/-- The releases of one beam that take effect at this round (R178, R190, R232). -/
def State.releaseEdge (b : Nat) (safe : Bool) (s : State) : State :=
  s.modEng b fun e =>
    { e with claims := if safe then [] else e.claims.filter fun c => match c.relAt with
        | some n => decide (e.emitted < n)
        | none => true }

/-- Tiles of beam `b`'s regions that its regions after the step no longer cover take their COOL (R212). -/
def State.coolEnds (s : State) (b : Nat) (before : List Nat) : State :=
  let after := s.heldRegions b
  let gone := (before.flatMap tilesOf).filter fun t => !(after.any fun w => covers w t)
  gone.foldl (fun u t =>
    { u with cool := tabSet (fun _ => 0) u.cool (t.2 * 128 + t.1) (entCool (u.tileEntry t)) }) s

/-- Every non-zero cool-down count falls by 1 (R212). -/
def State.coolDown (s : State) : State :=
  { s with cool := (s.cool.map fun c => (c.1, c.2 - 1)).filter fun c => c.2 != 0 }

/-- The grants of a beam are revoked (R223): its claims stay posted, its slots end as the revoke row of R232 states. -/
def State.revoke (s : State) (b : Nat) : State :=
  let s := (s.eng b).held.foldl (fun t h => t.dropHeld b h 4) s
  let s := s.modEng b fun e =>
    { e with held := [], claims := e.claims.map fun c => { c with granted := false, vis := false } }
  (s.setFlag (ARB_BEAM_STATUS_REVOKED b) true).raise 0x08B b

/-- Has the revoke count of a beam that holds tiles reached ROUNDS (R223)? -/
def State.revokeDue (s : State) (b : Nat) : Bool :=
  let rounds := s.get ARB_REVOKE_ROUNDS
  rounds != 0 && decide (rounds ≤ s.rdN (ARB_BEAM_IDLE b)) && !(s.heldRegions b).isEmpty && !(s.eng b).paused

/-- The revoke count of one beam at a round (R223): the round counts unless a gate-high point left since the last one, the beam
holds no tile or it is paused; a count that reaches ROUNDS revokes at this round, before its decisions (DEDUCED: assumption 94). -/
def State.idleRound (b : Nat) (s : State) : State :=
  let quiet := !(s.eng b).lit && !(s.heldRegions b).isEmpty && !(s.eng b).paused
  let s := s.modEng b fun e => { e with lit := false }
  if quiet then
    let s := s.bumpSat (ARB_BEAM_IDLE b)
    s.when (s.revokeDue b) fun t => t.revoke b
  else s

/-- Steps 1 to 3 of R214 at the edge of a round. -/
def State.roundEdge (s : State) : State :=
  let before := (List.range 32).map s.heldRegions
  let safe := (List.range 32).map fun b => (s.eng b).ended == .safe
  let s := forN 32 State.slotEdge s
  let s := forN 32 (fun b t => t.releaseEdge b (safe.getD b false)) s
  let s := (forN 32 State.idleRound s).coolDown
  forN 32 (fun b t => t.coolEnds b (before.getD b [])) s

/-! ### Deciding requests (R215 to R220, R228, R229) -/

/-- A request of the round: its urgency, beam, order within the beam, and the claim entry it stands for (none: the take). -/
abbrev Req := Nat × Nat × Nat × Option Nat

/-- The requests of one beam: the outstanding take first, then the ungranted claims in order of entry (R215). -/
def State.reqsOf (s : State) (b : Nat) : List Req :=
  let e := s.eng b
  (match e.take with
    | some t => if t.result.isNone then [(s.get (ARB_POOL_CTRL_URG t.pool), b, 0, none)] else []
    | none => []) ++
  (e.claims.filter fun c => !c.granted && c.relAt.isNone).map fun c => (c.urg, b, c.seq + 1, some c.idx)

/-- The order of R215 under pointer `ptr`. -/
def reqBefore (ptr : Nat) (x y : Req) : Bool :=
  let key (q : Req) : Nat × Nat × Nat := (q.1, (q.2.1 + 32 - ptr) % 32, q.2.2.1)
  let (a1, a2, a3) := key x
  let (b1, b2, b3) := key y
  decide (a1 < b1) || (a1 == b1 && (decide (a2 < b2) || (a2 == b2 && decide (a3 ≤ b3))))

/-- Insert a request in order. -/
def reqInsert (ptr : Nat) (q : Req) : List Req → List Req
  | [] => [q]
  | x :: xs => if reqBefore ptr x q then x :: reqInsert ptr q xs else q :: x :: xs

/-- Change one claim entry of a beam. -/
def State.modClaim (s : State) (b idx : Nat) (f : Claim → Claim) : State :=
  s.modEng b fun e => { e with claims := e.claims.map fun c => if c.idx = idx then f c else c }

/-- The counter of a denial by rule number (R218). -/
def denyCounter : Nat → Nat
  | 3 => ARB_DENY_HELD
  | 4 => ARB_DENY_RESV
  | 5 => ARB_DENY_COOL
  | 6 => ARB_DENY_SEP
  | _ => ARB_DENY_GAS

/-- Decide one claim (R215, R216, R218, R219). -/
def State.decideClaim (s : State) (resv : List (Nat × Nat)) (b idx : Nat) : State × List (Nat × Nat) :=
  match (s.eng b).claims.find? fun c => c.idx == idx with
  | none => (s, resv)
  | some c =>
    if !s.claimAllowed b c.region then
      let s := (s.bumpSat ARB_DENY_REFUSED).bumpSat (ARB_BEAM_DENY_CNT b)
      let s := s.when (!c.refused) fun t => (t.setFlag (ARB_BEAM_STATUS_REFUSED b) true).raise 0x080 b
      (s.modClaim b idx fun c => { c with refused := true }, resv)
    else match s.regionRule resv b c.region with
      | none =>
        let s := (s.bumpSat ARB_GRANT_CNT).wr (ARB_BEAM_IDLE b) 0
        (s.modClaim b idx fun c => { c with granted := true }, resv)
      | some r =>
        let s := (s.bumpSat (denyCounter r)).bumpSat (ARB_BEAM_DENY_CNT b)
        let starve := s.get ARB_STARVE_ROUNDS
        let resv := if starve ≠ 0 ∧ starve ≤ c.waited then resv ++ [(c.region, b)] else resv
        (s.modClaim b idx fun c => { c with waited := c.waited + 1 }, resv)

/-- The answer of a take that finds no slot (R228): NONE_FREE, or EXHAUSTED, which a pool with LOADED above its sampled SIZE can be too
(DESIGN CHOICE: assumption 110). -/
def State.takeNone (s : State) (b p : Nat) : State :=
  let ready := s.isReady (ARB_POOL_STATUS_STATE p)
  let size := (s.pool p).size
  let all := decide (size ≤ s.get (ARB_POOL_LOADED_LOADED p))
    && (List.range size).all fun i => s.slotState p i == slDONE || s.slotState p i == slRETIRED
  let put (t : State) (r : Nat) : State :=
    t.modEng b fun e => { e with take := e.take.map fun k => { k with result := some r } }
  if ready && all then
    let s := s.when (!(s.pool p).exh) fun t => (t.raise 0x089 p).modPool p fun q => { q with exh := true }
    put s 0xFFFFFFFE
  else put (s.bumpSat (ARB_POOL_NONE p)) 0xFFFFFFFF

/-- The REGION and VID of a slot's bytes (R224). -/
def slotRegion (bytes : List Byte) : Nat := leNat ((bytes.drop 12).take 4)
/-- The vector identifier of a slot's bytes (R224). -/
def slotVid (bytes : List Byte) : Nat := leNat ((bytes.drop 28).take 4)

/-- A take decided while its beam holds 8 slots (R229): NONE_FREE, whatever its pool's state. -/
def State.takeFull (s : State) (b p : Nat) : State :=
  let s := ((s.setFlag (ARB_BEAM_STATUS_HELD_FULL b) true).raise 0x085 b).bumpSat (ARB_POOL_NONE p)
  s.modEng b fun e => { e with take := e.take.map fun k => { k with result := some 0xFFFFFFFF } }

/-- Decide one take (R215, R228, R229). -/
def State.decideTake (s : State) (resv : List (Nat × Nat)) (b : Nat) : State :=
  match (s.eng b).take with
  | none => s
  | some t =>
    let p := t.pool
    if 8 ≤ (s.eng b).held.length then s.takeFull b p
    else if !s.isReady (ARB_POOL_STATUS_STATE p) then s.takeNone b p
    else
      let ok (x : Nat × List Byte) : Bool :=
        let w := slotRegion x.2
        s.slotState p x.1 == slFREE && s.takeAllowed b w && (s.regionRule resv b w).isNone
      match (s.pool p).staged.find? ok with
      | none => s.takeNone b p
      | some (i, bytes) =>
        let s := s.setSlot p i slHELD
        let s := s.modPool p fun q => { q with staged := q.staged.filter fun x => x.1 != i }
        let s := ((s.bumpSat ARB_GRANT_CNT).bumpSat (ARB_POOL_TAKES p)).wr (ARB_BEAM_IDLE b) 0
        s.modEng b fun e =>
          { e with
            take := e.take.map fun k => { k with result := some i, bytes := bytes }
            held := e.held ++ [{ pool := p, slot := i, region := slotRegion bytes, vid := slotVid bytes, onpts := 0,
                                 lastx := 0, lasty := 0, passAt := none }] }

/-- Decide the requests in order. -/
def State.decideAll (s : State) : List Req → List (Nat × Nat) → State
  | [], _ => s
  | q :: qs, resv =>
    match q.2.2.2 with
    | none => State.decideAll (s.decideTake resv q.2.1) qs resv
    | some idx =>
      let (s', resv') := s.decideClaim resv q.2.1 idx
      State.decideAll s' qs resv'

/-- While the arbiter is not READY, a round grants nothing and answers every take NONE_FREE (R220). -/
def State.roundIdle (s : State) : State :=
  forN 32 (fun b t => match (t.eng b).take with
    | some k => if k.result.isNone then
        if 8 ≤ (t.eng b).held.length then t.takeFull b k.pool
        else (t.bumpSat (ARB_POOL_NONE k.pool)).modEng b fun e =>
          { e with take := e.take.map fun k => { k with result := some 0xFFFFFFFF } }
      else t
    | none => t) s

/-- GRANT_REVOKED (R223): the count stands at ROUNDS. The round in which it comes to stand there revokes within its edge, so that what
is left to this row is a count that a write of ARB_REVOKE has overtaken (assumption 94). -/
def grantRevoked (b : Nat) (s : State) : State :=
  if s.revokeDue b && s.isReady ARB_STATUS_STATE then (s.revoke b).coolEnds b (s.heldRegions b) else s

/-! ### Pools (R225 to R231) -/

/-- A pool enters STARTING (R231): BASE, SIZE and KEEP are sampled, and a SIZE out of range is a fault. -/
def State.poolStart (p : Nat) (s : State) : State :=
  let size := s.get (ARB_POOL_SIZE_SIZE p)
  let base := s.rdN (ARB_POOL_BASE_LO p) + s.get (ARB_POOL_BASE_HI_ADDR p) * 2 ^ 32
  let s := s.modPool p fun _ => { base := base, size := size, edges := 0, staged := [], exh := false }
  let s := if s.flag (ARB_POOL_CTRL_KEEP p) then s
    else { s with slotSt := s.slotSt.filter fun x => x.1 / 4096 != p }
  s.set (ARB_POOL_STATUS_STATE p) (if size = 0 ∨ 4096 < size then stFAULT else stSTARTING)

/-- A write of ARB_POOLn_CTRL (R231). -/
def wrPoolCtrl (p : Nat) (v : Word) (s : State) : State :=
  s.wrEnable (ARB_POOL_CTRL p) v (ARB_POOL_CTRL_EN p) (ARB_POOL_STATUS_STATE p) (State.poolStart p)
    (fun t => (t.set (ARB_POOL_STATUS_STATE p) stSTOPPING).modPool p fun q => { q with staged := [] })

/-- A write of ARB_POOLn_LOADED (R225). SIZE is the sampled one while the pool is not OFF, and the register while it is. -/
def wrPoolLoaded (p : Nat) (v : Word) (s : State) : State :=
  let n := fldOf 0 13 v
  if s.isOff (ARB_POOL_STATUS_STATE p) then
    (s.plainWrite (ARB_POOL_LOADED p) v).set (ARB_POOL_LOADED_LOADED p) (min n (s.get (ARB_POOL_SIZE_SIZE p)))
  else if n < s.get (ARB_POOL_LOADED_LOADED p) then s
  else (s.plainWrite (ARB_POOL_LOADED p) v).set (ARB_POOL_LOADED_LOADED p) (min n (s.pool p).size)

/-- Has the pool a HELD slot? -/
def State.poolHolds (s : State) (p : Nat) : Bool := s.slotSt.any fun x => x.1 / 4096 == p && x.2 == slHELD

/-- A pool at a Volley edge (R231): READY at the second edge after EN, OFF at the first edge without a HELD slot. -/
def State.poolEdge (p : Nat) (s : State) : State :=
  let st := ARB_POOL_STATUS_STATE p
  if s.get st = stSTARTING then
    if 1 ≤ (s.pool p).edges then s.set st stREADY
    else s.modPool p fun q => { q with edges := q.edges + 1 }
  else if (s.get st = stSTOPPING ∨ s.get st = stSTOPPING_RP) ∧ !s.poolHolds p then s.stopDone st (State.poolStart p)
  else s

/-- FREE slots of a pool below `i`. -/
def State.freeBelow (s : State) (p i : Nat) : Nat := ((List.range i).filter fun j => s.slotState p j == slFREE).length

/-- Insert a staged slot in order of index, keeping the 16 lowest (R227). -/
def stageInsert (i : Nat) (bytes : List Byte) (l : List (Nat × List Byte)) : List (Nat × List Byte) :=
  ((l.filter fun x => decide (x.1 < i)) ++ [(i, bytes)] ++ (l.filter fun x => decide (i < x.1))).take 16

/-! ### The Court check (R221, R222) -/

/-- Does a point of beam `b` pass the Court check? -/
def State.courtPass (s : State) (b : Nat) (p : Pt) : Bool :=
  s.isReady ARB_STATUS_STATE &&
  match s.tileOf p.x p.y with
  | none => false
  | some t =>
    let e := s.eng b
    entKind (s.tileEntry t) != 0 &&
    ((e.claims.any fun c => c.granted && covers c.region t && (match c.relAt with
        | some n => decide (p.n < n)
        | none => true))
     || e.held.any fun h => covers h.region t && (match h.passAt with
        | some n => decide (p.n < n)
        | none => true))

/-- A failing point is counted and recorded (R222). -/
def State.courtFail (s : State) (b : Nat) : State :=
  ((s.bumpSat (ARB_BEAM_CHECK_CNT b)).setFlag (ARB_BEAM_STATUS_CHECK_FAIL b) true).raise 0x081 b

/-- With CHECK = 1 the engine traps at the first point of a buffer that fails (R222), one that has executed HALT too; an engine that
has trapped already does not trap again. -/
def State.courtTrap (s : State) (b : Nat) (fail : Option Nat) : State :=
  match fail with
  | some pc =>
    s.when (s.flag ARB_CTRL_CHECK && (!(s.eng b).stopped || (s.eng b).halting)) fun t => t.trapAt b tcCheck pc 0
  | none => s

/-! ### Arbiter, map and queries -/

/-- A write that R206 allows only while no Scan Engine is running, nor starting in this cycle. -/
def wrCourtCfg (f : State → State) (s : State) : State :=
  if s.anyRunning || s.starting != 0 then (s.setFlag ARB_STATUS_CFG_REFUSED true).raise 0x08A 0 else f s

/-- A write of ARB_CTRL (R206, R237, R622): OFF directly when EN is cleared. -/
def wrArbCtrl (v : Word) (s : State) : State :=
  wrCourtCfg (fun t => t.wrEnable ARB_CTRL v ARB_CTRL_EN ARB_STATUS_STATE
    (fun u => u.set ARB_STATUS_STATE stSTARTING) (fun u => u.set ARB_STATUS_STATE stOFF)) s

/-- Is a Court Map entry not valid? (R205) -/
def entryBad (e : Nat) : Bool := e / 2 ^ 44 % 4 == 3 || e / 2 ^ 51 != 0

/-- An entry that is not valid sets MAP_ERR (R205). -/
def State.mapErr (s : State) (bad : Bool) : State := s.when bad fun t => (t.setFlag ARB_STATUS_MAP_ERR true).raise 0x086 0

/-- A write of word `i` of the Court Map (R205, R206). The value written is tested: a word that holds no KIND and no
must-be-0 bit sets nothing. -/
def wrCourtMap (i : Nat) (v : Word) (s : State) : State :=
  wrCourtCfg (fun t => (t.wr (COURT_MAP i) v).mapErr (i % 2 == 1 && entryBad (v.toNat * 2 ^ 32))) s

/-- A write of ARB_MAP_LOAD_CTRL (R206, R207): GO starts the copy from the address of that moment, and a refused GO leaves the whole
write without effect. -/
def wrMapLoadCtrl (v : Word) (s : State) : State :=
  if bitOf v.toNat 0 then
    wrCourtCfg (fun t =>
      let u := t.plainWrite ARB_MAP_LOAD_CTRL v
      if u.flag ARB_MAP_LOAD_CTRL_BUSY then u
      else { u.setFlag ARB_MAP_LOAD_CTRL_BUSY true with
             mapFrom := (u.rdN ARB_MAP_LOAD_LO + u.get ARB_MAP_LOAD_HI_ADDR * 2 ^ 32) / 4096 * 4096 }) s
  else s.plainWrite ARB_MAP_LOAD_CTRL v

/-- ARB_GASk_COS above 32,768 stores 32,768 (R237). -/
def wrGasCos (k : Nat) (v : Word) (s : State) : State :=
  let s := s.plainWrite (ARB_GAS_COS k) v
  s.set (ARB_GAS_COS_COS k) (min 32768 (s.get (ARB_GAS_COS_COS k)))

/-- What ARB_SSTATE_DATA reads (R237): the states of 16 slots; 0b00 for slots that are not loaded. -/
def State.sstateData (s : State) : Word :=
  let p := s.get ARB_SSTATE_ADDR_POOL
  let w := s.get ARB_SSTATE_ADDR_WORD
  let state (i : Nat) : Nat := if i < s.get (ARB_POOL_LOADED_LOADED p) then s.slotState p i else 0
  BitVec.ofNat 32 ((List.range 16).foldl (fun acc j => acc + state (w * 16 + j) * 4 ^ j) 0)

/-- What ARB_TILE_QD reads (R237). -/
def State.tileQ (s : State) : Word :=
  let i := s.rdN ARB_TILE_Q % 2 ^ 14
  let t := (i % 128, i / 128)
  let cr := tabGet (fun _ => 0) s.cool i * 2 ^ 16
  BitVec.ofNat 32 (match s.holder t with
    | some b => b + 32 + cr
    | none => cr)

/-- Slots 0 to LOADED - 1 of a pool in a state (R237), for COUNT_B as for COUNT_A (DESIGN CHOICE: assumption 110). -/
def State.slotCount (s : State) (p st : Nat) : Nat :=
  ((List.range (s.get (ARB_POOL_LOADED_LOADED p))).filter fun i => s.slotState p i == st).length

/-- ARB_POOLn_STATUS as read: EXHAUSTED and STAGED follow the pool (R228, R237). -/
def State.poolStatus (s : State) (p : Nat) : Word :=
  let size := (s.pool p).size
  let ex := s.isReady (ARB_POOL_STATUS_STATE p) && decide (size ≤ s.get (ARB_POOL_LOADED_LOADED p))
    && (List.range size).all fun i => s.slotState p i == slDONE || s.slotState p i == slRETIRED
  fldIns 4 5 (fldIns 3 1 (s.rd (ARB_POOL_STATUS p)) (if ex then 1 else 0)) (s.pool p).staged.length

/-- ARB_BEAMn_STATUS as read: the granted entries that are visible, and the slots held (R237). -/
def State.beamArbStatus (s : State) (b : Nat) : Word :=
  let e := s.eng b
  let g := e.claims.foldl (fun acc c => if c.vis then acc ||| 2 ^ c.idx else acc) 0
  fldIns 8 4 (fldIns 0 8 (s.rd (ARB_BEAM_STATUS b)) g) e.held.length

/-! ### Barriers (R182 to R185) -/

/-- The barrier's record. -/
def State.bar (s : State) (i : Nat) : Barrier := recGet s.bars i

/-- Change a barrier's record. -/
def State.modBar (s : State) (i : Nat) (f : Barrier → Barrier) : State := { s with bars := recSet s.bars i (f (s.bar i)) }

/-- Barriers at an edge (R175, R182): every arrival made before it joins this round, and a barrier at which every
participant has arrived is released by it and is empty. -/
def State.barEdge (i : Nat) (s : State) : State :=
  let r := s.bar i
  s.modBar i fun x =>
    if r.mask != 0 && (r.arrived &&& r.mask) == r.mask then { mask := 0, arrived := 0, freed := r.arrived }
    else { x with freed := 0 }

/-- The arrivals that wait at a barrier have met an edge (R175). -/
def State.joinEdge (b : Nat) (s : State) : State := s.modEng b fun e => { e with joined := true }

/-- B takes its value once the fill form of SYNC has placed its last point (R183, R185). -/
def State.fillOver (s : State) (b : Nat) : State :=
  match (s.eng b).fillB with
  | some v => if (s.eng b).owns then s else (s.modEng b fun e => { e with fillB := none }).setFlag (SCN_FLAGS_B b) v
  | none => s

/-- The fill form of SYNC is to end before the first point of Volley `v` (R183, R185); one that owns no point leaves the direction of
SKY.OUT (R149; DEDUCED: assumption 79). -/
def State.endFill (s : State) (b v : Nat) (blocked : Bool) : State :=
  (s.modEng b fun e =>
    let k := max e.k (e.firstOf v)
    { e with wait := .none, openEnd := false, te := k * e.delta, ma := if k ≤ ceilDiv e.ts e.delta then e.ma else none,
             fillB := some blocked }).fillOver b

/-! ### The arbiter's part of a Volley edge -/

/-- The arbiter at a Volley edge (R237): READY at the first edge after EN while the generator is READY. -/
def State.arbUpEdge (s : State) : State :=
  s.when (s.get ARB_STATUS_STATE == stSTARTING && s.volReady) fun t => t.set ARB_STATUS_STATE stREADY

/-- The edge work of a round (R213, R214, R223), and the barriers (R182). -/
def State.arbiterEdge (s : State) : State :=
  let s := forN 32 State.joinEdge (forN 16 State.barEdge s)
  s.when (s.isReady ARB_STATUS_STATE) State.roundEdge

/-- The decisions of a round (R215 to R220), with the registers that the commands of its edge leave (R52). -/
def State.arbiterRound (s : State) : State :=
  if s.isReady ARB_STATUS_STATE then
    let reqs := ((List.range 32).flatMap s.reqsOf).foldl (fun acc q => reqInsert (s.vnum % 32) q acc) []
    s.decideAll reqs []
  else s.roundIdle

/-- Writes of the ARB registers (R206, R225, R231, R233, R237). -/
def wrArbReg (off : Nat) (v : Word) (s : State) : State :=
  let r := off - 0x0B0000
  if r = 0 then wrArbCtrl v s
  else if r = 0x078 then wrMapLoadCtrl v s
  else if 0x034 ≤ r ∧ r ≤ 0x064 ∧ r % 16 = 4 then wrCourtCfg (wrGasCos ((r - 0x034) / 16) v) s
  else if 0x008 ≤ r ∧ r ≤ 0x06C ∧ r ≠ 0x02C ∧ (regDesc off).isSome then wrCourtCfg (fun t => t.plainWrite off v) s
  else if r = 0x140 then wrLogIndex ARB_RWLOG_RD ARB_RWLOG_WR 256 v s
  else if 0x1000 ≤ r ∧ r < 0x2000 ∧ r % 0x40 = 0x00 then wrPoolCtrl ((r - 0x1000) / 0x40) v s
  else if 0x1000 ≤ r ∧ r < 0x2000 ∧ r % 0x40 = 0x14 then wrPoolLoaded ((r - 0x1000) / 0x40) v s
  else s.plainWrite off v

end Sys2Proof.Machine
end

