-- ==== Sys2Proof/Machine/Dram.lean ====
section
/-! DEFINITION. The DRAM channels (R387 to R422): their lifecycle, requests block by block, errors and the freeze, sparing and
migration, refresh and self-refresh, the fill, training, the activate-count guard, patrol scrub and the diagnostic port. -/

namespace Sys2Proof.Machine

/-! ### Shared parts -/

/-- A refused write of a memory configuration (R391). -/
def State.memRefuse (s : State) : State := (s.setFlag MEM_STATUS_CFG_REFUSED true).raise 0x14E 0

/-- Is the controller frozen? (R403) -/
def State.frozen (s : State) : Bool := s.flag MEM_STATUS_FROZEN

/-- A completion leaves for a requester. -/
def State.emit (s : State) (o : Out) : State := { s with outbox := s.outbox ++ [o] }

/-- The block number that events carry in ARG (R623): address bits [37:6]. -/
def blockArg (a : Nat) : Word := BitVec.ofNat 32 (a / 64)

/-- The eighth of a rank in which a rank address lies (R411). -/
def State.eighth (s : State) (m ra : Nat) : Nat := ra / (s.rankCap m / 8)

/-- Is the LOST bit set of the eighth that holds a rank address? (R411) -/
def State.isLost (s : State) (m rank ra : Nat) : Bool := bitOf (s.rdN (MEM_M_LOST m)) (rank * 8 + s.eighth m ra)

/-- Where a rank address lies in the device-physical map (R392, R393); a rank that no address maps to has none (assumption
15). -/
def State.physAddr (s : State) (m rank ra : Nat) : Nat :=
  match (List.range (s.mappedRanks m)).find? fun l => s.physRank m l == rank with
  | some l =>
    let c := l * s.rankCap m + ra
    if s.flag MEM_CTRL_ILV then c / 4096 * 8192 + m * 4096 + c % 4096
    else if m = 0 then c else s.chCap 0 + c
  | none => Config.unmappedAddr (dramKey m rank ra)

/-- The details of an error (R421): address bits [39:32], rank, subchannel (R393), class and source. -/
def errHi (a rank ra : Nat) (classK : Bool) (src : Nat) : Nat :=
  a / 2 ^ 32 % 256 + rank * 2 ^ 8 + ra / 64 % 2 * 2 ^ 10 + (if classK then 2 ^ 11 else 0) + src * 2 ^ 12

/-- A correctable error (R400). The errors that scrub and the mover correct are counted alike (DEDUCED: assumption 16). -/
def State.memCe (s : State) (m rank ra a : Nat) (classK : Bool) (src group : Nat) : State :=
  let s := s.bumpSat (MEM_M_CE_CNT m)
  let s := s.wr (MEM_M_LAST_CE_LO m) (BitVec.ofNat 32 a)
  let s := s.wr (MEM_M_LAST_CE_HI m) (BitVec.ofNat 32 (errHi a rank ra classK src + group * 2 ^ 16))
  s.raise 0x140 m (blockArg a)

/-- LAST_UE takes an uncorrectable error (R402). -/
def State.lastUe (s : State) (m rank ra a : Nat) (classK : Bool) (src : Nat) (poisoned : Bool) : State :=
  let s := s.wr (MEM_M_LAST_UE_LO m) (BitVec.ofNat 32 a)
  s.wr (MEM_M_LAST_UE_HI m) (BitVec.ofNat 32 (errHi a rank ra classK src + (if poisoned then 2 ^ 14 else 0)))

/-- Migration of rank `p` starts if R406 allows; otherwise NO_SPARE is recorded. -/
def State.migStart (s : State) (m p : Nat) : State :=
  if s.flag (MEM_M_SPARE_EN m) && !s.flag (MEM_M_SPARE_BAD m) && !s.flag (MEM_M_SPARE_USED m)
      && p != s.get (MEM_M_SPARE_RANK m) && s.get (MEM_M_MIG_STATE m) != migRUNNING && !s.frozen then
    let s := (s.set (MEM_M_MIG_STATE m) migRUNNING).set (MEM_M_MIG_PTR_BLOCK m) 0
    ((s.setFlag (MEM_M_SPARE_USED m) true).modMch m fun r => { r with migP := p, hold := true }).raise 0x144 m
  else s.raise 0x147 m

/-- Jobs of a class in a channel's queue (R396). -/
def Mch.queued (r : Mch) (classK : Bool) : Nat := (r.jobs.filter fun j => j.classK == classK).length

/-- Is an entry a read? -/
def RdJob.reads (j : RdJob) : Bool := j.kind == .read

/-- Queued reads complete with a status and leave the queue; writes stay. -/
def State.failReads (s : State) (m : Nat) (st : DStatus) : State :=
  let jobs := (s.mch m).jobs
  let s := jobs.foldl (fun t j => t.when j.reads fun u => u.emit (.dram j.req j.addr st [])) s
  s.modMch m fun r => { r with jobs := r.jobs.filter fun j => !j.reads }

/-- The freeze of both channels by channel `m` (R403). -/
def State.freeze (s : State) (m : Nat) : State :=
  let s := ((s.setFlag MEM_STATUS_FROZEN true).set MEM_STATUS_FCAUSE m).bumpSat MEM_FREEZE_CNT
  let s := forN 32 (fun b t => t.ssRequest b 0xB) s
  let s := (s.failReads 0 .frozen).failReads 1 .frozen
  s.dramWait.foldl (fun t x => t.emit (.dram x.1.requester x.2.1 .frozen [])) { s with dramWait := [] }

/-- An uncorrectable error of a demand access or of patrol scrub (R402, R404): source 0 demand, 1 scrub, 3 merge. -/
def State.memUe (s : State) (m rank ra a : Nat) (classK : Bool) (src : Nat) (poisoned : Bool) : State :=
  let s := s.bumpSat (if classK then MEM_M_UE_K_CNT m else MEM_M_UE_V_CNT m)
  if classK && s.frozen then s.raise 0x142 m (blockArg a)
  else
    let s := s.lastUe m rank ra a classK src poisoned
    if classK then (s.raise 0x142 m (blockArg a)).freeze m
    else (s.raise 0x141 m (blockArg a)).migStart m rank

/-! ### Lifecycle (R390, R391) -/

/-- Does the configuration of channel `m` make its start fail (R390, R405)? RANKMAP is tested over the mapped ranks. -/
def State.memBad (s : State) (m : Nat) : Bool :=
  let ranks := s.get (MEM_M_CFG_RANKS m)
  let maps := (List.range (s.mappedRanks m)).map (s.physRank m)
  decide (8 < s.get (MEM_M_CFG_RATE m)) || ranks == 0 || decide (4 < ranks)
    || (s.flag (MEM_M_SPARE_EN m) && (decide (ranks < 3) || maps.contains (s.get (MEM_M_SPARE_RANK m))))
    || decide (2 ^ 37 < s.chCap 0 + s.chCap 1)
    || (s.flag MEM_CTRL_ILV && s.chCap 0 != s.chCap 1)
    || decide (¬ maps.Nodup)

/-- A channel starts (R390). -/
def State.memStart (m : Nat) (s : State) : State :=
  if s.memBad m then (s.set (MEM_M_STATUS_STATE m) stFAULT).raise 0x14B m else s.set (MEM_M_STATUS_STATE m) stSTARTING

/-- A channel is in OFF: what migration did to it is over (R409; DEDUCED: assumption 17). -/
def State.memOff (m : Nat) (s : State) : State :=
  let s := (s.set (MEM_M_MIG_STATE m) 0).set (MEM_M_MIG_PTR_BLOCK m) 0
  let s := (s.setFlag (MEM_M_SPARE_BAD m) false).setFlag (MEM_M_SPARE_USED m) false
  s.setFlag (MEM_M_SR_ACTIVE m) false

/-- Drop the bytes and marks of the blocks of channel `m` that `c` selects by rank and rank address: they read 0 (DESIGN CHOICE:
assumption 121). -/
def State.dropBlocks (s : State) (m : Nat) (c : Nat → Nat → Bool) : State :=
  let sel (k : Nat) : Bool := k / 2 ^ 38 == m && c (k / 2 ^ 36 % 4) (k % 2 ^ 36)
  { s with dram := s.dram.filter fun x => !sel x.1, poison := s.poison.filter fun x => !sel (x.1 * 64) }

/-- The queues of a stopping channel have drained (R390). -/
def State.memDrained (s : State) (m : Nat) : State :=
  if (s.mch m).jobs.isEmpty && !s.isReady (MEM_M_STATUS_STATE m) then
    let was := s.get (MEM_M_STATUS_STATE m)
    if was = stSTOPPING ∨ was = stSTOPPING_RP then
      (State.memOff m s).stopDone (MEM_M_STATUS_STATE m) (State.memStart m)
    else s
  else s

/-- A write of MEM_Mn_CTRL (R390). -/
def wrMemCtrl (m : Nat) (v : Word) (s : State) : State :=
  s.wrEnable (MEM_M_CTRL m) v (MEM_M_CTRL_EN m) (MEM_M_STATUS_STATE m) (State.memStart m)
    (fun t => if t.get (MEM_M_STATUS_STATE m) = stSTARTING then State.memOff m (t.set (MEM_M_STATUS_STATE m) stOFF)
      else (t.set (MEM_M_STATUS_STATE m) stSTOPPING).memDrained m)

/-- MEM_CHANNEL_READY (R390, R411): training has passed on every rank, or failed. -/
def memChannelReady (m : Nat) (trained : Bool) (s : State) : State :=
  if s.get (MEM_M_STATUS_STATE m) = stSTARTING then
    if trained && !s.memBad m then
      let s := (s.set (MEM_M_STATUS_STATE m) stREADY).wr (MEM_M_LOST m) 0xFFFFFFFF
      s.dropBlocks m fun _ _ => true
    else (s.set (MEM_M_STATUS_STATE m) stFAULT).raise 0x14B m
  else s

/-- A write that R391 allows only while channel `m` is OFF. -/
def wrMemOffOnly (m off : Nat) (v : Word) (s : State) : State :=
  if s.isOff (MEM_M_STATUS_STATE m) then s.plainWrite off v else s.memRefuse

/-- A write of MEM_CTRL (R391). -/
def wrMemIlv (v : Word) (s : State) : State :=
  if s.isOff (MEM_M_STATUS_STATE 0) && s.isOff (MEM_M_STATUS_STATE 1) then s.plainWrite MEM_CTRL v else s.memRefuse

/-- A write of MEM_QOS: VMIN above 16 stores 16 (R421). -/
def wrMemQos (v : Word) (s : State) : State :=
  let s := s.plainWrite MEM_QOS v
  s.set MEM_QOS_VMIN (min 16 (s.get MEM_QOS_VMIN))

/-! ### Self-refresh (R412) -/

/-- The channel leaves self-refresh: the eighths that its mask did not keep are LOST. -/
def State.srExit (s : State) (m : Nat) : State :=
  if s.flag (MEM_M_SR_ACTIVE m) then
    let kept := (s.mch m).kept
    let s := (s.setFlag (MEM_M_SR_ACTIVE m) false).wr (MEM_M_LOST m) (s.rd (MEM_M_LOST m) ||| ~~~kept)
    s.dropBlocks m fun rank ra => !bitOf kept.toNat (rank * 8 + s.eighth m ra)
  else s

/-! ### The activate-count guard (R416, R417) -/

/-- Raise the count of a row by one, saturating at 65,535. -/
def acgBump (row : Nat) : List (Nat × Nat) → List (Nat × Nat)
  | [] => []
  | (r, c) :: rest => if r = row then (r, min 65535 (c + 1)) :: rest else (r, c) :: acgBump row rest

/-- The lowest count of a table. -/
def acgLow (t : List (Nat × Nat)) : Nat := t.foldl (fun a e => min a e.2) 65536

/-- Replace the first entry that holds the lowest count by the row, with that count raised by one. -/
def acgSwap (row lowest : Nat) : List (Nat × Nat) → List (Nat × Nat)
  | [] => []
  | (r, c) :: rest => if c = lowest then (row, min 65535 (c + 1)) :: rest else (r, c) :: acgSwap row lowest rest

/-- One activate of a row in a bank's table (R416): the table, and whether the neighbours are refreshed. -/
def acgStep (thr row : Nat) (t : List (Nat × Nat)) : List (Nat × Nat) × Bool :=
  let t :=
    if t.any fun e => e.1 == row then acgBump row t
    else if t.length < 32 then t ++ [(row, 1)]
    else acgSwap row (acgLow t) t
  if t.any fun e => e.1 == row && decide (thr ≤ e.2) then (t.map fun e => if e.1 = row then (row, 0) else e, true)
  else (t, false)

/-- The bank of a block, as a number over subchannel, bank group and bank, and its row (R393). -/
def State.bankRow (s : State) (m ra : Nat) : Nat × Nat :=
  let b := ra / 64
  let col := if s.flag (MEM_M_CFG_WIDTH m) then 6 else 7
  let up := b / 2 ^ (4 + col)
  (b % 16 * 4 + up % 4, up / 4)

/-- Rows of a bank (R388). -/
def State.bankRows (s : State) (m : Nat) : Nat := if s.flag (MEM_M_CFG_DENS m) then 131072 else 65536

/-- The neighbours of a row in its bank (R417): the rows within RADIUS of it. -/
def State.nearRows (s : State) (m row : Nat) : List Nat :=
  let d := orOne (s.get (MEM_M_ACG_RADIUS m))
  let near := ((List.range (2 * d + 1)).map fun i => row + i).filter fun x => decide (d ≤ x) && x != row + d
  (near.map fun x => x - d).filter fun x => decide (x < s.bankRows m)

/-- The neighbour refresh of a row (R417): the state, and the rows that it activates, none where one refresh management command does
it. -/
def State.rowRefresh (s : State) (m rank bank row : Nat) : State × List Nat :=
  if s.flag (MEM_M_ACG_MODE m) then (s.emit (.refreshManage m rank bank), [])
  else (s.emit (.refreshRows m rank bank (s.nearRows m row)), s.nearRows m row)

/-- One activate of a row (R416): the state, and the rows that a neighbour refresh then activates. -/
def State.acgOne (s : State) (m rank bank row : Nat) : State × List Nat :=
  let k := rank * 64 + bank
  let (t, hit) := acgStep (s.get (MEM_M_ACG_THR m)) row (tabGet (fun _ => []) (s.mch m).acg k)
  let s := s.modMch m fun r => { r with acg := tabSet (fun _ => []) r.acg k t }
  if hit then
    let (s, near) := s.rowRefresh m rank bank row
    ((s.bumpSat (MEM_M_ACG_CNT m)).raise 0x148 m, near)
  else (s, [])

/-- The activates of rows of a bank, each with those of the neighbour refreshes it brings, which come before the next one (R416, R417).
With THR above 2 * RADIUS they come to an end; the bound serves where they do not (DESIGN CHOICE: assumption 102). -/
def State.acgRun (m rank bank : Nat) : Nat → List Nat → State → State
  | 0, _, s => s
  | _, [], s => s
  | n + 1, row :: rest, s =>
    let (s, near) := s.acgOne m rank bank row
    State.acgRun m rank bank n (near ++ rest) s

/-- An activate of the row that holds a rank address (R416). -/
def State.acgCount (s : State) (m rank ra : Nat) : State :=
  if s.get (MEM_M_ACG_THR m) = 0 then s
  else
    let (bank, row) := s.bankRow m ra
    State.acgRun m rank bank 8192 [row] s

/-- A column command reaches a block: where it needs an activate, the guard counts it (R416; assumption 14). -/
def State.activate (s : State) (m rank ra : Nat) : State :=
  if Config.activates s.fresh then s.nextFresh.acgCount m rank ra else s.nextFresh

/-! ### Entries of the queues (R396 to R398, R400 to R404, R411) -/

/-- The bytes that a read of part of a block captures: zeros, counted, in an eighth that is LOST (R411). -/
def State.capture (s : State) (m rank ra a len : Nat) : State × List Byte :=
  if s.isLost m rank ra then
    ((s.bumpSat (MEM_M_LOST_RD_CNT m)).raise 0x14F m (blockArg a), List.replicate len 0)
  else (s, memTake s.dram (dramKey m rank ra) len)

/-- A full block is stored, and its poison goes (R401). -/
def State.putBlock (s : State) (m rank ra : Nat) (bytes : List Byte) : State :=
  let k := dramKey m rank ra
  ({ s with dram := memPut s.dram k bytes }).setPoison k false

/-- The bytes of a partial write merged into the rest of their block (R398): a LOST eighth reads as zeros. -/
def State.mergeBytes (s : State) (m rank ra a : Nat) (bytes : List Byte) : State :=
  let (s, old) := s.capture m rank (ra / 64 * 64) a 64
  let o := ra % 64
  s.putBlock m rank (ra / 64 * 64) (old.take o ++ bytes ++ old.drop (o + bytes.length))

/-- A merge whose block was poisoned or unreadable: the block is written poisoned (R401). -/
def State.poisonBlock (s : State) (m rank ra : Nat) : State := s.setPoison (dramKey m rank ra) true

/-- What the read of a block meets (R394, R401, R411): an uncorrectable error, with its POISON mark; `chk` is what the code found.
A LOST eighth is not checked. -/
def State.readUe (s : State) (m rank ra : Nat) (chk : RdCheck) : Option Bool :=
  let p := s.poisoned (dramKey m rank ra)
  if !s.isLost m rank ra && (p || chk == .uncorrectable) then some p else none

/-- A correctable error that the read of a block meets (R400). -/
def State.readCe (s : State) (m rank ra a : Nat) (classK : Bool) (src : Nat) (chk : RdCheck) : State :=
  match chk with
  | .correctable g => if s.isLost m rank ra then s else s.memCe m rank ra a classK src g.val
  | _ => s

/-- The column command of an entry that has left its queue, and its completion (R397, R398, R400 to R404): a full write completed
when it was accepted. -/
def State.doJob (s : State) (m : Nat) (j : RdJob) (chk : RdCheck) : State :=
  match j.kind with
  | .full => s.putBlock m j.rank j.ra j.data
  | .read =>
    if s.frozen then s.emit (.dram j.req j.addr .frozen [])
    else match s.readUe m j.rank j.ra chk with
      | some p => (s.emit (.dram j.req j.addr .ue [])).memUe m j.rank j.ra j.addr j.classK 0 p
      | none =>
        let (s, bytes) := (s.readCe m j.rank j.ra j.addr j.classK 0 chk).capture m j.rank j.ra j.addr j.len
        s.emit (.dram j.req j.addr .ok bytes)
  | .merge =>
    match s.readUe m j.rank j.ra chk with
    | some p => ((s.poisonBlock m j.rank j.ra).emit (.dram j.req j.addr .ue [])).memUe m j.rank j.ra j.addr j.classK 3 p
    | none => ((s.readCe m j.rank j.ra j.addr j.classK 3 chk).mergeBytes m j.rank j.ra j.addr j.data).emit (.dram j.req j.addr .ok [])

/-- The entries that `p` selects are served, oldest first, with no error that the code finds. -/
def State.serveJobs (s : State) (m : Nat) (p : RdJob → Bool) : State :=
  let mine := (s.mch m).jobs.filter p
  if mine.isEmpty then s
  else
    let s := s.modMch m fun r => { r with jobs := r.jobs.filter fun j => !p j }
    mine.foldl (fun t j => t.doJob m j .clean) s

/-- Is an entry for the block that holds a rank address? -/
def RdJob.at_ (j : RdJob) (rank ra : Nat) : Bool := j.rank == rank && j.ra / 64 == ra / 64

/-- What waits for a block takes effect before an access that one row makes as a whole (R397; DEDUCED: assumption 42). -/
def State.settleBlock (s : State) (m rank ra : Nat) : State := s.serveJobs m fun j => j.at_ rank ra

/-- Entry into self-refresh (R412): the queues drain, and each rank takes the mask of PASR; a channel that is in it stays so. -/
def State.srEnter (s : State) (m : Nat) : State :=
  if s.isReady (MEM_M_STATUS_STATE m) && !s.anyRunning && !s.frozen
      && (List.range 2).all (fun n => s.get (MEM_M_MIG_STATE n) != migRUNNING) then
    if s.flag (MEM_M_SR_ACTIVE m) then s
    else
      let s := s.serveJobs m fun _ => true
      (s.setFlag (MEM_M_SR_ACTIVE m) true).modMch m fun r => { r with kept := s.rd (MEM_M_PASR m) }
  else s.memRefuse

/-! ### The initialisation fill (R413) -/

/-- Blocks in one eighth of a rank. -/
def State.perEighth (s : State) (m : Nat) : Nat := s.rankCap m / 512

/-- The place of a block in the order of the fill, for a block of an eighth in MASK. -/
def State.fillIndex (s : State) (m ra : Nat) : Nat :=
  let e := s.eighth m ra
  let mask := (s.mch m).fillMk
  ((List.range e).filter (bitOf mask)).length * s.perEighth m + ra / 64 % s.perEighth m

/-- Does the fill write the block of a rank and rank address on its way from place `i` to place `n`? -/
def State.fillHits (s : State) (m i n rank ra : Nat) : Bool :=
  let at_ := s.fillIndex m ra
  rank == (s.mch m).fillRk && bitOf (s.mch m).fillMk (s.eighth m ra) && decide (i ≤ at_) && decide (at_ < n)

/-- The fill activates each row once, at the first block of it that it writes (R416; assumption 14): the activates between places
`i` and `n` of its order. -/
def State.fillActs (s : State) (m i n : Nat) : State :=
  let per := s.perEighth m
  let rank := (s.mch m).fillRk
  let eighths := (List.range 8).filter (bitOf (s.mch m).fillMk)
  let run := 2 ^ (4 + if s.flag (MEM_M_CFG_WIDTH m) then 6 else 7)   -- blocks that share a row of each of 16 banks
  let first := ceilDiv i run
  if s.get (MEM_M_ACG_THR m) = 0 then s
  else (List.range (ceilDiv (min n (eighths.length * per)) run - first)).foldl (fun t x =>
    let place := (first + x) * run
    forN 16 (fun k u => u.acgCount m rank ((eighths.getD (place / per) 0 * per + place % per + k) * 64)) t) s

/-- The fill writes zeros to the blocks from its position up to place `n`, each as a request of its own (R397, R413). -/
def State.fillTo (s : State) (m n : Nat) : State :=
  let i := (s.mch m).fillAt
  let s := (s.srExit m).fillActs m i n
  let s := s.serveJobs m fun j => s.fillHits m i n j.rank j.ra
  (s.dropBlocks m (s.fillHits m i n)).modMch m fun r => { r with fillAt := max i n }

/-- May the fill proceed? (R403, R413) -/
def State.filling (s : State) (m : Nat) : Bool :=
  s.flag (MEM_M_INIT_BUSY m) && s.isReady (MEM_M_STATUS_STATE m) && !s.frozen

/-- Is a slot for column commands free that neither queue claims (R396)? An entry claims every slot until it is served (DESIGN
CHOICE: assumption 42). -/
def State.idleSlot (s : State) (m : Nat) : Bool := (s.mch m).jobs.isEmpty

/-- Between two accesses the fill writes some blocks, in slots that neither queue claims (R396; assumption 14). -/
def State.fillSome (m : Nat) (s : State) : State :=
  if s.filling m && s.idleSlot m then (s.fillTo m ((s.mch m).fillAt + Config.fillStep s.fresh)).nextFresh else s

/-! ### Requests (R392, R395 to R398, R407, R411) -/

/-- The part of a request that lies in one block: its address and length. -/
def blockParts (a len : Nat) : List (Nat × Nat) :=
  if len = 0 then []
  else (List.range ((a + len - 1) / 64 - a / 64 + 1)).map fun i =>
    let lo := max a ((a / 64 + i) * 64)
    let hi := min (a + len) ((a / 64 + i + 1) * 64)
    (lo, hi - lo)

/-- Why a block is not performed, or its place: beyond the capacity or a channel that is not READY (R392), frozen (R403), or a
class V access to a rank that migrates (R407). -/
def State.blockPlace (s : State) (classK : Bool) (a : Nat) : DStatus ⊕ (Nat × Nat × Nat) :=
  if s.frozen then .inl .frozen
  else match s.dramChan a, s.dramPlace a with
    | some (m, c), some (_, r, ra) =>
      if !s.isReady (MEM_M_STATUS_STATE m) then .inl .nomap
      else if !classK && s.migrating m (s.physRank m (c / s.rankCap m)) then .inl .migrating
      else .inr (m, r, ra)
    | _, _ => .inl .nomap

/-- A block that is not mapped is counted and recorded (R392). -/
def State.countNomap (s : State) (a : Nat) (st : DStatus) : State :=
  if st = .nomap then
    (s.bumpSat MEM_NOMAP_CNT).raise 0x150 (match s.dramChan a with
      | some (m, _) => m
      | none => 0) (blockArg a)
  else s

/-- A read of a block that matches a queued write is held behind it, and counted (R397). -/
def State.countHeld (s : State) (m rank ra : Nat) : State :=
  s.when ((s.mch m).jobs.any fun j => !j.reads && j.at_ rank ra) fun t => t.bumpWrap (MEM_M_HAZ_CNT m)

/-- Entries of a class's queue (R396). -/
def queueSize (classK : Bool) : Nat := if classK then 32 else 64

/-- One block of a request (R392, R396 to R398): it enters the queue of its class, waits for an entry of a queue that is full, or is not
performed, which completes it at once. A full write completes as it enters. A block waits outside the queue (DEDUCED: assumption 123). -/
def State.reqBlock (r : DramReq) (s : State) (part : Nat × Nat) : State :=
  let (a, len) := part
  match s.blockPlace r.classK a with
  | .inl st => (s.countNomap a st).emit (.dram r.requester a st [])
  | .inr (m, rank, ra) =>
    if queueSize r.classK ≤ (s.mch m).queued r.classK then { s with dramWait := s.dramWait ++ [(r, a, len)] }
    else
    let s := (s.srExit m).activate m rank ra
    let job (kind : JobKind) (data : List Byte) : RdJob :=
      { req := r.requester, classK := r.classK, addr := a, rank := rank, ra := ra, len := len, data := data, kind := kind }
    let put (t : State) (j : RdJob) : State := t.modMch m fun x => { x with jobs := x.jobs ++ [j] }
    match r.data with
    | some d =>
      let bytes := (d.drop (a - r.addr.toNat)).take len
      if len = 64 then (put s (job .full bytes)).emit (.dram r.requester a .ok []) else put s (job .merge bytes)
    | none => put (s.countHeld m rank ra) (job .read [])

/-- The blocks that wait are presented again, in their order (R396). -/
def State.dramFeed (s : State) : State := s.dramWait.foldl (fun t x => State.reqBlock x.1 t x.2) { s with dramWait := [] }

/-- DRAM_REQUEST (R392, R395 to R398). A write brings as many bytes as it names. -/
def dramRequest (r : DramReq) (s : State) : State :=
  if (match r.data with
      | some d => d.length == r.len
      | none => true) then
    (blockParts r.addr.toNat r.len).foldl (State.reqBlock r) (forN 2 State.fillSome s.dramFeed)
  else s

/-- The entries whose column commands can issue (R396, R397): the oldest of each block. -/
def Mch.ready (r : Mch) : List RdJob := r.jobs.filter fun x => (r.jobs.find? fun y => y.at_ x.rank x.ra) == some x

/-- Does a class have a column command ready? -/
def Mch.hasReady (r : Mch) (classK : Bool) : Bool := r.ready.any fun j => j.classK == classK

/-- The class that gets the next column command where both queues have one ready (R396): VMIN of each 16 go to class V and the
others to class K; within that the schedule is free, and `want` asks for class K. -/
def Mch.nextK (r : Mch) (vmin : Nat) (want : Bool) : Bool :=
  if vmin ≤ r.slotsV then true else if 16 - r.slots ≤ vmin - r.slotsV then false else want

/-- A column command of a class has taken its slot of 16 (R396). -/
def Mch.slot (r : Mch) (k : Bool) : Mch :=
  if r.slots = 15 then { r with slots := 0, slotsV := 0 }
  else { r with slots := r.slots + 1, slotsV := r.slotsV + if k then 0 else 1 }

/-- The class of the next column command (R396), where any entry waits: the schedule prefers class K if `k`. -/
def Mch.nextCls (r : Mch) (vmin : Nat) (k : Bool) : Bool :=
  if r.hasReady false && r.hasReady true then r.nextK vmin k else r.hasReady true

/-- The entry that is served next: the schedule prefers class K if `k`, and entry `i` of those of the class that are ready. -/
def Mch.nextJob (r : Mch) (vmin : Nat) (k : Bool) (i : Nat) : Option RdJob :=
  let q := r.ready.filter fun j => j.classK == r.nextCls vmin k
  q[i]?.or q.head?

/-- DRAM_READ_COMPLETE (R396 to R404): a column command is carried out, and what it completes is completed; `chk` is what the code of
R394 found. The row stands for the column command of a full write too (DESIGN CHOICE: assumption 42). -/
def dramReadComplete (m : Nat) (k : Bool) (i : Nat) (chk : RdCheck) (s : State) : State :=
  let vmin := s.get MEM_QOS_VMIN
  match (s.mch m).nextJob vmin k i with
  | none => s
  | some j =>
    let s := s.modMch m fun r =>
      let r' := if r.hasReady false && r.hasReady true then r.slot (r.nextCls vmin k) else r
      { r' with jobs := r.jobs.erase j }
    ((s.tstHit m 0).doJob m j chk).dramFeed.memDrained m

/-- A return path has been revoked (R399). -/
def State.revoked (s : State) : State := (s.bumpSat MEM_RET_REVOKE_CNT).raise 0x14D 0

/-- RET_REVOKE (R399): the returns of a requester that takes no data complete with REVOKED, and their entries are freed. -/
def retRevoke (requester : Nat) (s : State) : State :=
  let mine (j : RdJob) : Bool := j.req == requester && j.reads
  if (List.range 2).any fun m => (s.mch m).jobs.any mine then
    let s := forN 2 (fun m t =>
      let t1 := ((t.mch m).jobs.filter mine).foldl (fun u j => u.emit (.dram j.req j.addr .revoked [])) t
      (t1.modMch m fun r => { r with jobs := r.jobs.filter fun j => !mine j })) s
    forN 2 (fun m t => t.memDrained m) s.revoked.dramFeed
  else s

/-- MEM_FREEZE_RELEASE (R404). -/
def wrFreezeRel (v : Word) (s : State) : State :=
  if v = 0x0000A5C3#32 && s.frozen then (s.setFlag MEM_STATUS_FROZEN false).raise 0x143 0 else s

/-! ### Accesses of the device's own units -/

/-- What the row says of the next block of its accesses (R394, R399): the error that the code finds, or a status. -/
def State.seeBlock (s : State) : State × RdCheck × DStatus :=
  match s.seen with
  | [] => (s, .clean, .ok)
  | (n + 1, f) :: rest => ({ s with seen := (n, f) :: rest }, .clean, .ok)
  | (0, .ce g) :: rest => ({ s with seen := rest }, .correctable g, .ok)
  | (0, .fail .ue) :: rest => ({ s with seen := rest }, .uncorrectable, .ok)
  | (0, .fail st) :: rest => ({ s with seen := rest }, .clean, st)

/-- An access of a unit reaches a block that is performed: what waits for the block goes first, and the fill moves on. -/
def State.reach (s : State) (m rank ra : Nat) : State :=
  (((State.fillSome m s).settleBlock m rank ra).dramFeed.srExit m).activate m rank ra

/-- The first status that is not OK. -/
def firstBad (a b : DStatus) : DStatus := if a = .ok then b else a

/-- A read of `len` bytes by a unit of the device, block by block: the first status that is not OK, and the bytes, zeros where a
block is not delivered. -/
def State.unitRead (s : State) (classK : Bool) (a len : Nat) : State × DStatus × List Byte :=
  (blockParts a len).foldl (fun (acc : State × DStatus × List Byte) part =>
    let (s, st, bytes) := acc
    let (a, len) := part
    let (s, chk, seen) := s.seeBlock
    let lost (t : State) (e : DStatus) : State × DStatus × List Byte := (t, firstBad st e, bytes ++ List.replicate len 0)
    match s.blockPlace classK a with
    | .inl e => lost (s.countNomap a e) e
    | .inr (m, rank, ra) =>
      let back (t : State) : State := ((t.countHeld m rank ra).reach m rank ra).tstHit m 0
      if seen = .revoked then lost (back s).revoked .revoked
      else if seen ≠ .ok then lost (s.countNomap a seen) seen
      else
        let s := back s
        match s.readUe m rank ra chk with
        | some p => lost (s.memUe m rank ra a classK 0 p) .ue
        | none =>
          let (s, b) := (s.readCe m rank ra a classK 0 chk).capture m rank ra a len
          (s, st, bytes ++ b)) (s, .ok, [])

/-- A write by a unit of the device, block by block: the first status that is not OK. -/
def State.unitWrite (s : State) (classK : Bool) (a : Nat) (bytes : List Byte) : State × DStatus :=
  (blockParts a bytes.length).foldl (fun (acc : State × DStatus) part =>
    let (s, st) := acc
    let (pa, len) := part
    let piece := (bytes.drop (pa - a)).take len
    let (s, chk, seen) := s.seeBlock
    match s.blockPlace classK pa with
    | .inl e => (s.countNomap pa e, firstBad st e)
    | .inr (m, rank, ra) =>
      if seen ≠ .ok ∧ seen ≠ .revoked then (s.countNomap pa seen, firstBad st seen)
      else
        let s := s.reach m rank ra
        if len = 64 then (s.putBlock m rank ra piece, st)
        else match s.readUe m rank ra chk with
          | some p => ((s.poisonBlock m rank ra).memUe m rank ra pa classK 3 p, firstBad st .ue)
          | none => ((s.readCe m rank ra pa classK 3 chk).mergeBytes m rank ra pa piece, st)) (s, .ok)

/-! ### Migration (R407 to R409) -/

/-- MIGRATION_BLOCK_COPY (R407, R409): the mover copies the block at the pointer. -/
def migrationBlockCopy (m : Nat) (chk : RdCheck) (s : State) : State :=
  if s.get (MEM_M_MIG_STATE m) == migRUNNING && !s.frozen && s.isReady (MEM_M_STATUS_STATE m) then
    let p := (s.mch m).migP
    let sp := s.get (MEM_M_SPARE_RANK m)
    let blk := s.get (MEM_M_MIG_PTR_BLOCK m)
    let ra := blk * 64
    let a := s.physAddr m p ra
    let s := ((s.settleBlock m p ra).activate m p ra).activate m sp ra
    let s := match s.readUe m p ra chk with
      | some was =>
        let s := (s.lastUe m p ra a false 2 was).poisonBlock m sp ra
        (s.bumpSat (MEM_M_MIG_POISON_CNT m)).raise 0x146 m (blockArg a)
      | none =>
        let (s, bytes) := (s.readCe m p ra a false 2 chk).capture m p ra a 64
        s.putBlock m sp ra bytes
    let s := s.set (MEM_M_MIG_PTR_BLOCK m) (blk + 1)
    if s.rankCap m ≤ (blk + 1) * 64 then
      let s := (s.set (MEM_M_MIG_STATE m) migDONE).set (MEM_M_MIG_FAILED m) p
      let s := (List.range 4).foldl (fun t l =>
        if l < t.mappedRanks m && s.physRank m l == p then t.set ⟨MEM_M_RANKMAP m, 2 * l, 2⟩ sp else t) s
      s.raise 0x145 m
    else s
  else s

/-- While a rank migrates, and until the next Volley edge after it, pools stage nothing and the archive writes nothing to the rank
that took its place (R227, R305, R409). -/
def State.migHeld (s : State) (m : Nat) : Bool := (s.mch m).hold

/-- A channel at a Volley edge (R409). -/
def State.migEdge (m : Nat) (s : State) : State :=
  s.when (s.migHeld m && s.get (MEM_M_MIG_STATE m) != migRUNNING) fun t => t.modMch m fun r => { r with hold := false }

/-! ### Refresh, training and the guard's clear -/

/-- REFRESH (R410): the stored bytes stay as they are. -/
def refreshRank (_ : Nat) (s : State) : State := s

/-- MR4_READ (R410). -/
def mr4Read (m : Nat) (hot : Bool) (s : State) : State :=
  if s.isOff (MEM_M_STATUS_STATE m) then s
  else
    let was := s.flag (MEM_M_STATUS_HOT m)
    (s.setFlag (MEM_M_STATUS_HOT m) hot).when (hot && !was) fun t => t.raise 0x151 m

/-- ACG_TABLE_CLEAR (R416). -/
def acgTableClear (m : Nat) (s : State) : State := s.modMch m fun r => { r with acg := [] }

/-- A write of MEM_Mn_LOST (R411). -/
def wrLost (m : Nat) (v : Word) (s : State) : State := s.plainWrite (MEM_M_LOST m) v

/-- SELF_REFRESH_ENTER (R412). -/
def srEnterCmd (m : Nat) (s : State) : State := (s.srEnter m).dramFeed

/-- SELF_REFRESH_EXIT (R412). -/
def srExitCmd (m : Nat) (s : State) : State := s.srExit m

/-- A write of MEM_Mn_SR (R412). -/
def wrMemSr (m : Nat) (v : Word) (s : State) : State :=
  let s := s.when (bitOf v.toNat 0) fun t => (t.srEnter m).dramFeed
  s.when (bitOf v.toNat 1) fun t => t.srExit m

/-- A write of MEM_Mn_INIT (R413): a GO while BUSY has no effect. A fill takes RANK and MASK as at its GO (DEDUCED: assumption 36). -/
def wrMemInit (m : Nat) (v : Word) (s : State) : State :=
  let s := s.plainWrite (MEM_M_INIT m) v
  s.when (bitOf v.toNat 0 && !s.flag (MEM_M_INIT_BUSY m)) fun t =>
    (t.setFlag (MEM_M_INIT_BUSY m) true).modMch m fun r =>
      { r with fillAt := 0, fillRk := t.get (MEM_M_INIT_RANK m), fillMk := t.get (MEM_M_INIT_MASK m) }

/-- INIT_DONE (R413): the fill has reached its end. What is left of it needs slots that neither queue claims (R396). -/
def initDone (m : Nat) (s : State) : State :=
  if s.filling m && s.idleSlot m then
    let r := s.mch m
    let s := s.fillTo m (8 * s.perEighth m)
    let gone : Word := BitVec.ofNat 32 (r.fillMk * 2 ^ (8 * r.fillRk))
    let s := s.wr (MEM_M_LOST m) (s.rd (MEM_M_LOST m) &&& ~~~gone)
    (s.setFlag (MEM_M_INIT_BUSY m) false).setFlag (MEM_M_INIT_DONE m) true
  else s

/-- RETRAIN (R414): the pause that retrains one rank; `beyond` says that the drift lay outside what it can correct. -/
def retrain (m : Nat) (beyond : Bool) (s : State) : State :=
  if s.isReady (MEM_M_STATUS_STATE m) && s.get (MEM_M_RETRAIN_PERIOD m) != 0 && !s.flag (MEM_M_SR_ACTIVE m) then
    let ranks := orOne (s.get (MEM_M_CFG_RANKS m))
    let s := s.modMch m fun r => { r with rtRank := (r.rtRank + 1) % ranks }
    s.when beyond fun t => (t.setFlag (MEM_M_STATUS_MARGIN m) true).raise 0x149 m
  else s

/-- A write of MEM_Mn_TRAIN (R415). -/
def wrMemTrain (m : Nat) (v : Word) (s : State) : State :=
  let s := s.plainWrite (MEM_M_TRAIN m) v
  if !bitOf v.toNat 0 then s
  else if s.anyRunning || s.frozen then s.memRefuse
  else s.setFlag (MEM_M_TRAIN_BUSY m) true

/-- TRAIN_DONE (R415). -/
def trainDone (m : Nat) (failed : Bool) (s : State) : State :=
  if s.flag (MEM_M_TRAIN_BUSY m) then
    let s := ((s.setFlag (MEM_M_TRAIN_BUSY m) false).setFlag (MEM_M_TRAIN_DONE m) true).raise 0x14A m
    s.when failed fun t => (t.setFlag (MEM_M_TRAIN_ERR m) true).raise 0x14B m
  else s

/-! ### Patrol scrub (R418) -/

/-- Does patrol scrub read the eighth `e` (rank times 8 plus eighth) of channel `m`? It skips LOST eighths and retired ranks. -/
def State.scrubbed (s : State) (m e : Nat) : Bool :=
  !bitOf (s.rdN (MEM_M_LOST m)) e && !(s.get (MEM_M_MIG_STATE m) == migDONE && s.get (MEM_M_MIG_FAILED m) == e / 8)

/-- The first block from rank times blocks-per-rank plus block `i` on that scrub reads, before the end of the pass. -/
def State.scrubFrom (s : State) (m i : Nat) : Option Nat :=
  let per := s.perEighth m
  let e := i / per
  if e < 8 * s.get (MEM_M_CFG_RANKS m) && s.scrubbed m e then some i
  else ((List.range (8 * s.get (MEM_M_CFG_RANKS m))).find? fun x => decide (e < x) && s.scrubbed m x).map fun x => x * per

/-- Scrub moves on to block `i`, or ends its pass (R418). -/
def State.scrubTo (s : State) (m i : Nat) : State :=
  let put (t : State) (i : Nat) : State :=
    let per := 8 * t.perEighth m
    (t.set (MEM_M_SCRUB_POS_BLOCK m) (i % per)).set (MEM_M_SCRUB_POS_RANK m) (i / per)
  match s.scrubFrom m i with
  | some i => put s i
  | none => put ((s.bumpWrap (MEM_M_SCRUB_PASS m)).raise 0x14C m) ((s.scrubFrom m 0).getD 0)

/-- SCRUB_READ (R418): patrol scrub reads the block at its position, and moves on. -/
def scrubRead (m : Nat) (chk : RdCheck) (s : State) : State :=
  if s.flag (MEM_M_SCRUB_EN m) && !s.throttled && s.isReady (MEM_M_STATUS_STATE m) && !s.frozen && !s.flag (MEM_M_SR_ACTIVE m)
      && s.get (MEM_M_MIG_STATE m) != migRUNNING && s.idleSlot m then
    let per := 8 * s.perEighth m
    match s.scrubFrom m (s.get (MEM_M_SCRUB_POS_RANK m) * per + s.get (MEM_M_SCRUB_POS_BLOCK m)) with
    | none => s.scrubTo m (per * 4)
    | some i =>
      let rank := i / per
      let ra := i % per * 64
      let a := s.physAddr m rank ra
      let spare := s.flag (MEM_M_SPARE_EN m) && rank == s.get (MEM_M_SPARE_RANK m)
      let s := s.activate m rank ra
      let s := match s.readUe m rank ra chk with
        | some was =>
          let idle := !s.flag (MEM_M_SPARE_USED m)
          let s := (s.poisonBlock m rank ra).memUe m rank ra a false 1 was
          s.when (spare && idle) fun t => t.setFlag (MEM_M_SPARE_BAD m) true
        | none => s.readCe m rank ra a false 1 chk
      s.scrubTo m (i + 1)
  else s

/-! ### The diagnostic port (R419) -/

/-- A write of MEM_DIAG_CTRL (R419): GO takes the address as it stands. -/
def wrDiagCtrl (v : Word) (s : State) : State :=
  let busy := s.flag MEM_DIAG_CTRL_BUSY
  let s := s.plainWrite MEM_DIAG_CTRL v
  if bitOf v.toNat 0 && !busy then
    let a := s.rdN MEM_DIAG_ADDR_LO / 64 * 64 + s.rdN MEM_DIAG_ADDR_HI % 256 * 2 ^ 32
    let k := if s.flag MEM_DIAG_CTRL_PHYS then some (dramKey (s.get MEM_DIAG_CTRL_CH) (s.get MEM_DIAG_CTRL_RANK) (a % 2 ^ 36))
      else (s.dramPlace a).map fun x => dramKey x.1 x.2.1 x.2.2
    { s.setFlag MEM_DIAG_CTRL_BUSY true with diagAt := k }
  else s

/-- DIAG_READ_DONE (R419): `flip` marks the bits that differ from those last stored, `chk` is the check bits of the device. -/
def diagReadDone (flip : BitVec 512) (chk : BitVec 128) (s : State) : State :=
  if s.flag MEM_DIAG_CTRL_BUSY then
    let stored := match s.diagAt with
      | some k => leNat (memTake s.dram k 64)
      | none => 0
    let raw := stored ^^^ flip.toNat
    let s := match s.diagAt with
      | some k => s.activate (k / 2 ^ 38 % 2) (k / 2 ^ 36 % 4) (k % 2 ^ 36)
      | none => s
    let s := forN 16 (fun i t => t.wr (MEM_DIAG_DATA i) (BitVec.ofNat 32 (raw / 2 ^ (32 * i)))) s
    let s := forN 4 (fun i t => t.wr (MEM_DIAG_CHK i) (BitVec.ofNat 32 (chk.toNat / 2 ^ (32 * i)))) s
    { (s.setFlag MEM_DIAG_CTRL_BUSY false).setFlag MEM_DIAG_CTRL_DONE true with diagAt := none }
  else s

/-! ### Register writes -/

/-- What MEM_Mn_CAP reads (R392, R421). -/
def State.memCap (s : State) (m : Nat) : Word := BitVec.ofNat 32 (s.chCap m / 2 ^ 30 % 256)

/-- Writes of the MEM registers. -/
def wrMemReg (off : Nat) (v : Word) (s : State) : State :=
  let m := (off - 0x081000) / 0x1000
  if off < 0x081000 then
    match off with
    | 0x080000 => wrMemIlv v s
    | 0x080008 => wrFreezeRel v s
    | 0x08000C => wrMemQos v s
    | 0x080020 => s.plainWrite off (v &&& 0xFFFFFFC0)
    | 0x080028 => wrDiagCtrl v s
    | _ => s.plainWrite off v
  else if m < 2 then
    match off % 0x1000 with
    | 0x000 => wrMemCtrl m v s
    | 0x008 | 0x00C | 0x010 | 0x018 => wrMemOffOnly m off v s
    | 0x024 => wrMemSr m v s
    | 0x02C => wrMemTrain m v s
    | 0x048 => wrMemInit m v s
    | _ => s.plainWrite off v
  else s

end Sys2Proof.Machine
end

