-- ==== Sys2Proof/Machine/Load.lean ====
section
/-! DEFINITION. Two units of the device that read DRAM for themselves (R402, R403): the Court Map's loader (R207) and the staging of
pools (R227). -/

namespace Sys2Proof.Machine

/-- Does the model's own memory refuse a read at an address (R392, R401, R403)? -/
def State.refuses (s : State) (classK : Bool) (a : Nat) : Bool :=
  match s.blockPlace classK a with
  | .inl _ => true
  | .inr (m, rank, ra) => (s.readUe m rank ra .clean).isSome

/-! ### The staging of pools (R227) -/

/-- POOL_STAGE_READ_DONE (R227): a staging read of a slot completes; the slot is staged, retired or left for another try. Slots
from SIZE on are no slots (R225), and nothing is staged while a rank migrates, nor until the next Volley edge after it (R409). -/
def poolStageReadDone (p i : Nat) (s : State) : State :=
  if s.isReady (ARB_POOL_STATUS_STATE p) && s.slotState p i == slFREE && decide (i < s.get (ARB_POOL_LOADED_LOADED p))
      && decide (i < (s.pool p).size) && !s.migHeld 0 && !s.migHeld 1
      && !((s.pool p).staged.any fun x => x.1 == i) && decide (s.freeBelow p i < 16) then
    let (s, st, bytes) := s.unitRead false ((s.pool p).base + i * 32) 32
    match st with
    | .ok =>
      let w := slotRegion bytes
      let kinds := (tilesOf w).map s.tileEntry
      let common := (List.range 32).any fun b => kinds.all fun e => entReach e b
      if !s.regionOk w || kinds.any (fun e => entKind e == 0) || !common then
        s.retire p i 3 0 (slotVid bytes) 0 0 0
      else s.modPool p fun q => { q with staged := stageInsert i bytes q.staged }
    | .ue => s.retire p i 2 0 0 0 0 0
    | _ => s
  else s

/-! ### The Court Map's loader (R205, R207) -/

/-- Put map entries in place, from entry `i` on, checking each (R205). -/
def State.mapPut (s : State) (i : Nat) : List Byte → State
  | b0 :: b1 :: b2 :: b3 :: b4 :: b5 :: b6 :: b7 :: rest =>
    let e := leNat [b0, b1, b2, b3, b4, b5, b6, b7]
    State.mapPut ((s.wr64 (COURT_MAP (2 * i)) e).mapErr (entryBad e)) (i + 1) rest
  | _ => s

/-- Copy `n` blocks of eight map entries, from block `k` on: true once all have been copied. Of a block whose read fails, `got`
entries came in reads of their own before (R207; DESIGN CHOICE: assumption 46). -/
def State.mapCopy (a got : Nat) : Nat → Nat → State → State × Bool
  | 0, _, s => (s, true)
  | n + 1, k, s =>
    let at_ := a + 64 * k
    let early := if s.refuses true at_ then [] else (s.dramTake at_ 64).take (8 * got)
    let (s, st, bytes) := s.unitRead true at_ 64
    if st = .ok then State.mapCopy a got n (k + 1) (s.mapPut (8 * k) bytes) else (s.mapPut (8 * k) early, false)

/-- The copy ends, after every entry or at the first failing entry: the state, and whether every entry was copied (R207). -/
def State.mapLoadEnd (got : Nat) (s : State) : State × Bool :=
  let (s, ok) := State.mapCopy s.mapFrom got 2048 0 s
  let s := s.setFlag ARB_MAP_LOAD_CTRL_BUSY false
  if ok then (s.setFlag ARB_MAP_LOAD_CTRL_DONE true, true)
  else (((s.setFlag ARB_MAP_LOAD_CTRL_ERR true).setFlag ARB_STATUS_MAP_ERR true).raise 0x088 0, false)

end Sys2Proof.Machine
end

