-- ==== Sys2Proof/Machine/Cam.lean ====
section
/-! DEFINITION. Camera ports and contexts (R272 to R282, R306 to R313): packets, frames, settings generations, triggers. -/

namespace Sys2Proof.Machine

/-- The port's record. -/
def State.port (s : State) (n : Nat) : CamPort := recGet s.ports n
/-- Change a port's record. -/
def State.modPort (s : State) (n : Nat) (f : CamPort → CamPort) : State := { s with ports := recSet s.ports n (f (s.port n)) }
/-- The context's record. -/
def State.ctx (s : State) (c : Nat) : CamCtx := recGet s.ctxs c
/-- Change a context's record. -/
def State.modCtx (s : State) (c : Nat) (f : CamCtx → CamCtx) : State := { s with ctxs := recSet s.ctxs c (f (s.ctx c)) }

/-- Is a context a layer context? -/
def isLy (c : Nat) : Bool := decide (32 ≤ c)

/-- How many edges a request that acts at the first edge at least 1.0 us later must see (R55, R307). -/
def State.dueIn (s : State) : Nat := if s.late then 2 else 1

/-- Change the frames of a context. -/
def State.modFrames (s : State) (c : Nat) (f : CamFrame → CamFrame) : State :=
  s.modCtx c fun x => { x with frames := x.frames.map f }

/-- The open frame of a context. -/
def CamCtx.opened (x : CamCtx) : Option CamFrame := x.frames.find? CamFrame.open_

/-- Set a mark of R297 in a frame. -/
def CamFrame.mark (f : CamFrame) (bit : Nat) : CamFrame := { f with flags := f.flags ||| 2 ^ bit }

/-- Mark the open frame of a context. -/
def State.markOpen (s : State) (c bit : Nat) : State := s.modFrames c fun f => if f.open_ then f.mark bit else f

/-- The contexts that are not OFF on a port. -/
def State.ctxsOn (s : State) (p : Nat) : List Nat :=
  (List.range 36).filter fun c => !s.isOff (CAM_CTX_STATUS_STATE c) && s.get (CAM_CTX_CTRL_PORT c) == p

/-- Mark every frame open on a port. -/
def State.markPort (s : State) (p bit : Nat) : State := (s.ctxsOn p).foldl (fun t c => t.markOpen c bit) s

/-- A port error of R312: counter, flag and event. -/
def State.portErr (s : State) (p cnt flag ev : Nat) : State :=
  ((s.bumpSat cnt).set ⟨CAM_CP_STATUS p, flag, 1⟩ 1).raise ev p

/-- The open frame of a context closes; a frame without a record leaves. -/
def State.closeFrame (s : State) (c : Nat) (bits : List Nat) : State :=
  s.modCtx c fun x =>
    { x with frames := (x.frames.map fun f =>
        if f.open_ then { bits.foldl CamFrame.mark f with open_ := false } else f).filter fun f => f.open_ || !f.norec }

/-! ### Settings generations (R306 to R311) -/

/-- The seven shadow settings of a context. -/
def State.shadow (s : State) (c : Nat) : List Word := (List.range 7).map fun i => s.rd (CAM_CTX_ORG c + 4 * i)

/-- The registers that show the settings in force (R306). -/
def State.setActive (s : State) (c : Nat) (l : List Word) : State :=
  (l.zipIdx).foldl (fun t x => t.wr (CAM_CTX_ACT_ORG c + 4 * x.2) x.1) s

/-- PENDING follows the generations that are not yet in force (R315). -/
def State.syncPending (s : State) (c : Nat) : State := s.setFlag (CAM_CTX_STATUS_PENDING c) (!(s.ctx c).gens.isEmpty)

/-- Is a sensor write item in use? SRC = 0 and 5 to 7 are not (R308, R315). -/
def State.cciUsed (s : State) (c i : Nat) : Bool :=
  let src := s.get (CAM_CTX_CCI_SRC c i)
  decide (1 ≤ src) && decide (src ≤ 4)

/-- The first item in use from `i` on. -/
def State.cciNext (s : State) (c i : Nat) : Option Nat := (List.range 4).find? fun j => decide (i ≤ j) && s.cciUsed c j

/-- Change a generation of a context. -/
def State.modGen (s : State) (c num : Nat) (f : CamGen → CamGen) : State :=
  s.modCtx c fun x => { x with gens := x.gens.map fun g => if g.num = num then f g else g }

/-- The bytes of one sensor write after START (R308): address, register, and the low BYTES + 1 bytes of the value. -/
def State.cciBytes (s : State) (c i : Nat) (sets : List Word) : List Byte :=
  let w (k : Nat) : Nat := (sets.getD k 0).toNat
  let v := match s.get (CAM_CTX_CCI_SRC c i) with
    | 1 => w 0 % 4096
    | 2 => w 0 / 2 ^ 16 % 4096
    | 3 => w 1 % 2 ^ 24
    | _ => w 2 % 2 ^ 16
  let reg := s.get (CAM_CTX_CCI_REG c i)
  [BitVec.ofNat 8 (s.rdN (CAM_CTX_CCI_DEV c) % 128 * 2), BitVec.ofNat 8 (reg / 256), BitVec.ofNat 8 reg]
    ++ (leBytes (s.get (CAM_CTX_CCI_BYTES c i) + 1) v).reverse

/-- The port's master starts an item of the generation at the head of its queue. -/
def State.cciStart (s : State) (p c num i : Nat) : State :=
  let sets := (((s.ctx c).gens.find? fun g => g.num == num).map CamGen.sets).getD []
  (s.emit (.cci p (s.cciBytes c i sets))).modGen c num fun g => { g with item := i }

/-- The commit instant of a generation (R309). -/
def State.commitInstant (s : State) (c num : Nat) : State :=
  (s.modGen c num fun g => { g with done := true }).modCtx c fun x => { x with go := true }

/-- The head of a port's queue leaves, and the next generation's writes start (R308). A generation whose context has gone OFF
meanwhile is passed over. -/
def State.cciPop (s : State) (p : Nat) : State :=
  let rest := (s.port p).cci.drop 1 |>.filter fun x => (s.ctx x.1).gens.any fun g => g.num == x.2
  let s := s.modPort p fun r => { r with cci := rest }
  match rest with
  | (c, num) :: _ => s.cciStart p c num ((s.cciNext c 0).getD 0)
  | [] => s

/-- A generation is pending while it waits in a queue and its writes have not started (R309). -/
def State.pendingGen (s : State) (c : Nat) : Option Nat :=
  let q := (s.port (s.get (CAM_CTX_CTRL_PORT c))).cci
  ((q.drop 1).find? fun x => x.1 == c).map Prod.snd

/-- The commit of a context at a Volley edge (R307, R309). -/
def State.commitCtx (s : State) (c : Nat) : State :=
  let sets := s.shadow c
  let s := s.modCtx c fun x => { x with orgW := false }
  match s.pendingGen c with
  | some num => (s.modGen c num fun g => { g with sets := sets }).bumpSat (CAM_CTX_MERGE_CNT c)
  | none =>
    let num := (s.get (CAM_CTX_GEN_LAST c) + 1) % 2 ^ 16
    let s := s.set (CAM_CTX_GEN_LAST c) num
    let s := s.modCtx c fun x =>
      { x with gens := x.gens ++ [{ num := num, sets := sets, item := 0, done := false, cci := false, force := none }] }
    let s := s.syncPending c
    match s.cciNext c 0 with
    | none => s.commitInstant c num
    | some i =>
      let p := s.get (CAM_CTX_CTRL_PORT c)
      let idle := (s.port p).cci.isEmpty
      let s := s.modPort p fun r => { r with cci := r.cci ++ [(c, num)] }
      s.when idle fun t => t.cciStart p c num i

/-- The sensor writes of the generation at the head end: the commit instant, with the CCI mark if a write failed (R311). -/
def State.cciEnd (s : State) (p : Nat) (failed : Bool) : State :=
  match (s.port p).cci with
  | [] => s
  | (c, num) :: _ =>
    let live := (s.ctx c).gens.any fun g => g.num == num
    let s := s.when (failed && live) fun t =>
      (((t.modGen c num fun g => { g with cci := true }).bumpSat (CAM_CTX_CCI_ERR_CNT c)).setFlag (CAM_CTX_STATUS_CCI_ERR c) true).raise
        0x107 c
    (s.when live fun t => t.commitInstant c num).cciPop p

/-- CCI_WRITE_DONE (R308, R311). -/
def cciWriteDone (p : Nat) (ack : Bool) (s : State) : State :=
  match (s.port p).cci with
  | [] => s
  | (c, num) :: _ =>
    if !ack then s.cciEnd p true
    else
      match (s.ctx c).gens.find? fun g => g.num == num with
      | none => s.cciPop p
      | some g => match s.cciNext c (g.item + 1) with
        | some i => s.cciStart p c num i
        | none => s.cciEnd p false

/-- CCI_TIMEOUT (R311). -/
def cciTimeout (p : Nat) (s : State) : State := s.cciEnd p true

/-- A Frame Start settles which generation is in force (R310). -/
def State.forceGens (s : State) (c no : Nat) : State :=
  let lat := s.get (CAM_CTX_CFG_LAT c)
  let gens := (s.ctx c).gens.map fun g => if g.done && g.force.isNone then { g with force := some (no + lat) } else g
  let now (g : CamGen) : Bool := g.force.any fun f => decide (f ≤ no)
  let s := s.modCtx c fun x => { x with gens := gens.filter fun g => !now g }
  match (gens.filter now).getLast? with
  | none => s
  | some g =>
    let s := (s.setActive c g.sets).set (CAM_CTX_GEN_IN_FORCE c) g.num
    (s.modCtx c fun x => { x with forced := true, curCci := g.cci }).syncPending c

/-! ### Context lifecycle (R278 to R282) -/

/-- Does a context's geometry keep R278? -/
def State.geomOk (s : State) (c : Nat) : Bool :=
  let w := s.get (CAM_CTX_GEOM_W c)
  let h := s.get (CAM_CTX_GEOM_H c)
  decide (16 ≤ w) && decide (w ≤ if isLy c then 4096 else 256) && w % 2 == 0
    && decide (16 ≤ h) && decide (h ≤ if isLy c then 3072 else 256) && h % 2 == 0
    && (!s.flag (CAM_CTX_CTRL_DT c) || w % 4 == 0)

/-- May a context start (R279)? -/
def State.ctxOk (s : State) (c : Nat) : Bool :=
  let p := s.get (CAM_CTX_CTRL_PORT c)
  s.geomOk c && s.isReady (CAM_CP_STATUS_STATE p)
    && ((s.ctxsOn p).all fun o => o == c || s.get (CAM_CTX_CTRL_VC o) != s.get (CAM_CTX_CTRL_VC c))

/-- A commit is asked for (R307): it takes place at the first edge at least 1.0 us later. -/
def State.askCommit (s : State) (c : Nat) : State :=
  s.modCtx c fun x => { x with due := x.due ||| s.dueIn }

/-- EN set on a context (R279, R281): generation 1 is committed at the first edge at least 1.0 us later. -/
def State.ctxStart (c : Nat) (s : State) : State :=
  if s.ctxOk c then
    let s := (s.set (CAM_CTX_STATUS_STATE c) stSTARTING).wr (CAM_CTX_GEN c) 0
    let s := (s.wr (CAM_CTX_FRAME c) 0).modCtx c fun x =>
      { x with gens := [], forced := false, curCci := false, count := 0, due := 0, camw := none, go := false, trig := 0, run := x.run + 1 }
    (s.askCommit c).syncPending c
  else (s.set (CAM_CTX_STATUS_STATE c) stFAULT).raise 0x10B c

/-- A context enters OFF (R281): an open frame is discarded. -/
def State.ctxOff (c : Nat) (s : State) : State :=
  let p := s.get (CAM_CTX_CTRL_PORT c)
  let s := s.modCtx c fun x => { x with frames := x.frames.filter fun f => !f.open_, gens := [], due := 0, camw := none, go := false }
  -- a write under way ends for no generation: numbers have 16 bits
  let s := s.modPort p fun r =>
    { r with cci := ((r.cci.take 1).map fun x => if x.1 = c then (c, 2 ^ 16) else x) ++ (r.cci.drop 1).filter fun x => x.1 != c }
  s.syncPending c

/-- A refused write of a context's configuration (R282). -/
def State.ctxRefuse (s : State) (c : Nat) : State := (s.setFlag (CAM_CTX_STATUS_CFG_REFUSED c) true).raise 0x109 c

/-- A write of CAM_CTXn_CTRL (R281, R282, R307): EN and COMMIT always act; the other fields only while the context is OFF and
the write does not set EN. -/
def wrCtxCtrl (c : Nat) (v : Word) (s : State) : State :=
  let off := CAM_CTX_CTRL c
  let old := s.rd off
  let new := writeEff ((regDesc off).getD default) old v
  let sets := bitOf v.toNat 0
  let changed := (old &&& 0xFFFFFFFE) != (new &&& 0xFFFFFFFE)
  let s :=
    if s.isOff (CAM_CTX_STATUS_STATE c) && !sets then s.wr off (fldIns 0 1 new (old.toNat % 2))
    else s.when changed fun t => t.ctxRefuse c
  let s := s.lifeWrite (CAM_CTX_CTRL_EN c) (CAM_CTX_STATUS_STATE c) sets (State.ctxStart c)
    fun t => t.set (CAM_CTX_STATUS_STATE c) stSTOPPING
  let live := s.get (CAM_CTX_STATUS_STATE c) = stSTARTING ∨ s.isReady (CAM_CTX_STATUS_STATE c)
  if bitOf v.toNat 16 ∧ live then s.askCommit c else s

/-- A write of a register that R282 lets software write only while context `c` is OFF. -/
def wrCtxCfg (c off : Nat) (v : Word) (s : State) : State :=
  if s.isOff (CAM_CTX_STATUS_STATE c) then s.plainWrite off v else s.ctxRefuse c

/-- A write of the shadow settings (R306, R307, R315). -/
def wrCtxShadow (c off : Nat) (v : Word) (s : State) : State :=
  let s := s.plainWrite off v
  if off = CAM_CTX_ORG c then s.modCtx c fun x => { x with orgW := true }
  else if off = CAM_CTX_PROC c then s.set (CAM_CTX_PROC_RS c) (min 4 (s.get (CAM_CTX_PROC_RS c)))
  else s

/-- A context at a Volley edge (R281, R187, R307): READY after generation 1's commit instant, OFF after EN was cleared, and
the commits that are due. -/
def State.ctxEdge (c : Nat) (s : State) : State :=
  let st := CAM_CTX_STATUS_STATE c
  let s := s.modFrames c fun f => { f with vols := f.vols + 1 }
  if s.get st = stSTOPPING ∨ s.get st = stSTOPPING_RP then (State.ctxOff c s).stopDone st (State.ctxStart c)
  else
    let s := s.when (s.get st == stSTARTING && (s.ctx c).go) fun t => t.set st stREADY
    let live := s.get st = stSTARTING ∨ s.isReady st
    let x := s.ctx c
    let s := match x.camw with
      | some (ox, oy) =>
        let t := s.when (!x.orgW) fun t => (t.set (CAM_CTX_ORG_X c) ox).set (CAM_CTX_ORG_Y c) oy
        t.modCtx c fun x => { x with camw := none }
      | none => s
    let commit := live && (x.camw.isSome || bitOf x.due 0)
    let s := s.modCtx c fun x => { x with due := x.due / 2 }
    s.when commit fun t => t.commitCtx c

/-! ### Ports (R272, R277) -/

/-- A write of CAM_CPn_CTRL (R277): clearing EN closes every frame open on the port with the SYNC mark. -/
def wrPortCtrl (p : Nat) (v : Word) (s : State) : State :=
  s.wrEnable (CAM_CP_CTRL p) v (CAM_CP_CTRL_EN p) (CAM_CP_STATUS_STATE p)
    (fun t => (t.set (CAM_CP_STATUS_STATE p) stSTARTING).modPort p fun r =>
      { r with cfg := t.rd (CAM_CP_CTRL p) &&& 0x00FF0FB0, ulps := false, skew := 0 })
    (fun t => (t.ctxsOn p).foldl (fun u c => u.closeFrame c [5]) (t.set (CAM_CP_STATUS_STATE p) stSTOPPING))

/-- A port at a Volley edge (R277). -/
def State.portEdge (p : Nat) (s : State) : State :=
  s.stopDone (CAM_CP_STATUS_STATE p) fun t => (t.set (CAM_CP_STATUS_STATE p) stSTARTING).modPort p fun r =>
    { r with cfg := t.rd (CAM_CP_CTRL p) &&& 0x00FF0FB0, ulps := false, skew := 0 }

/-- CAM_PORT_READY (R277): the clock lane and every enabled data lane are in the stop state. -/
def camPortReady (p : Nat) (s : State) : State :=
  if s.get (CAM_CP_STATUS_STATE p) = stSTARTING then s.set (CAM_CP_STATUS_STATE p) stREADY else s

/-- DPHY_SKEW_CALIBRATION (R272). -/
def dphySkewCalibration (p : Nat) (s : State) : State :=
  if s.isReady (CAM_CP_STATUS_STATE p) then s.modPort p fun r => { r with skew := r.skew + 1 } else s

/-- ULTRA_LOW_POWER_STATE (R272): the port stays READY. -/
def ultraLowPowerState (p : Nat) (enter : Bool) (s : State) : State :=
  if s.isReady (CAM_CP_STATUS_STATE p) then s.modPort p fun r => { r with ulps := enter } else s

end Sys2Proof.Machine

namespace Sys2Proof

/-! ### Headers (R275) -/

/-- The check bits of the header code that each of its 26 protected bits enters (R275; the code of CSI-2 v2.1, PRESUMED: assumption
99). -/
def csiCols : List Nat :=
  [0x07, 0x0B, 0x0D, 0x0E, 0x13, 0x15, 0x16, 0x19, 0x1A, 0x1C, 0x23, 0x25, 0x26, 0x29, 0x2A, 0x2C, 0x31, 0x32, 0x34, 0x38,
   0x1F, 0x2F, 0x37, 0x3B, 0x3D, 0x3E]

/-- The protected bits as received: data identifier and word count, then VCX (R275). -/
def CsiHdr.bits (h : CsiHdr) : Nat := h.word.toNat % 2 ^ 24 + h.word.toNat / 2 ^ 30 * 2 ^ 24

/-- The syndrome of the header: 0 where nothing is wrong. -/
def CsiHdr.syndrome (h : CsiHdr) : Nat :=
  (csiCols.zipIdx).foldl (fun acc x => if Machine.bitOf h.bits x.2 then acc ^^^ x.1 else acc) (h.word.toNat / 2 ^ 24 % 64)

/-- What the check of a header finds (R275): nothing, a single-bit error, or another one. -/
def CsiHdr.ecc (h : CsiHdr) : Ecc :=
  let y := h.syndrome
  if y = 0 then .good else if csiCols.contains y || [1, 2, 4, 8, 16, 32].contains y then .fixed else .bad

/-- The protected bits with a single-bit error corrected. -/
def CsiHdr.data (h : CsiHdr) : Nat :=
  match csiCols.findIdx? (· == h.syndrome) with
  | some i => h.bits ^^^ 2 ^ i
  | none => h.bits

/-- The data type. -/
def CsiHdr.dt (h : CsiHdr) : Nat := h.data % 64
/-- The virtual channel: VCX * 4 + VC (R275). -/
def CsiHdr.vc (h : CsiHdr) : Nat := h.data / 2 ^ 24 * 4 + h.data / 2 ^ 6 % 4
/-- The word count. -/
def CsiHdr.wc (h : CsiHdr) : Nat := h.data / 2 ^ 8 % 2 ^ 16

end Sys2Proof

namespace Sys2Proof.Machine

/-! ### Packets (R274, R275, R281, R283, R286, R287, R312) -/

/-- The context that a virtual channel of a port belongs to: one that is STARTING or READY. -/
def State.ctxOf (s : State) (p vc : Nat) : Option Nat :=
  (s.ctxsOn p).find? fun c => s.get (CAM_CTX_CTRL_VC c) == vc
    && (s.get (CAM_CTX_STATUS_STATE c) == stSTARTING || s.isReady (CAM_CTX_STATUS_STATE c))

/-- A packet's header at a port (R275, R312): an uncorrectable one is counted and marks the open frames, a corrected one is
counted, and the packet goes on. A port that is not READY takes nothing. -/
def State.header (s : State) (h : CsiHdr) (f : State → State) : State :=
  let p := h.port.val
  if !s.isReady (CAM_CP_STATUS_STATE p) then s
  else match h.ecc with
    | .bad => (s.markPort p 3).portErr p (CAM_CP_ECC_ERR_CNT p) 8 0x100
    | .fixed => f (s.bumpSat (CAM_CP_ECC_FIX_CNT p))
    | .good => f s

/-- A packet that no READY context accepts is counted (R312). -/
def State.unknown (s : State) (p : Nat) : State := s.portErr p (CAM_CP_UNKNOWN_CNT p) 12 0x104

/-- A synchronisation error closes the open frame (R312). -/
def State.syncErr (s : State) (c : Nat) : State :=
  let p := s.get (CAM_CTX_CTRL_PORT c)
  (s.closeFrame c [5]).portErr p (CAM_CP_SYNC_ERR_CNT p) 11 0x103

/-- Slots of an archive ring; 0 and 1 act as 2 (R304). -/
def State.arcSlots (s : State) (m : Nat) : Nat := max 2 (s.get (CAM_LY_ARC_CFG_SLOTS m))

/-- Reserve an archive slot at a Frame Start (R305). -/
def State.arcReserve (s : State) (m : Nat) : State × Option Nat :=
  let wr := s.rdN (CAM_LY_ARC_WR m) % 256
  if (wr + 1) % s.arcSlots m = s.rdN (CAM_LY_ARC_RD m) % 256 then
    (((s.bumpSat (CAM_LY_ARC_DROP m)).setFlag (CAM_CTX_STATUS_ARC_FULL (32 + m)) true).raise 0x108 (32 + m), none)
  else (s, some wr)

/-- Is a context paused (R287)? -/
def State.paused (s : State) (c : Nat) : Bool := s.flag CAM_CTRL_MP_PAUSE && !isLy c

/-- FRAME_START (R274, R281, R287, R305, R310, R312, R313). -/
def frameStart (h : CsiHdr) (s : State) : State :=
  s.header h fun s =>
    let p := h.port.val
    if h.dt ≠ 0 then s
    else match s.ctxOf p h.vc with
    | none => s.unknown p
    | some c =>
      let s := match (s.ctx c).opened with
        | some f => if f.mute then s.closeFrame c [] else s.syncErr c
        | none => s
      let no := (s.ctx c).count
      let ready := s.isReady (CAM_CTX_STATUS_STATE c)
      let s := (s.wr (CAM_CTX_FRAME c) (BitVec.ofNat 32 no)).modCtx c fun x => { x with count := x.count + 1 }
      let s := s.forceGens c no
      let live := ready && !s.paused c
      let (s, slot) := if live && isLy c then s.arcReserve (c - 32) else (s, none)
      let gen := s.get (CAM_CTX_GEN_IN_FORCE c)
      let flags := (if (s.ctx c).forced then 0 else 2 ^ 8) + (if (s.ctx c).curCci then 2 ^ 6 else 0)
      let f : CamFrame :=
        { no := no, run := (s.ctx c).run, gen := gen, sets := (List.range 7).map fun i => s.rd (CAM_CTX_ACT_ORG c + 4 * i), flags := flags, seen := 0,
          rows := [], wait := 0, defs := 0, mute := !ready, norec := !live, open_ := true, vols := 0, slot := slot, sat := 0,
          trig := (s.ctx c).trig }
      s.modCtx c fun x => { x with frames := x.frames ++ [f] }

/-- FRAME_END (R274, R312). -/
def frameEnd (h : CsiHdr) (s : State) : State :=
  s.header h fun s =>
    let p := h.port.val
    if h.dt ≠ 1 then s
    else match s.ctxOf p h.vc with
    | none => s.unknown p
    | some c => match (s.ctx c).opened with
      | none => if s.isReady (CAM_CTX_STATUS_STATE c) then s.syncErr c else s
      | some f =>
        let short := !f.norec && decide (f.seen < s.get (CAM_CTX_GEOM_H c))
        let s := s.closeFrame c (if short then [4] else [])
        s.when short fun t => t.portErr p (CAM_CP_LEN_ERR_CNT p) 10 0x102

/-- Two RAW12 pixels of three bytes (R276). -/
def raw12 : List Byte → List Nat
  | a :: b :: c :: rest => (a.toNat * 16 + c.toNat % 16) :: (b.toNat * 16 + c.toNat / 16) :: raw12 rest
  | _ => []

/-- Four RAW10 pixels of five bytes, each times 4 (R276). -/
def raw10 : List Byte → List Nat
  | a :: b :: c :: d :: e :: rest =>
    (a.toNat * 16 + e.toNat % 4 * 4) :: (b.toNat * 16 + e.toNat / 4 % 4 * 4) :: (c.toNat * 16 + e.toNat / 16 % 4 * 4)
      :: (d.toNat * 16 + e.toNat / 64 * 4) :: raw10 rest
  | _ => []

/-- One bit of the payload CRC, least significant bit first (R275). -/
def crc16Step (c : BitVec 16) : BitVec 16 := if c.getLsbD 0 then (c >>> 1) ^^^ 0x8408#16 else c >>> 1

/-- The payload CRC of R275: x^16 + x^12 + x^5 + 1, seed 0xFFFF, bits in the order in which they are sent. -/
def crc16 (l : List Byte) : BitVec 16 :=
  l.foldl (fun c b => (List.range 8).foldl (fun x _ => crc16Step x) (c ^^^ b.zeroExtend 16)) 0xFFFF#16

/-- USED and PEAK of a port's places (R315). -/
def State.syncPlaces (s : State) (p : Nat) : State :=
  let n := (s.port p).lines.length
  (s.set (CAM_CP_LINES_USED p) n).set (CAM_CP_LINES_PEAK p) (max n (s.get (CAM_CP_LINES_PEAK p)))

/-- Change the open frame of a context. -/
def State.modOpen (s : State) (c : Nat) (f : CamFrame → CamFrame) : State :=
  s.modFrames c fun x => if x.open_ then f x else x

/-- The payload of every long packet is checked (R275, R312). -/
def State.crcCheck (s : State) (p : Nat) (payload : List Byte) (crc : BitVec 16) : State :=
  s.when (crc16 payload != crc) fun t => t.portErr p (CAM_CP_CRC_ERR_CNT p) 9 0x101

/-- A pixel line of context `c` (R283, R286, R312), after the check of its payload: `bad` says that it failed. -/
def State.pixelFor (s : State) (c : Nat) (h : CsiHdr) (payload : List Byte) (bad : Bool) : State :=
  let p := h.port.val
  let w := s.get (CAM_CTX_GEOM_W c)
  let ten := s.flag (CAM_CTX_CTRL_DT c)
  let wrong := h.wc != (if ten then w * 5 / 4 else w * 3 / 2)
  let lenErr (t : State) : State := (t.markOpen c 4).portErr p (CAM_CP_LEN_ERR_CNT p) 10 0x102
  match (s.ctx c).opened with
  | none => s.when wrong lenErr
  | some f =>
    if f.norec then s.when wrong lenErr
    else
      let y := f.seen
      let s := (s.modOpen c fun f => { f with seen := f.seen + 1 }).when bad fun t => t.markOpen c 2
      if wrong || decide (s.get (CAM_CTX_GEOM_H c) ≤ y) then lenErr s
      else if bitOf f.flags 1 then s
      else if 4 ≤ (s.port p).lines.length then
        let s := ((s.markOpen c 1).bumpSat (CAM_CTX_TRUNC_CNT c)).setFlag (CAM_CTX_STATUS_TRUNC c) true
        ((s.bumpSat (CAM_CP_OVF_CNT p)).setFlag (CAM_CP_STATUS_OVF p) true).raise 0x106 c
      else
        let line : CamLine := { ctx := c, frame := f.no, run := f.run, y := y, pix := if ten then raw10 payload else raw12 payload }
        let s := s.modOpen c fun f => { f with wait := f.wait + 1 }
        (s.modPort p fun r => { r with lines := r.lines ++ [line] }).syncPlaces p

/-- PIXEL_LINE (R274, R275, R281, R283, R286, R287, R312): a packet of as many bytes as its word count says. Lines of a frame that
began before READY are discarded without an error count. -/
def pixelLine (h : CsiHdr) (payload : List Byte) (crc : BitVec 16) (s : State) : State :=
  s.header h fun s =>
    let p := h.port.val
    if (h.dt ≠ 0x2B ∧ h.dt ≠ 0x2C) ∨ payload.length ≠ h.wc then s
    else match s.ctxOf p h.vc with
    | none => (s.crcCheck p payload crc).unknown p
    | some c =>
      if !s.isReady (CAM_CTX_STATUS_STATE c) || (s.ctx c).opened.any CamFrame.mute then s
      else
        let s := s.crcCheck p payload crc
        if s.flag (CAM_CTX_CTRL_DT c) != (h.dt == 0x2B) then s.unknown p
        else if s.paused c then s
        else s.pixelFor c h payload (crc16 payload != crc)

/-- LINE_START (R274). -/
def lineStart (h : CsiHdr) (s : State) : State := s.header h fun s => s

/-- LINE_END (R274). -/
def lineEnd (h : CsiHdr) (s : State) : State := s.header h fun s => s

/-- GENERIC_SHORT (R274). -/
def genericShort (h : CsiHdr) (s : State) : State := s.header h fun s => s

/-- EMBEDDED_DATA (R274, R275): discarded without a count, but its payload is checked. -/
def embeddedData (h : CsiHdr) (payload : List Byte) (crc : BitVec 16) (s : State) : State :=
  s.header h fun s => if h.dt ≠ 0x12 ∨ payload.length ≠ h.wc then s else s.crcCheck h.port.val payload crc

/-- Data types that R274 lists by name. -/
def dtListed (dt : Nat) : Bool := decide (dt < 4) || (decide (8 ≤ dt) && decide (dt < 16)) || dt == 0x12 || dt == 0x2B || dt == 0x2C

/-- CAM_UNKNOWN (R274, R275, R312): a data type that the table does not list; one from 0x10 on is a long packet, whose payload is
checked. -/
def camUnknown (h : CsiHdr) (payload : List Byte) (crc : BitVec 16) (s : State) : State :=
  s.header h fun s =>
    if dtListed h.dt then s
    else (s.when (0x10 ≤ h.dt) fun t => t.crcCheck h.port.val payload crc).unknown h.port.val

/-- CAM_PHY_ERR (R312). -/
def camPhyErr (p : Nat) (s : State) : State :=
  if s.isReady (CAM_CP_STATUS_STATE p) then (s.markPort p 3).portErr p (CAM_CP_PHY_ERR_CNT p) 13 0x105 else s

/-- FRAME_TIMEOUT (R312): no Frame End within FTO Volleys of the Frame Start. -/
def frameTimeout (c : Nat) (s : State) : State :=
  let fto := s.get (CAM_CTX_CFG_FTO c)
  match (s.ctx c).opened with
  | some f => if fto ≠ 0 ∧ fto ≤ f.vols ∧ !f.mute then s.syncErr c else s
  | none => s

/-! ### Triggers, tables and block registers -/

/-- The triggers of the layer contexts at the edge of Volley `v` (R301, R302). -/
def State.trigEdge (v m : Nat) (s : State) : State :=
  let c := 32 + m
  let t := s.rd64 (CAM_LY_TRIG_AT_LO m)
  let late := (s.ctx c).armLt
  if s.flag (CAM_LY_TRIG_ARM m) && (late || t == v) then
    let s := s.when late fun u => (u.setFlag (CAM_CTX_STATUS_TRIG_LATE c) true).raise 0x10A c
    let s := s.modCtx c fun x =>
      { x with armLt := false, pin := true, trig := v, strbN := if s.get (CAM_LY_STRB_LEN m) = 0 then x.strbN else x.strbN + 1 }
    let per := s.get (CAM_LY_TRIG_PERIOD m)
    if per = 0 then s.setFlag (CAM_LY_TRIG_ARM m) false else s.wr64 (CAM_LY_TRIG_AT_LO m) (t + per)
  else s

/-- TRIGGER_PULSE_END (R301). -/
def triggerPulseEnd (m : Nat) (s : State) : State := s.modCtx (32 + m) fun x => { x with pin := false }

/-- STROBE_REQUEST_RISE (R302). -/
def strobeRise (m : Nat) (s : State) : State :=
  if (s.ctx (32 + m)).strbN ≠ 0 then s.modCtx (32 + m) fun x => { x with strbN := x.strbN - 1, strb := true } else s

/-- STROBE_REQUEST_FALL (R302). -/
def strobeFall (m : Nat) (s : State) : State := s.modCtx (32 + m) fun x => { x with strb := false }

/-- A write of CAM_LYm_TRIG: TW and PERIOD only while the context is OFF; ARM always (R282, R301). It settles whether TRIG_AT has
passed. -/
def wrLyTrig (m : Nat) (v : Word) (s : State) : State :=
  let off := CAM_LY_TRIG m
  let past := decide (s.rd64 (CAM_LY_TRIG_AT_LO m) ≤ s.vnum)
  let s := s.modCtx (32 + m) fun x => { x with armLt := bitOf v.toNat 0 && past }
  if s.isOff (CAM_CTX_STATUS_STATE (32 + m)) then s.plainWrite off v
  else (s.setFlag (CAM_LY_TRIG_ARM m) (bitOf v.toNat 0)).when ((s.rd off &&& 0xFFFFFFFE) != (v &&& 0xFFFFFFFE)) fun t =>
    t.ctxRefuse (32 + m)

/-- A write of CAM_LYm_ARC_RD (R305): a value outside the range changes nothing. -/
def wrArcRd (m : Nat) (v : Word) (s : State) : State :=
  wrLogIndex (CAM_LY_ARC_RD m) (CAM_LY_ARC_WR m) (s.arcSlots m) v s

/-- Has a context that is not OFF selected table `t`, in force, committed or pending (R294)? -/
def State.tabUsed (s : State) (t : Nat) : Bool :=
  (List.range 36).any fun c => !s.isOff (CAM_CTX_STATUS_STATE c) &&
    (((s.ctx c).forced && fldOf 20 2 (s.rd (CAM_CTX_ACT_PROC c)) == t)
      || (s.ctx c).gens.any fun g => fldOf 20 2 (g.sets.getD 5 0) == t)

/-- TABLE_WRITE (R294). -/
def wrTable (t i : Nat) (v : Word) (s : State) : State :=
  if s.tabUsed t then (s.setFlag CAM_STATUS_TAB_REFUSED true).raise 0x109 0 else s.wr (CAM_TABLE t i) v

/-- A write of CAM_CTRL (R287): melt-pool frames that are open when MP_PAUSE is set are discarded without a record. -/
def wrCamCtrl (v : Word) (s : State) : State :=
  let s := s.plainWrite CAM_CTRL v
  s.when (s.flag CAM_CTRL_MP_PAUSE) fun t =>
    forN 32 (fun c u => u.modFrames c fun f => { f with norec := f.norec || f.open_ }) t

/-- FEAT_READ (R299): a read of FEAT0 copies the latest record; for a layer context the registers read 0. -/
def featRead (c : Nat) (s : State) : State :=
  if isLy c then s
  else (List.range 8).foldl (fun t i => t.wr (CAM_CTX_FEAT c i) (((s.ctx c).rcd.getD []).getD i 0)) s

/-- The snapshot of V+0.2 us (R300). -/
def State.camSnap (c : Nat) (s : State) : State :=
  s.modCtx c fun x => { x with snap := if s.isReady (CAM_CTX_STATUS_STATE c) then x.rcd else none }

/-- Writes of the CAM registers. -/
def wrCamReg (off : Nat) (v : Word) (s : State) : State :=
  if off = CAM_CTRL then wrCamCtrl v s
  else if 0x121000 ≤ off ∧ off < 0x121800 ∧ off % 0x100 = 0 then wrPortCtrl ((off - 0x121000) / 0x100) v s
  else if 0x122000 ≤ off ∧ off < 0x124400 then
    let c := (off - 0x122000) / 0x100
    let r := off % 0x100
    if r = 0 then wrCtxCtrl c v s
    else if 0x08 ≤ r ∧ r ≤ 0x24 then wrCtxCfg c off v s
    else if 0x40 ≤ r ∧ r ≤ 0x58 then wrCtxShadow c off v s
    else s.plainWrite off v
  else if 0x124800 ≤ off ∧ off < 0x124900 then
    let m := (off - 0x124800) / 0x40
    let r := off % 0x40
    if r = 0x08 then wrLyTrig m v s
    else if r = 0x0C ∨ r = 0x14 ∨ r = 0x18 then wrCtxCfg (32 + m) off v s
    else if r = 0x10 then wrCtxCfg (32 + m) off (v &&& 0xFFFFF000) s
    else if r = 0x1C then wrArcRd m v s
    else s.plainWrite off v
  else if 0x128000 ≤ off ∧ off < 0x130000 then wrTable ((off - 0x128000) / 0x2000) ((off - 0x128000) % 0x2000 / 4) v s
  else s.plainWrite off v

end Sys2Proof.Machine
end

