-- ==== Sys2Proof/Machine/Image.lean ====
section
/-! DEFINITION. The image pipeline (R283 to R298, R303 to R305): the choice of a line, defects and black level, interpolation,
ratio pyrometry, melt-pool features, layer statistics and the archive. -/

namespace Sys2Proof.Machine

/-! ### Taking a line (R284, R285) -/

/-- The class of a port's oldest complete line: some true for MP. -/
def State.lineClass (s : State) (p : Nat) : Option Bool := (s.port p).lines.head?.map fun l => !isLy l.ctx

/-- The first port after `last` that competes in a class (R284); both pointers are 7 after reset. -/
def State.pickPort (s : State) (mp : Bool) (last : Option Nat) : Option Nat :=
  ((List.range 8).map fun i => (last.getD 7 + 1 + i) % 8).find? fun p => s.lineClass p == some mp

/-- The line that the pipeline takes (R284), with the pointer moved; a closed throttle gate delays layer lines (R553). -/
def State.pick (s : State) : Option (Nat × State) :=
  match s.pickPort true s.mpLast with
  | some p => some (p, { s with mpLast := some p })
  | none => match s.pickPort false s.lyLast with
    | some p => if s.throttled then none else some (p, { s with lyLast := some p })
    | none => none

/-! ### Defects and black level (R288 to R290) -/

/-- A coordinate reflected into the window (R288). -/
def reflect (n : Nat) (x : Int) : Nat := if x < 0 then (-x).toNat else if (n : Int) ≤ x then (2 * (n : Int) - 2 - x).toNat else x.toNat

/-- The position of a defect entry in reading order, a row of 8,192 columns wide, as a window that begins at column 4,095 may need;
none if any other bit is set (R289). -/
def defKey (e : Word) : Option Nat := if e &&& 0xF000F000#32 = 0 then some (e.toNat / 2 ^ 16 * 8192 + e.toNat % 4096) else none

/-- Skip entries that are ignored or name a pixel already passed. -/
def defSkip (key : Nat) : List Word → List Word
  | [] => []
  | e :: es => match defKey e with
    | none => defSkip key es
    | some k => if k < key then defSkip key es else e :: es

/-- Defect correction of one line from pixel `x` on (R289): the corrected pixels, and the entries left. -/
def defLine (v : List Nat) (w ox Y : Nat) : Nat → List Nat → List Word → List Nat × List Word
  | _, [], defs => ([], defs)
  | x, p :: ps, defs =>
    let key := Y * 8192 + (ox + x)
    let defs := defSkip key defs
    let hit := match defs with
      | [] => false
      | e :: _ => defKey e == some key
    let nb (d : Int) : Nat := v.getD (reflect w ((x : Int) + d)) 0
    let q := if hit then (nb (-2) + nb 2 + 1) / 2 else p
    let (qs, rest) := defLine v w ox Y (x + 1) ps (if hit then defs.drop 1 else defs)
    (q :: qs, rest)

/-- The defect slice of a context (R289). -/
def State.defSlice (s : State) (c : Nat) : List Word :=
  let base := s.get (CAM_CTX_DEF_BASE c)
  (List.range (min (s.get (CAM_CTX_DEF_COUNT c)) (2048 - base))).map fun i => s.rd (CAM_DEFECT (base + i))

/-- Black level of the phase of a sensor pixel (R290). -/
def blackOf (sets : List Word) (X Y : Nat) : Nat :=
  let ph := Y % 2 * 2 + X % 2
  fldOf (if ph % 2 = 0 then 0 else 16) 12 (sets.getD (if ph < 2 then 3 else 4) 0)

/-- Process a line of frame `f` (R289, R290): the frame after it, and the row. -/
def State.lineRow (s : State) (c : Nat) (f : CamFrame) (l : CamLine) : CamFrame × List Nat :=
  let org := f.sets.getD 0 0
  let ox := fldOf 0 12 org
  let Y := fldOf 16 12 org + l.y
  let w := s.get (CAM_CTX_GEOM_W c)
  let slice := s.defSlice c
  let (v, rest) := defLine l.pix w ox Y 0 l.pix (slice.drop f.defs)
  let top := if s.flag (CAM_CTX_CTRL_DT c) then 4092 else 4095
  let sat := (v.filter fun x => x == top).length
  let row := (v.zipIdx).map fun x => x.1 - blackOf f.sets (ox + x.2) Y
  ({ f with rows := (l.y, row) :: f.rows, wait := f.wait - 1, defs := slice.length - rest.length, sat := f.sat + sat }, row)

/-- Bytes of an archive slot (R304). -/
def State.arcSize (s : State) (c : Nat) : Nat := ceilDiv (s.get (CAM_CTX_GEOM_W c) * s.get (CAM_CTX_GEOM_H c) * 2 + 256) 4096 * 4096

/-- Where archive slot `i` of layer context `m` lies (R304). -/
def State.arcAddr (s : State) (m i : Nat) : Nat :=
  s.rdN (CAM_LY_ARC_BASE_LO m) / 4096 * 4096 + s.get (CAM_LY_ARC_BASE_HI_ADDR m) * 2 ^ 32 + i * s.arcSize (32 + m)

/-- Little-endian 16-bit words. -/
def halves (l : List Nat) : List Byte := l.flatMap (leBytes 2)

/-- Is a write of the layer archive to a block held? Its normal service returns at the Volley edge after a migration: until then the
spare that took the rank's place takes none of its writes (R409). -/
def State.arcHeld (s : State) (a : Nat) : Bool :=
  match s.dramPlace a with
  | some (m, rank, _) => s.migHeld m && rank == s.get (MEM_M_SPARE_RANK m)
  | none => false

/-- A write of the layer archive, under class V, block by block (R304, R407, R409): the first status that is not OK. -/
def State.arcWrite (s : State) (a : Nat) (bytes : List Byte) : State × DStatus :=
  (blockParts a bytes.length).foldl (fun (acc : State × DStatus) part =>
    let (s, st) := acc
    if s.arcHeld part.1 then (s, firstBad st .migrating)
    else
      let (s, e) := s.unitWrite false part.1 ((bytes.drop (part.1 - a)).take part.2)
      (s, firstBad st e)) (s, .ok)

/-- A processed row of a layer frame goes to its archive slot (R304, R305). -/
def State.arcRow (s : State) (c y : Nat) (slot : Nat) (row : List Nat) : State × Bool :=
  let (s, st) := s.arcWrite (s.arcAddr (c - 32) slot + y * s.get (CAM_CTX_GEOM_W c) * 2) (halves row)
  (s, st == .ok)

/-- Replace the frame that began with Frame Start number `no`. -/
def State.putFrame (s : State) (c : Nat) (f : CamFrame) : State := s.modFrames c fun g => if g.no = f.no ∧ g.run = f.run then f else g

/-- LINE_PICK (R284, R285): the next line enters the pipeline and frees its place. What its archive write meets (R394) is a free
value (assumption 104). -/
def linePick (s : State) : State :=
  match s.pick with
  | none => s
  | some (p, s) => match (s.port p).lines with
    | [] => s
    | l :: rest =>
      let s := ((s.modPort p fun r => { r with lines := rest }).syncPlaces p).tstHit 8 p
      let n := ceilDiv l.pix.length 8
      let s := { s.nextFresh with seen := Config.pickMeets s.fresh, pipeBusy := s.pipeBusy + n, pipeOver := n }
      match (s.ctx l.ctx).frames.find? fun f => f.no == l.frame && f.run == l.run && !f.norec with
      | none => s
      | some f =>
        let (f, row) := s.lineRow l.ctx f l
        match f.slot with
        | none => s.putFrame l.ctx f
        | some i =>
          let (s, kept) := s.arcRow l.ctx l.y i row
          s.putFrame l.ctx (if kept then f else f.mark 9)

/-- The pipeline's load of the Volley that ends (R315). The last line that it picked may run on into the next one; how many of its
cycles do is a free value (R285; assumption 104). -/
def State.pipeEdge (s : State) : State :=
  let later := min s.pipeOver (Config.pickLater s.fresh)
  let n := min 4095 (s.pipeBusy - later)
  { ((s.set CAM_PIPE_LOAD_LAST n).set CAM_PIPE_LOAD_MAX (max n (s.get CAM_PIPE_LOAD_MAX))).nextFresh with pipeBusy := later, pipeOver := 0 }

/-! ### Interpolation (R291, R292) -/

/-- A frame's pixels by row and column, reflected at the window's edges (R288); a row that did not arrive gives free values
(assumption 18). -/
structure Raster where
  w    : Nat
  h    : Nat
  rows : List (Nat × List Nat)
  key  : Nat

/-- A pixel of a raster. -/
def Raster.at (r : Raster) (x y : Int) : Nat :=
  let yy := reflect r.h y
  let xx := reflect r.w x
  match r.rows.find? fun p => p.1 == yy with
  | some p => p.2.getD xx 0
  | none => (Config.missingPixel r.key xx yy).val

/-- Difference of two values. -/
def absDiff (a b : Nat) : Nat := max a b - min a b

/-- `orth` and `diag` of R292, by their two pairs. -/
def edgeMean (e a b c d : Nat) : Nat :=
  let g1 := absDiff a b
  let g2 := absDiff c d
  if g1 + e < g2 then (a + b + 1) / 2
  else if g2 + e < g1 then (c + d + 1) / 2
  else (a + b + c + d + 2) / 4

/-- `orth` at a pixel. -/
def Raster.orth (r : Raster) (e : Nat) (x y : Int) : Nat :=
  edgeMean e (r.at (x - 1) y) (r.at (x + 1) y) (r.at x (y - 1)) (r.at x (y + 1))

/-- `diag` at a pixel. -/
def Raster.diag (r : Raster) (e : Nat) (x y : Int) : Nat :=
  edgeMean e (r.at (x - 1) (y - 1)) (r.at (x + 1) (y + 1)) (r.at (x + 1) (y - 1)) (r.at (x - 1) (y + 1))

/-- The mean of left and right. -/
def Raster.meanH (r : Raster) (x y : Int) : Nat := (r.at (x - 1) y + r.at (x + 1) y + 1) / 2
/-- The mean of up and down. -/
def Raster.meanV (r : Raster) (x y : Int) : Nat := (r.at x (y - 1) + r.at x (y + 1) + 1) / 2

/-- Red, green and blue of a pixel of a layer frame (R291, R292): `X`, `Y` are its sensor coordinates. -/
def Raster.rgb (r : Raster) (phase e X Y : Nat) (x y : Int) : Nat × Nat × Nat :=
  let p := r.at x y
  let odd := (X + phase % 2) % 2
  let row := (Y + phase / 2) % 2
  match row, odd with
  | 0, 0 => (p, r.orth e x y, r.diag e x y)
  | 1, 1 => (r.diag e x y, r.orth e x y, p)
  | 0, _ => (r.meanH x y, p, r.meanV x y)
  | _, _ => (r.meanV x y, p, r.meanH x y)

/-! ### Ratio pyrometry and features (R293 to R298) -/

/-- Entry `q` of pyrometry table `t` (R294). -/
def State.tabEntry (s : State) (t q : Nat) : Nat := fldOf (q % 2 * 16) 16 (s.rd (CAM_TABLE t (q / 2)))

/-- The temperature of a pixel (R293). -/
def State.pixelT (s : State) (proc seg : Word) (a b : Nat) : Nat :=
  if b = 0 ∨ a + b < fldOf 16 13 seg then 0
  else s.tabEntry (fldOf 20 2 proc) (min 4095 (a * 2 ^ (8 + fldOf 16 3 proc) / b))

/-- Keep the entries that lie in runs of at least `n` (R295); `acc` is the run so far, latest first. -/
def keepRuns {α : Type} (n : Nat) : List (Option α) → List α → List α
  | [], acc => if n ≤ acc.length then acc.reverse else []
  | some a :: rest, acc => keepRuns n rest (a :: acc)
  | none :: rest, acc => (if n ≤ acc.length then acc.reverse else []) ++ keepRuns n rest []

/-- The pool pixels of a melt-pool frame: sensor X, sensor Y and temperature (R291 to R295). -/
def State.poolPixels (s : State) (c : Nat) (f : CamFrame) : List (Nat × Nat × Nat) :=
  let org := f.sets.getD 0 0
  let proc := f.sets.getD 5 0
  let seg := f.sets.getD 6 0
  let r : Raster := { w := s.get (CAM_CTX_GEOM_W c), h := s.get (CAM_CTX_GEOM_H c), rows := f.rows, key := s.fresh }
  f.rows.reverse.flatMap fun row =>
    let Y := fldOf 16 12 org + row.1
    let line := (List.range r.w).map fun x =>
      let X := fldOf 0 12 org + x
      let p := r.at x row.1
      let o := r.orth (fldOf 0 12 proc) x row.1
      let isA := (X + Y + s.get (CAM_CTX_CFG_PHASE c)) % 2 == 0
      let t := if isA then s.pixelT proc seg p o else s.pixelT proc seg o p
      if fldOf 0 16 seg ≤ t ∧ t ≠ 0 then some (X, Y, t) else none
    keepRuns (orOne (fldOf 28 3 proc)) line []

/-- Largest minus least plus 1, or 0 for none. -/
def spread (l : List Nat) : Nat :=
  match l with
  | [] => 0
  | a :: as => as.foldl max a - as.foldl min a + 1

/-- A melt-pool record (R296, R297), as eight words. -/
def State.mpRecord (s : State) (c : Nat) (f : CamFrame) : List Word :=
  let px := s.poolPixels c f
  let n := px.length
  let xs := px.map fun p => p.1
  let ys := px.map fun p => p.2.1
  let ts := px.map fun p => p.2.2
  let flags := f.flags ||| (if n = 0 then 2 ^ 7 else 0)
  let flags := if flags / 2 % 256 = 0 then flags ||| 1 else flags
  let (len, wid) := if fldOf 24 1 (f.sets.getD 5 0) = 0 then (spread xs, spread ys) else (spread ys, spread xs)
  let mean (k : Nat) (l : List Nat) : Nat := if n = 0 then 0 else min 65535 (k * l.sum / n)
  let v := s.vnum
  let w (lo hi : Nat) : Word := BitVec.ofNat 32 (lo % 2 ^ 16 + hi % 2 ^ 16 * 2 ^ 16)
  [BitVec.ofNat 32 v, BitVec.ofNat 32 (v / 2 ^ 32), BitVec.ofNat 32 f.no, w f.gen flags, w (min 65535 n) (ts.foldl max 0),
   w len wid, w (mean 16 xs) (mean 16 ys), w (mean 1 ts) (c + min 1023 f.rows.length * 2 ^ 6)]

/-! ### Layer statistics (R303) -/

/-- The interpolated pixels of a layer frame: column, row, red, green and blue. -/
def State.lyPixels (s : State) (c : Nat) (f : CamFrame) : List (Nat × Nat × Nat × Nat × Nat) :=
  let org := f.sets.getD 0 0
  let r : Raster := { w := s.get (CAM_CTX_GEOM_W c), h := s.get (CAM_CTX_GEOM_H c), rows := f.rows, key := s.fresh }
  f.rows.reverse.flatMap fun row => (List.range r.w).map fun x =>
    let q := r.rgb (s.get (CAM_CTX_CFG_PHASE c)) (fldOf 0 12 (f.sets.getD 5 0)) (fldOf 0 12 org + x) (fldOf 16 12 org + row.1) x row.1
    (x, row.1, q.1, q.2.1, q.2.2)

/-- A mean of R303, 12.4 fixed point; a mean over no pixel is a free value (assumption 18). -/
def mean16 (k : Nat) (l : List Nat) : Nat := if l = [] then (Config.emptyMean k).toNat else 16 * l.sum / l.length

/-- The zone of a pixel (R303). -/
def zoneOf (w h x y : Nat) : Nat :=
  let band (n v : Nat) : Nat := ((List.range 8).filter fun i => decide (i * n / 8 ≤ v)).length - 1
  band h y * 8 + band w x

/-- A layer statistics record (R303), as 64 words. -/
def State.lyRecord (s : State) (c : Nat) (f : CamFrame) : List Word :=
  let px := s.lyPixels c f
  let w := s.get (CAM_CTX_GEOM_W c)
  let h := s.get (CAM_CTX_GEOM_H c)
  let rs := px.map fun p => p.2.2.1
  let gs := px.map fun p => p.2.2.2.1
  let bs := px.map fun p => p.2.2.2.2
  let zone (k : Nat) : Nat := mean16 (s.fresh + 3 + k) ((px.filter fun p => zoneOf w h p.1 p.2.1 == k).map fun p => p.2.2.2.1)
  let v := s.vnum
  let pair (lo hi : Nat) : Word := BitVec.ofNat 32 (lo % 2 ^ 16 + hi % 2 ^ 16 * 2 ^ 16)
  let mr := mean16 s.fresh rs
  let mg := mean16 (s.fresh + 1) gs
  let mb := mean16 (s.fresh + 2) bs
  [BitVec.ofNat 32 v, BitVec.ofNat 32 (v / 2 ^ 32), BitVec.ofNat 32 f.no, pair f.gen f.flags,
   BitVec.ofNat 32 f.trig, BitVec.ofNat 32 (f.trig / 2 ^ 32), pair mr mg, pair mb 0,
   pair (rs.foldl max 0) (gs.foldl max 0), pair (bs.foldl max 0) 0, BitVec.ofNat 32 (min 0xFFFFFFFF f.sat),
   BitVec.ofNat 32 (f.slot.getD 0xFFFFFFFF), 0, 0, 0, 0]
  ++ (List.range 32).map (fun k => pair (zone (2 * k)) (zone (2 * k + 1)))
  ++ List.replicate 16 0

/-! ### Completion (R298, R300, R305) -/

/-- The sum of the pixels of channel A or B of a frame, after black level and before interpolation (R556). -/
def State.chanSum (s : State) (c : Nat) (f : CamFrame) (a : Bool) : Nat :=
  let org := f.sets.getD 0 0
  (f.rows.map fun row => ((row.2.zipIdx).filter fun p =>
    (fldOf 0 12 org + p.2 + fldOf 16 12 org + row.1 + s.get (CAM_CTX_CFG_PHASE c)) % 2 == (if a then 0 else 1)).foldl
      (fun n p => n + p.1) 0).sum

/-- GRATIO of Proof takes the first frame of its context whose FLAGS [8:1] are all 0 (R556). -/
def State.calFrame (s : State) (c : Nat) (f : CamFrame) (rcd : List Word) : State :=
  if s.flag CAL_STATUS_BUSY && s.cal.q.head? == some (4, c) && s.cal.g.isNone
      && fldOf 17 8 (rcd.getD 3 0) == 0 then
    { s with cal := { s.cal with g := some (s.chanSum c f true, s.chanSum c f false) } }
  else s

/-- RECORD_COMPLETE (R298): the oldest closed frame, all of whose lines have entered the pipeline, becomes the latest record.
No melt-pool record is produced while MP_PAUSE is set (R287). -/
def recordComplete (c : Nat) (s : State) : State :=
  match (s.ctx c).frames with
  | [] => s
  | f :: rest =>
    if f.open_ || (f.wait != 0 && !bitOf f.flags 5) then s
    else
      let s := s.modCtx c fun x => { x with frames := rest }
      if s.paused c || f.norec then s
      else
        let rcd := if isLy c then s.lyRecord c f else s.mpRecord c f
        let s := { s.modCtx c fun x => { x with rcd := some rcd } with fresh := s.fresh + 67 }
        let s := s.calFrame c f rcd
        if isLy c then
          let s := (rcd.zipIdx).foldl (fun t x => t.wr (CAM_LYREC (c - 32) x.2) x.1) s
          match f.slot with
          | none => s
          | some i => s.modCtx c fun x => { x with arc := x.arc ++ [(i, rcd.flatMap fun v => leBytes 4 v.toNat)] }
        else s

/-- ARCHIVE_RECORD_WRITTEN (R304, R305): the statistics record follows the pixels of its slot, and ARC_WR advances; while DRAM
is frozen or migrating it waits. -/
def archiveRecordWritten (m : Nat) (s : State) : State :=
  let c := 32 + m
  match (s.ctx c).arc with
  | [] => s
  | (i, bytes) :: rest =>
    if s.throttled then s else
    let (s', st) := s.arcWrite (s.arcAddr m i + s.get (CAM_CTX_GEOM_W c) * s.get (CAM_CTX_GEOM_H c) * 2) bytes
    if st = .frozen ∨ st = .migrating then s
    else (s'.modCtx c fun x => { x with arc := rest }).wr (CAM_LY_ARC_WR m) (BitVec.ofNat 32 ((i + 1) % s.arcSlots m))

end Sys2Proof.Machine
end

