-- ==== Sys2Proof/Machine/Cle.lean ====
section
/-! DEFINITION. The Control-Law Engines (R239 to R271, R49, R50): latch and commit, the inner and outer loops, coefficient banks,
following error and trace buffers. -/

namespace Sys2Proof.Machine

/-- The record of an engine. -/
def State.cle (s : State) (k : Nat) : Cle := recGet s.cles k
/-- Change it. -/
def State.modCle (s : State) (k : Nat) (f : Cle → Cle) : State := { s with cles := recSet s.cles k (f (s.cle k)) }

/-- The registers of a beam's loop as latched (R241). -/
def State.latched (s : State) (b : Nat) : State := { s with regs := (s.cb b).lat }

/-- A 48-bit signed value held in two registers (R254, R268). -/
def State.rd48 (s : State) (lo : Nat) : Int := sgn 48 (s.rd64 lo)
/-- Give a 48-bit value. -/
def State.wr48 (s : State) (lo : Nat) (v : Int) : State :=
  (s.wr lo (BitVec.ofNat 32 (low 48 v))).wr (lo + 4) (BitVec.ofNat 32 (low 48 v / 2 ^ 32))

/-! ### Lifecycle and latch (R240, R241) -/

/-- A CLE at a Volley edge (R240). -/
def State.cleEdge (k : Nat) (s : State) : State :=
  let st := CLE_STATUS_STATE k
  if s.get st = stSTARTING then
    s.when s.volReady fun t =>
      forN 2 (fun j t => t.modCb (2 * k + j) fun r => { r with sfIn := false, bankT := t.get (CLE_B_BANK_ACT (2 * k + j)) })
        (t.set st stREADY)
  else if s.get st = stSTOPPING ∨ s.get st = stSTOPPING_RP then
    let s := s.modCle k fun r => { r with latched := false }
    let s := forN 2 (fun j t => t.modCb (2 * k + j) fun r => { r with mOff := 0, nodes := [] }) s
    s.stopDone st fun t => t.set st stSTARTING
  else s

/-- A write of CLEn_CTRL (R240, R261). -/
def wrCleCtrl (k : Nat) (v : Word) (s : State) : State :=
  s.wrEnable (CLE_CTRL k) v (CLE_CTRL_EN k) (CLE_STATUS_STATE k) (fun t => t.set (CLE_STATUS_STATE k) stSTARTING)
    fun t => t.set (CLE_STATUS_STATE k) stSTOPPING

/-- One beam's part of the latch (R241): a reset that INT_RESET, or a start under ISTART, asks for is taken, and stays until a Volley
commits (R243). -/
def State.latchBeam (b : Nat) (s : State) : State :=
  let base := CLE_B_CFG b
  let lat := s.regs.filter fun x => decide (base ≤ x.1) && decide (x.1 < base + 0x200)
  s.modCb b fun r =>
    { r with lat := lat, pd0 := s.rd (BIO_PD_VAL (2 * b)), pd1 := s.rd (BIO_PD_VAL (2 * b + 1)), fe := (s.beam b).fePrev,
             outer := (s.ctx b).snap, rstL := r.rstL ||| r.rst, rst := 0,
             istL := r.istL || (r.ist && s.flag (CLE_B_CFG_ISTART b)), ist := false }

/-- What the output stage delivers to a beam's loop at V+0.2 us (R83): the latest ACT values with the Volleys of their arrival. -/
def State.actDeliver (b : Nat) (s : State) : State :=
  let m := s.beam b
  s.modCb b fun r =>
    { r with act := ⟨s.rdI (BIO_ACT_X b), s.rdI (BIO_ACT_Y b), s.rdI (BIO_ACT_Z b)⟩,
             actX := m.actVolX, actY := m.actVolY, actZ := m.actVolZ }

/-- The latch of one CLE (R241). -/
def State.latchCle (k : Nat) (s : State) : State :=
  if s.isReady (CLE_STATUS_STATE k) then
    let s := State.latchBeam (2 * k + 1) (State.latchBeam (2 * k) s)
    s.modCle k fun r => { r with latched := true }
  else s

/-- LATCH_INSTANT (R241, R100, R300): photodiode records are delivered, camera records are snapped, and every READY CLE
latches. -/
def latchInstant (s : State) : State :=
  let s := forN 32 State.actDeliver (forN 64 State.pdDeliver s)
  let s := forN 32 State.camSnap s
  { forN 16 State.latchCle s with latchPast := true }

/-! ### The loops (R244 to R252) -/

/-- The inner measurement (R244); none when it is not valid. -/
def CleB.inner (r : CleB) (cfg : Word) : Option Nat :=
  let val := fldOf 0 16 r.pd0
  let gated := fldOf 16 8 r.pd0
  if fldOf 25 1 r.pd0 ≠ 0 ∨ gated < orOne (fldOf 24 7 cfg) then none
  else if fldOf 16 1 cfg = 1 then some (min 65535 (val * 100 / gated)) else some val

/-- The outer measurement (R245); none when it is not valid. -/
def CleB.outerM (r : CleB) (cfg : Word) : Option (Nat × List Word) :=
  match r.outer with
  | none => none
  | some rec =>
    let h (i lo : Nat) : Nat := fldOf lo 16 (rec.getD i 0)
    if h 3 16 % 2 = 0 ∨ r.rcd = some rec then none
    else some (match fldOf 17 2 cfg with
      | 0 => h 4 16
      | 1 => h 4 0
      | 2 => h 5 0
      | _ => h 5 16, rec)

/-- The coefficients of a bank, read from the latched registers (R269). -/
structure Coef where
  kp    : Int
  ki    : Int
  kd    : Int
  kpo   : Int
  kio   : Int
  mmin  : Nat
  mmax  : Nat
  tmin  : Int
  tmax  : Int
  imin  : Int
  imax  : Int
  iomin : Int
  iomax : Int

/-- Bank `c` of beam `b`. -/
def State.coef (s : State) (b c : Nat) : Coef :=
  let ml := s.rdN (CLE_BK_MLIM b c)
  { kp := s.rdI (CLE_BK_KP b c), ki := s.rdI (CLE_BK_KI b c), kd := s.rdI (CLE_BK_KD b c), kpo := s.rdI (CLE_BK_KPO b c),
    kio := s.rdI (CLE_BK_KIO b c), mmin := ml % 65536, mmax := ml / 65536, tmin := s.rdI (CLE_BK_TMIN b c),
    tmax := s.rdI (CLE_BK_TMAX b c), imin := s.rd48 (CLE_BK_IMIN_LO b c), imax := s.rd48 (CLE_BK_IMAX_LO b c),
    iomin := s.rd48 (CLE_BK_IOMIN_LO b c), iomax := s.rd48 (CLE_BK_IOMAX_LO b c) }

/-- Clamp with the upper bound last, so that it wins over a lower bound above it (R246, R251). -/
def lim (lo hi v : Int) : Int := min hi (max lo v)

/-- What the inner loop gives (R246, R247): M, the integrator, and whether m lay above, below, and the integrator at a bound. -/
structure InnerOut where
  m   : Int
  i   : Int
  hi  : Bool
  lo  : Bool
  clp : Bool

/-- The inner loop (R246). -/
def Coef.innerLoop (g : Coef) (e d0 i0 : Int) : InnerOut :=
  let p := g.kp * e
  let d := g.kd * d0
  let ie := g.ki * e
  let i1 := lim g.imin g.imax (i0 + ie)
  let m1 := 32768 + (p + i1 + d + 256) / 512
  let back := (m1 > g.mmax ∧ ie > 0) ∨ (m1 < g.mmin ∧ ie < 0)
  let i2 := if back then i0 else i1
  let m2 := if back then 32768 + (p + i0 + d + 256) / 512 else m1
  { m := lim g.mmin g.mmax m2, i := i2, hi := decide (m2 > g.mmax), lo := decide (m2 < g.mmin),
    clp := decide (i2 = g.imin ∨ i2 = g.imax) }

/-- The outer loop (R251): the trim, the integrator, and whether it is at a bound. -/
def Coef.outerLoop (g : Coef) (eo i0 : Int) : Int × Int × Bool :=
  let p := g.kpo * eo
  let ie := g.kio * eo
  let j1 := lim g.iomin g.iomax (i0 + ie)
  let t1 := (p + j1 + 8388608) / 16777216
  let back := (t1 > g.tmax ∧ ie > 0) ∨ (t1 < g.tmin ∧ ie < 0)
  let j2 := if back then i0 else j1
  let t2 := if back then (p + i0 + 8388608) / 16777216 else t1
  (lim g.tmin g.tmax t2, j2, decide (j2 = g.iomin ∨ j2 = g.iomax))

/-- Does the outer loop run in Volley `v`? (R251) -/
def outerRuns (cfg : Word) (v : Nat) : Bool :=
  let k := orOne (fldOf 4 5 cfg)
  fldOf 0 2 cfg == 3 && v % k == fldOf 12 4 cfg % k

/-- The integrator resets that latches have taken since the last commit (R243). -/
def State.cleReset (s : State) (b : Nat) : State :=
  let r := s.cb b
  let start := r.istL
  let inner := start || bitOf r.rstL 0
  let outer := start || bitOf r.rstL 1
  let s := s.when inner fun t => (t.wr48 (CLE_B_II_LO b) 0).modCb b fun r => { r with eL := 0 }
  let s := s.when outer fun t => (t.wr48 (CLE_B_IO_LO b) 0).modCb b fun r => { r with eoL := 0 }
  (s.when start fun t => t.modCb b fun r => { r with pv := false }).modCb b fun r => { r with rstL := 0, istL := false }

/-- The first latch that uses a different bank adjusts the integrators (R256). -/
def State.cleBank (s : State) (b : Nat) (lat : State) : State :=
  let bank := lat.rd (CLE_B_BANK b)
  let act := fldOf 0 1 bank
  let r := s.cb b
  if act = r.used then s
  else
    let o := lat.coef b r.used
    let g := lat.coef b act
    let s := s.when (fldOf 2 1 bank == 1) fun t =>
      (t.wr48 (CLE_B_II_LO b) (lim g.imin g.imax (t.rd48 (CLE_B_II_LO b) + (o.kp - g.kp) * r.eL))).wr48 (CLE_B_IO_LO b)
        (lim g.iomin g.iomax (t.rd48 (CLE_B_IO_LO b) + (o.kpo - g.kpo) * r.eoL))
    s.modCb b fun r => { r with used := act }

/-- A run of the outer loop (R251, R252): the state, and whether it ran and was valid. -/
def State.cleOuter (s : State) (b v : Nat) (cfg : Word) (spo : Nat) (g : Coef) : State × Bool × Bool :=
  if outerRuns cfg v then
    match (s.cb b).outerM cfg with
    | none => (s.bumpSat (CLE_B_OSTALE_CNT b), true, false)
    | some (yo, rec) =>
      let eo : Int := (spo : Int) - yo
      let (t, j, c) := g.outerLoop eo (s.rd48 (CLE_B_IO_LO b))
      let s := ((s.wr48 (CLE_B_IO_LO b) j).setFlag (CLE_B_STATUS_IO_CLAMP b) c).wr (CLE_B_YO b) (BitVec.ofNat 32 yo)
      (s.modCb b fun r => { r with trim := t, eoL := eo, rcd := some rec }, true, true)
  else (s, false, false)

/-- The inner loop of one Volley (R246 to R248, R250) on its measurement: the state, M, and the error used. -/
def State.cleInner (s : State) (b : Nat) (cfg : Word) (spi : Nat) (g : Coef) (inner : Option Nat) : State × Int × Int :=
  let r := s.cb b
  let trim := if fldOf 0 2 cfg = 3 then r.trim else 0
  let eff := clampI 0 65535 ((spi : Int) + trim)
  let s := (s.wr (CLE_B_SPI_EFF b) (wordOf eff)).wr (CLE_B_TRIM b) (wordOf trim)
  match inner with
  | none => ((s.bumpSat (CLE_B_IHOLD_CNT b)).modCb b fun r => { r with pv := false }, r.mOff + 32768, 0)
  | some y =>
    let e := eff - y
    let d0 : Int := if r.pv then (r.yPrev : Int) - y else 0
    let o := g.innerLoop e d0 (s.rd48 (CLE_B_II_LO b))
    let s := s.wr48 (CLE_B_II_LO b) o.i
    let s := s.when (o.hi || o.lo) fun t => t.bumpSat (CLE_B_MCLAMP_CNT b)
    let s := ((s.setFlag (CLE_B_STATUS_M_HI b) o.hi).setFlag (CLE_B_STATUS_M_LO b) o.lo).setFlag (CLE_B_STATUS_I_CLAMP b) o.clp
    (s.modCb b fun r => { r with pv := true, yPrev := y, eL := e }, o.m, e)

/-! ### Following error (R258 to R260) -/

/-- FE_RUN has reached TIME, with the registers of the latch (R241, R259). -/
def State.feHit (s : State) (b : Nat) : Bool :=
  let lat := s.latched b
  lat.get (CLE_B_FE_CFG_LIM b) != 0 && decide (orOne (lat.get (CLE_B_FE_CFG_TIME b)) ≤ s.rdN (CLE_B_FE_RUN b)) && !(s.cb b).trip

/-- The following-error check of one Volley (R258 to R260). -/
def State.feCheck (s : State) (b : Nat) (cfg : Word) : State :=
  match (s.cb b).fe with
  | none => s.wr (CLE_B_FE_LAST b) 0
  | some (err, axis) =>
    let s := (s.set (CLE_B_FE_LAST_ERR b) err).set (CLE_B_FE_LAST_AXIS b) axis
    let s := s.set ⟨CLE_B_FE_MAX b, 0, 24⟩ (max (s.get ⟨CLE_B_FE_MAX b, 0, 24⟩) (min 0xFFFFFF err))
    let lim := fldOf 0 24 cfg
    if lim = 0 then s
    else if err ≤ lim then (s.wr (CLE_B_FE_RUN b) 0).modCb b fun r => { r with trip := false }
    else s.wr (CLE_B_FE_RUN b) (BitVec.ofNat 32 (min 255 (s.rdN (CLE_B_FE_RUN b) + 1)))

/-- FOLLOWING_ERROR (R259): the count has reached TIME. -/
def followingError (b : Nat) (s : State) : State :=
  if s.feHit b then
    let s := s.modCb b fun r => { r with trip := true }
    ((s.setFlag (CLE_B_STATUS_FE_TRIP b) true).raise 0x0C2 (b / 2) (BitVec.ofNat 32 b)).ssRequest b 9
  else s

/-! ### Trace (R261 to R267) -/

/-- Is a node signed (R262)? -/
def nodeSigned (src : Nat) : Bool := src == 3 || src == 4 || src == 8 || src == 9 || src == 10

/-- The stored value of a node slot (R262). -/
def slotValue (nodes : List Int) (node : Word) : Int :=
  let src := fldOf 0 6 node
  let v := nodes.getD src 0 / 2 ^ fldOf 8 6 node
  if nodeSigned src then clampI (-32768) 32767 v else clampI 0 65535 v

/-- The slots of a sample. -/
def State.slots (lat : State) (b : Nat) (nodes : List Int) : List Int :=
  (List.range 8).map fun i => slotValue nodes (lat.rd (CLE_B_TRC_NODE b i))

/-- DEC of R264. -/
def trcDec (ctrl : Word) : Nat := if fldOf 16 8 ctrl = 0 then 256 else fldOf 16 8 ctrl

/-- The LEVEL trigger (R266). -/
def levelHit (lat : State) (b : Nat) (prev nodes : List Int) : Bool :=
  let ctrl := lat.rd (CLE_B_TRC_CTRL b)
  let node := lat.rd (CLE_B_TRC_NODE b (fldOf 9 3 ctrl))
  let lv := lat.rdN (CLE_B_TRC_LEVEL b) % 65536
  let level : Int := if nodeSigned (fldOf 0 6 node) then sgn 16 lv else lv
  let was := slotValue prev node
  let now := slotValue nodes node
  !prev.isEmpty && (if fldOf 8 1 ctrl = 0 then decide (was < level) && decide (level ≤ now)
                    else decide (level ≤ was) && decide (now < level))

/-- One sample at index WR (R264, R266); `pre` is PRE as latched. -/
def State.trcSample (s : State) (b v pre : Nat) (vals : List Int) : State :=
  let wr := s.get (CLE_B_TRC_STATUS_WR b)
  let bytes := vals.flatMap fun x => leBytes 2 (low 16 x)
  let s := { s with trace := memPut s.trace (b * 65536 + wr * 16) bytes }
  let s := s.set (CLE_B_TRC_STATUS_WR b) ((wr + 1) % 4096)
  let s := s.set (CLE_B_TRC_STATUS_COUNT b) (min 4096 (s.get (CLE_B_TRC_STATUS_COUNT b) + 1))
  let r := s.cb b
  if s.get (CLE_B_TRC_STATUS_STATE b) = 1 then
    if r.trig then
      let p := min pre r.taken
      let s := (s.set (CLE_B_TRC_TRIG_IDX b) wr).set (CLE_B_TRC_TRIG_FIRST b) ((wr + 4096 - p) % 4096)
      let s := (s.wr64 (CLE_B_TRC_TRIG_VOL_LO b) v).set (CLE_B_TRC_STATUS_STATE b) 2
      (s.modCb b fun r => { r with trig := false, post := 0, pre := pre }).raise 0x0C5 (b / 2) (BitVec.ofNat 32 b)
    else s.modCb b fun r => { r with taken := r.taken + 1 }
  else s.modCb b fun r => { r with post := r.post + 1 }

/-- The trace of one Volley (R264 to R266): `late` says that the Volley is late. The state, and whether a sample was taken. -/
def State.trcStep (s : State) (b v : Nat) (lat : State) (nodes : List Int) (late : Bool) : State × Bool :=
  let ctrl := lat.rd (CLE_B_TRC_CTRL b)
  let r := s.cb b
  let act := lat.get (CLE_B_BANK_ACT b)
  let fl := (nodes.getD 14 0).toNat
  let hit := match fldOf 4 4 ctrl with
    | 1 => levelHit lat b r.nodes nodes
    | 2 => s.feHit b
    | 3 => r.sfIn
    | 4 => late
    | 5 => s.volEdges && v == lat.rd64 (CLE_B_TRC_AT_LO b)
    | 6 => !late && (bitOf fl 3 || bitOf fl 4)
    | 7 => act != r.bankT
    | _ => false
  let st := s.get (CLE_B_TRC_STATUS_STATE b)
  let s := s.modCb b fun r => { r with nodes := nodes, sfIn := false, bankT := act, trig := r.trig || (st == 1 && hit) }
  let run := st == 1 || (st == 2 && decide ((s.cb b).post + (s.cb b).pre < 4095))
  if run && v % trcDec ctrl == 0 then (s.trcSample b v (lat.rdN (CLE_B_TRC_PRE b) % 4096) (lat.slots b nodes), true)
  else (s, false)

/-- TRACE_DONE (R266, R267): the samples after the trigger are complete. -/
def traceDone (b : Nat) (s : State) : State :=
  let r := s.cb b
  if s.get (CLE_B_TRC_STATUS_STATE b) = 2 ∧ 4095 ≤ r.post + r.pre then
    let s := (s.set (CLE_B_TRC_STATUS_STATE b) 3).set (CLE_B_TRC_STATUS_COUNT b) (min r.pre r.taken + 4096 - r.pre)
    s.raise 0x0C6 (b / 2) (BitVec.ofNat 32 b)
  else s

/-- A write of TRC_CTRL (R265). -/
def wrTrcCtrl (b : Nat) (v : Word) (s : State) : State :=
  let s := s.plainWrite (CLE_B_TRC_CTRL b) v
  let s := s.when (bitOf v.toNat 2) fun t => t.set (CLE_B_TRC_STATUS_STATE b) 0
  let s := s.when (bitOf v.toNat 0) fun t =>
    (t.wr (CLE_B_TRC_STATUS b) 1).modCb b fun r => { r with trig := false, taken := 0, post := 0, sfIn := false }
  s.when (bitOf v.toNat 1 && s.get (CLE_B_TRC_STATUS_STATE b) == 1) fun t => t.modCb b fun r => { r with trig := true }

/-! ### Commit (R49, R50, R241 to R252) -/

/-- One beam's part of a commit: the state, and the cycles of its parts (R242). -/
def State.commitBeam (s : State) (b v : Nat) : State × Nat :=
  let lat := s.latched b
  let cfg := lat.rd (CLE_B_CFG b)
  let mode := fldOf 0 2 cfg
  let s := s.cleReset b
  let s := s.cleBank b lat
  let g := lat.coef b (s.cb b).used
  let s := ((s.setFlag (CLE_B_STATUS_M_HI b) false).setFlag (CLE_B_STATUS_M_LO b) false).setFlag (CLE_B_STATUS_I_CLAMP b) false
  let (s, ran, ovalid) := s.cleOuter b v cfg (lat.rdN (CLE_B_SPO b) % 65536) g
  -- the inner measurement is taken in every mode (R244, R262)
  let y := (s.cb b).inner cfg
  let s := match y with
    | some y => s.wr (CLE_B_YI b) (BitVec.ofNat 32 y)
    | none => s
  let (s, m, e) := if 2 ≤ mode then s.cleInner b cfg (lat.rdN (CLE_B_SPI b) % 65536) g y
    else (s, (if mode = 0 then (32768 : Int) else ((lat.rdN (CLE_B_MFIX b) % 65536 : Nat) : Int)), (0 : Int))
  let s := (s.set ⟨CLE_B_M b, 0, 16⟩ m.toNat).modCb b fun r => { r with mOff := m - 32768 }
  let s := s.feCheck b (lat.rd (CLE_B_FE_CFG b))
  let r := s.cb b
  let bit (c : Bool) (i : Nat) : Nat := if c then 2 ^ i else 0
  let fe := (r.fe.map Prod.fst).getD 0
  let feOver := r.fe.isSome && decide (fldOf 0 24 (lat.rd (CLE_B_FE_CFG b)) < fe)
  let flags := bit y.isSome 0 + bit ran 1 + bit ovalid 2 + bit (s.flag (CLE_B_STATUS_M_HI b)) 3 + bit (s.flag (CLE_B_STATUS_M_LO b)) 4
    + bit (s.flag (CLE_B_STATUS_I_CLAMP b)) 5 + bit (s.flag (CLE_B_STATUS_IO_CLAMP b)) 6 + bit (r.used == 1) 7 + bit feOver 8
    + bit (s.flag (BIO_STATUS_SAFE b)) 10
  let nodes : List Int :=
    [0, y.getD 0, s.rdN (CLE_B_SPI_EFF b), e, s.rd48 (CLE_B_II_LO b), m, s.rdN (CLE_B_YO b), lat.rdN (CLE_B_SPO b) % 65536, r.eoL,
     s.rd48 (CLE_B_IO_LO b), s.rdI (CLE_B_TRIM b), fe, fldOf 0 16 r.pd1, fldOf 16 8 r.pd0, flags, v % 65536]
  let (s, sampled) := s.trcStep b v lat nodes false
  (s, (if 2 ≤ mode then 150 else 0) + (if ran then 110 else 0) + 30 + (if sampled then 40 else 0))

/-- CLEn_CYC takes the cycles of a Volley (R242). -/
def State.cleCycles (s : State) (k n : Nat) : State :=
  (s.set (CLE_CYC_LAST k) n).set (CLE_CYC_MAX k) (max (s.get (CLE_CYC_MAX k)) n)

/-- The cycles between the latch instant and the commit deadline (R242). -/
def commitWindow : Nat := 1520

/-- CLE_COMMIT (R241, R242, R246): a CLE that has latched commits. The delay of a test perturbation is part of the cycles used
(R589); where they pass the deadline the CLE does not commit, and is late at the deadline (R49; DEDUCED: assumption 113). -/
def cleCommit (k : Nat) (s : State) : State :=
  if (s.cle k).latched then
    let v := s.vnum
    let held := s.tstCycles 7 k
    let (t, n0) := (s.tstHit 7 k).commitBeam (2 * k) v
    let (t, n1) := t.commitBeam (2 * k + 1) v
    let n := 60 + n0 + n1 + held
    if commitWindow < n then s
    else ((t.cleCycles k n).set (CLE_LATE_RUN k) 0).modCle k fun _ => { latched := false, limEv := false }
  else s

/-- The trace nodes of a late Volley (R262, R263): the values that the loop held at the start of the Volley (DEDUCED:
assumption 122). -/
def State.lateNodes (s : State) (b v : Nat) : List Int :=
  let lat := s.latched b
  let r := s.cb b
  let old (i : Nat) : Int := r.nodes.getD i 0
  let flags := 2 ^ 9 + 2 ^ 7 * lat.get (CLE_B_BANK_ACT b) + (if s.flag (BIO_STATUS_SAFE b) then 2 ^ 10 else 0)
  [0, old 1, s.rdN (CLE_B_SPI_EFF b), old 3, s.rd48 (CLE_B_II_LO b), r.mOff + 32768, s.rdN (CLE_B_YO b),
   lat.rdN (CLE_B_SPO b) % 65536, r.eoL, s.rd48 (CLE_B_IO_LO b), s.rdI (CLE_B_TRIM b), old 11, old 12, old 13, ((flags : Nat) : Int),
   ((v % 65536 : Nat) : Int)]

/-- One beam of a late CLE (R49): its state stays, and the resets that a latch has taken stay pending (R243). -/
def State.lateBeam (s : State) (b v : Nat) : State := (s.trcStep b v (s.latched b) (s.lateNodes b v) true).1

/-- A CLE that has not committed by V+4.0 us is late (R49). -/
def State.cleLate (k : Nat) (s : State) : State :=
  if (s.cle k).latched then
    let v := s.vnum
    let s := s.tstHit 7 k
    let s := (s.lateBeam (2 * k) v).lateBeam (2 * k + 1) v
    let s := (s.cleCycles k (Config.lateCycles s.fresh).toNat).nextFresh
    let s := (s.setFlag (CLE_LATE_LATE k) true).set (CLE_LATE_RUN k) (min 0xFFFF (s.get (CLE_LATE_RUN k) + 1))
    ((s.bumpSat (CLE_LATE_CNT k)).raise 0x0C0 k).modCle k fun r => { r with latched := false }
  else s

/-- CLE_COMMIT_DEADLINE (R49). -/
def cleCommitDeadline (s : State) : State := forN 16 State.cleLate s

/-- CLE_LATE_LIMIT (R50). -/
def cleLateLimit (k : Nat) (s : State) : State :=
  let lim := s.get GLB_VOL_LIMITS_CLE_LIMIT
  if lim ≠ 0 ∧ lim < s.get (CLE_LATE_RUN k) then
    let s := s.setFlag (CLE_LATE_LIMIT_HIT k) true
    let s := (s.when (!(s.cle k).limEv) fun t => t.raise 0x0C1 k).modCle k fun r => { r with limEv := true }
    (s.ssRequest (2 * k) 8).ssRequest (2 * k + 1) 8
  else s

/-- CORRECTION_SWITCH (R36, R240): at V+5.0 us the committed correction becomes active; a CLE in OFF gives 0x8000. -/
def correctionSwitch (s : State) : State :=
  forN 32 (fun b t =>
    let off := t.isOff (CLE_STATUS_STATE (b / 2))
    t.set (BIO_CORR_M b) (if off then 0x8000 else ((t.cb b).mOff + 32768).toNat)) s

/-! ### Banks (R253 to R257) -/

/-- Is the armed switch of beam `b` due at the edge of Volley `v` (R255): its Volley, or one that was due before? -/
def State.bankArmed (s : State) (v b : Nat) : Bool :=
  s.flag (CLE_B_BANK_ARM b) && ((s.cb b).armLt || s.rd64 (CLE_B_SWAT_LO b) == v)

/-- The bank of beam `b` at an edge (R255, R257); `arm`: its armed switch is due. Neither that switch nor one by a write happens while
a bank load is under way, and a software write to BANK in the cycle of the edge decides. -/
def State.bankEdge (arm : Bool) (b : Nat) (s : State) : State :=
  let r := s.cb b
  let s := s.modCb b fun r => { r with hit := false }
  if r.hit || (!arm && r.defer.isNone) then s
  else if s.flag (CLE_B_BKLOAD_CTRL_BUSY b) then s.modCb b fun r => { r with armLt := r.armLt || arm }
  else
    let act := r.defer.getD (s.get (CLE_B_BANK_ACT b))
    let s := s.set (CLE_B_BANK_ACT b) (if arm then 1 - act else act)
    let s := s.modCb b fun x => { x with defer := none, armLt := x.armLt && !arm }
    let s := s.when arm fun t => (t.setFlag (CLE_B_BANK_ARM b) false).raise 0x0C3 (b / 2) (BitVec.ofNat 32 b)
    s.when (r.defer.isSome || r.armLt) fun t =>
      (t.setFlag (CLE_B_STATUS_SW_LATE b) true).raise 0x0C4 (b / 2) (BitVec.ofNat 32 b)

/-- The number of the first Volley whose latch follows a write made now (R253). -/
def State.useVol (s : State) : Nat := s.vnum + if s.latchPast then 1 else 0

/-- WR_VOL takes the first Volley whose latch follows the write (R253). -/
def State.wrVol (s : State) (b : Nat) : State := s.wr64 (CLE_B_WR_VOL_LO b) s.useVol

/-- A write of BANK (R255, R257): a switch by a write waits while a bank load is under way. A write in the cycle of an edge is
ordered after it, where it counts against the number of the Volley that begins. -/
def wrBank (b : Nat) (v : Word) (s : State) : State :=
  let old := s.get (CLE_B_BANK_ACT b)
  let s := s.plainWrite (CLE_B_BANK b) v
  let past := decide (s.rd64 (CLE_B_SWAT_LO b) ≤ if s.inEdge then s.useVol else s.vnum)
  let s := s.modCb b fun r => { r with defer := none, hit := s.inEdge, armLt := s.flag (CLE_B_BANK_ARM b) && past }
  let new := s.get (CLE_B_BANK_ACT b)
  if s.flag (CLE_B_BKLOAD_CTRL_BUSY b) ∧ old ≠ new then
    (s.set (CLE_B_BANK_ACT b) old).modCb b fun r => { r with defer := some new }
  else s

/-- A write of BANK: WR_VOL follows it (R253), and `same` says that it falls into the cycle of the edge that follows (R255). -/
def wrBankRow (b : Nat) (v : Word) (same : Bool) (s : State) : State :=
  let f (t : State) : State := wrBank b v (t.wrVol b)
  if same then s.coincide f else f s

/-- The rules of R254 and R269 for a value that reaches word `i` of bank `c`: TMIN and TMAX keep their ranges; LO is held. -/
def wrBankValue (b c i : Nat) (v : Word) (s : State) : State :=
  let off := CLE_BK_KP b c + 4 * i
  if i = 6 then s.wr off (wordOf (max (-65535) v.toInt))
  else if i = 7 then s.wr off (wordOf (min 65535 v.toInt))
  else if 8 ≤ i ∧ i % 2 = 0 then s.modCb b fun r => { r with lo := tabSet (fun _ => 0) r.lo off v }
  else if 8 ≤ i then
    let s := match (s.cb b).lo.find? fun x => x.1 == off - 4 with
      | some x => s.wr (off - 4) x.2
      | none => s
    (s.wr off (v &&& 0xFFFF)).modCb b fun r => { r with lo := r.lo.filter fun x => x.1 != off - 4 }
  else s.wr off v

/-- Copy loaded words into a bank, in bank register order (R257). -/
def State.bankCopy (s : State) (b c : Nat) (bytes : List Byte) (n : Nat) : State :=
  (List.range n).foldl (fun t i =>
    let w := BitVec.ofNat 32 (leNat ((bytes.drop (4 * i)).take 4))
    if 8 ≤ i then t.wr (CLE_BK_KP b c + 4 * i) (if i % 2 = 1 then w &&& 0xFFFF else w) else wrBankValue b c i w t) s

/-- A write of BKLOAD_CTRL (R257). -/
def wrBkload (b : Nat) (v : Word) (s : State) : State :=
  let s := s.plainWrite (CLE_B_BKLOAD_CTRL b) v
  if bitOf v.toNat 0 && !s.flag (CLE_B_BKLOAD_CTRL_BUSY b) then
    (s.setFlag (CLE_B_BKLOAD_CTRL_BUSY b) true).modCb b fun r =>
      { r with bkTo := 1 - s.get (CLE_B_BANK_ACT b)
               bkAt := s.rdN (CLE_B_BKLOAD_LO b) / 64 * 64 + s.get (CLE_B_BKLOAD_HI_ADDR b) * 2 ^ 32 }
  else s

/-- BKLOAD_DONE (R257): the copy ends, after every word, or at the first read that fails, where `got` words came before (DESIGN
CHOICE: assumption 46). -/
def bkloadDone (b got : Nat) (s : State) : State :=
  if s.flag (CLE_B_BKLOAD_CTRL_BUSY b) then
    let a := (s.cb b).bkAt
    let c := (s.cb b).bkTo
    let s := s.setFlag (CLE_B_BKLOAD_CTRL_BUSY b) false
    let got := if s.refuses true a then 0 else min got 15
    let early := s.dramTake a 64
    let (s, st, bytes) := s.unitRead true a 64
    let s := s.when (st = .ok || got != 0) fun t => t.wrVol b
    if st = .ok then (s.bankCopy b c bytes 16).setFlag (CLE_B_BKLOAD_CTRL_DONE b) true
    else ((s.bankCopy b c early got).setFlag (CLE_B_BKLOAD_CTRL_ERR b) true).raise 0x0C7 (b / 2) (BitVec.ofNat 32 b)
  else s

/-! ### Register writes -/

/-- A write of CFG: K above 16 stores 16, GMIN above 100 stores 100 (R244, R251). -/
def wrCleCfg (b : Nat) (v : Word) (s : State) : State :=
  let s := s.plainWrite (CLE_B_CFG b) v
  let s := s.set (CLE_B_CFG_K b) (min 16 (s.get (CLE_B_CFG_K b)))
  s.set (CLE_B_CFG_GMIN b) (min 100 (s.get (CLE_B_CFG_GMIN b)))

/-- A write of INT_RESET (R243). -/
def wrIntReset (b : Nat) (v : Word) (s : State) : State := s.modCb b fun r => { r with rst := r.rst ||| fldOf 0 2 v }

/-- A write of a trace node: SHIFT above 47 stores 47 (R270). -/
def wrTrcNode (b i : Nat) (v : Word) (s : State) : State :=
  let s := s.plainWrite (CLE_B_TRC_NODE b i) v
  s.set (CLE_B_TRC_NODE_SHIFT b i) (min 47 (s.get (CLE_B_TRC_NODE_SHIFT b i)))

/-- A write of FE_MAX (R260): in the cycle of its update it stores the larger of the two values. -/
def wrFeMax (b : Nat) (v : Word) (s : State) : State := s.maxWrite (CLE_B_FE_MAX b) v

/-- A write of a register of beam `b` at its offset `r` in the beam's block (R253). -/
def wrCleBeam (b r off : Nat) (v : Word) (s : State) : State :=
  let s := s.wrVol b
  if 0x080 ≤ r ∧ r < 0x100 then wrBankValue b ((r - 0x080) / 0x40) ((r - 0x080) % 0x40 / 4) v s
  else if 0x140 ≤ r ∧ r < 0x160 then wrTrcNode b ((r - 0x140) / 4) v s
  else match r with
    | 0x000 => wrCleCfg b v s
    | 0x004 => wrBank b v s
    | 0x044 => wrIntReset b v s
    | 0x05C => wrFeMax b v s
    | 0x070 => s.plainWrite off (v &&& 0xFFFFFFC0)
    | 0x078 => wrBkload b v s
    | 0x100 => wrTrcCtrl b v s
    | _ => s.plainWrite off v

/-- Writes of the CLE registers. -/
def wrCleReg (off : Nat) (v : Word) (s : State) : State :=
  let k := (off - 0x100000) / 0x1000
  let r := off % 0x1000
  if r = 0 then wrCleCtrl k v s
  else if 0x100 ≤ r ∧ r < 0x500 ∧ (regDesc off).isSome then
    wrCleBeam (2 * k + (r - 0x100) / 0x200) ((r - 0x100) % 0x200) off v s
  else s.plainWrite off v

/-- The engine of beam `b` starts (R243, R259). -/
def State.cleStarted (s : State) (b : Nat) : State :=
  (s.wr (CLE_B_FE_RUN b) 0).modCb b fun r => { r with ist := true, trip := false }

/-- A byte of the trace window of CLk (R261). -/
def State.traceByte (s : State) (k a : Nat) : Byte := memGet s.trace ((2 * k + s.get (CLE_CTRL_VIEW k)) * 65536 + a)

end Sys2Proof.Machine
end

