-- ==== Sys2Proof/Machine/Axis.lean ====
section
/-! DEFINITION. The stepper axes (R349 to R372): lifecycle, commands, the profile, homing, limits, coil drive, load and stall. -/

namespace Sys2Proof.Machine

/-- The axis's record. -/
def State.ax (s : State) (a : Nat) : Axis := recGet s.axes a
/-- Change it. -/
def State.modAx (s : State) (a : Nat) (f : Axis → Axis) : State := { s with axes := recSet s.axes a (f (s.ax a)) }

/-- The axis's registers as they took effect at the last Volley edge (R351). -/
def State.axEff (s : State) (a : Nat) : State := { s with regs := (s.ax a).eff }

/-- The registers of an axis take effect (R351). -/
def State.axLatch (s : State) (a : Nat) : State :=
  let base := MOT_AX_CTRL a
  let eff := s.regs.filter fun x => decide (base ≤ x.1) && decide (x.1 < base + 0x100)
  s.modAx a fun r => { r with eff := eff }

/-- MSTATE values (R353). -/
def msIDLE : Nat := 0
/-- MOVING (R353). -/
def msMOVING : Nat := 1
/-- STOPPING (R353). -/
def msSTOPPING : Nat := 2
/-- STOPPED (R353). -/
def msSTOPPED : Nat := 3
/-- HOMING (R353). -/
def msHOMING : Nat := 4

/-- MSTATE of an axis. -/
def State.mstate (s : State) (a : Nat) : Nat := s.get (MOT_AX_STATUS_MSTATE a)

/-- The commanded position (R350). -/
def State.axPos (s : State) (a : Nat) : Int := s.rdI (MOT_AX_POS a)

/-- Units of speed in a microstep per second; AMAX and DMAX change the speed by 64 units in a tick for each unit of theirs. -/
def axHz : Nat := 64000000

/-- Units of position in a microstep: a tick at speed `v` moves twice `v` of them. -/
def axUnit : Nat := 2000000 * axHz

/-- Units from the present position to `t`, counting the part below a microstep; the shorter way round is taken, as POS wraps. -/
def State.axTo (s : State) (a : Nat) (t : Int) : Int := sgn 32 (low 32 (t - s.axPos a)) * axUnit - (s.ax a).frac

/-- REMAIN := TARGET - POS (R356). -/
def State.axRemain (s : State) (a : Nat) : State :=
  s.wr (MOT_AX_REMAIN a) (s.rd (MOT_AX_TARGET a) - s.rd (MOT_AX_POS a))

/-- A refused write (R351). -/
def State.motRefuse (s : State) (a : Nat) : State := (s.setFlag (MOT_AX_STATUS_CFG_REFUSED a) true).raise 0x245 a

/-! ### Speeds and acceleration, as they took effect -/

/-- VMAX. -/
def State.axVmax (s : State) (a : Nat) : Nat := orOne ((s.axEff a).rdN (MOT_AX_VMAX a) % 2 ^ 21) * axHz
/-- AMAX: what a tick adds to the speed. -/
def State.axA (s : State) (a : Nat) : Nat := orOne ((s.axEff a).rdN (MOT_AX_AMAX a)) * 64
/-- DMAX: what a tick takes from the speed. -/
def State.axD (s : State) (a : Nat) : Nat := orOne ((s.axEff a).rdN (MOT_AX_DMAX a)) * 64
/-- VSTART. -/
def State.axVstart (s : State) (a : Nat) : Nat := (s.axEff a).rdN (MOT_AX_VSS a) % 65536 * axHz
/-- VSTOP. -/
def State.axVstop (s : State) (a : Nat) : Nat := (s.axEff a).rdN (MOT_AX_VSS a) / 65536 * axHz

/-- Is an input selected by `sel` active (R368)? -/
def State.selActive (s : State) (sel : Nat) : Bool := bitOf sel 4 && bitOf (s.rdN PFB_LIM_ACT) (sel % 16)

/-- Is the limit of a direction active for an axis? During homing the home input has no limit action (R369). -/
def State.limActive (s : State) (a : Nat) (pos : Bool) : Bool :=
  let sel := if pos then s.get (MOT_AX_LIMSEL_POS_SEL a) else s.get (MOT_AX_LIMSEL_NEG_SEL a)
  let home := s.get (MOT_AX_LIMSEL_HOME_SEL a)
  s.selActive sel && !(s.mstate a == msHOMING && bitOf home 4 && home == sel)

/-- The axis met an active limit (R369). -/
def State.axLimit (s : State) (a : Nat) (pos : Bool) : State :=
  (s.setFlag (if pos then MOT_AX_STATUS_LIM_P a else MOT_AX_STATUS_LIM_N a) true).raise 0x241 a

/-! ### Starting, stopping, homing (R352 to R356, R369 to R372) -/

/-- A command sets the axis moving (R363): SCALE becomes IRUN. -/
def State.axMoving (s : State) (a ms : Nat) (plan : AxPlan) (kept : Bool) : State :=
  let s := (s.set (MOT_AX_LOAD_SCALE a) ((s.axEff a).get (MOT_AX_CUR_IRUN a))).set (MOT_AX_STATUS_MSTATE a) ms
  s.modAx a fun r => { r with plan := plan, kept := kept, rest := 0 }

/-- The axis is at rest. -/
def State.axRest (s : State) (a ms : Nat) : State :=
  let s := (s.set (MOT_AX_STATUS_MSTATE a) ms).wr (MOT_AX_VACT a) 0
  let s := s.modAx a fun r => { r with plan := .rest, v := 0, stop := 0, rest := if r.v = 0 then r.rest else 0 }
  if ms = msSTOPPED then s.axRemain a else s.wr (MOT_AX_REMAIN a) 0

/-- A GO from rest (R354): is the distance too short for a rise and a fall between VSTART and VSTOP? -/
def shortMove (vs ve a d u : Nat) : Bool :=
  if ve ≤ vs then decide (d * u < vs * vs - ve * ve) else decide (a * u < ve * ve - vs * vs)

/-- A move to the target of the last GO begins from rest (R354, R369). -/
def State.axGoRest (s : State) (a : Nat) : State :=
  let u := s.axTo a (s.ax a).tgt
  if u = 0 then s.axRest a msIDLE
  else
    let pos := decide (0 < u)
    if s.limActive a pos then s.axLimit a pos
    else
      let vs := s.axVstart a
      let flat := vs != 0 && shortMove vs (s.axVstop a) (s.axA a) (s.axD a) u.natAbs
      let v := min vs (s.axVmax a)
      let s := s.axMoving a msMOVING (.toTarget flat) true
      s.modAx a fun r => { r with v := if pos then v else -(v : Int) }

/-- A move to the target of a GO begins while the axis moves (R355). -/
def State.axReplan (s : State) (a : Nat) : State :=
  let u := s.axTo a (s.ax a).tgt
  let v := (s.ax a).v
  let ahead := decide (0 < u * v)
  let ve := s.axVstop a
  let can := decide (v.natAbs * v.natAbs ≤ ve * ve + s.axD a * u.natAbs)
  if v = 0 then s.axGoRest a
  else if ahead && can then s.axMoving a msMOVING (.toTarget false) true
  else s.axMoving a msMOVING (.brake .go) true

/-- GO of an axis (R354, R355): TARGET is taken, and a later write to it changes nothing. A GO towards an active limit does nothing
but flag it; a motion in progress goes on as it was (R369; DEDUCED: assumption 101). -/
def State.axGo (s : State) (a : Nat) : State :=
  let ms := s.mstate a
  let tgt := (s.axEff a).rdI (MOT_AX_TARGET a)
  let u := s.axTo a tgt
  let t := s.modAx a fun r => { r with tgt := tgt }
  if ms = msHOMING then s
  else if u ≠ 0 ∧ s.limActive a (decide (0 < u)) then s.axLimit a (decide (0 < u))
  else if ms = msMOVING ∨ ms = msSTOPPING then t.axReplan a
  else t.axGoRest a

/-- RUN begins from rest (R352, R369). -/
def State.axRunRest (s : State) (a : Nat) (pos : Bool) : State :=
  if s.limActive a pos then (s.axLimit a pos).when (s.mstate a == msMOVING) fun t => t.axRest a msIDLE
  else
    let v := min (s.axVstart a) (s.axVmax a)
    let s := s.axMoving a msMOVING (.run pos) false
    s.modAx a fun r => { r with v := if pos then v else -(v : Int) }

/-- RUN of an axis (R352, R369). -/
def State.axRun (s : State) (a : Nat) (pos : Bool) : State :=
  let ms := s.mstate a
  let v := (s.ax a).v
  if ms = msHOMING then s
  else if v = 0 then s.axRunRest a pos
  else if s.limActive a pos then s.axLimit a pos
  else if (0 < v) = pos then s.axMoving a msMOVING (.run pos) false
  else s.axMoving a msMOVING (.brake (.run pos)) false

/-- Homing fails (R372). -/
def State.homeFail (s : State) (a : Nat) : State :=
  let s := (s.setFlag (MOT_AX_STATUS_HOMED a) false).setFlag (MOT_AX_STATUS_HOME_FAIL a) true
  (s.raise 0x243 a).modAx a fun r => { r with kept := false }

/-- Where a stop of the present motion ends (R356). -/
def State.stopEnd (s : State) (a : Nat) : AxAfter := if (s.ax a).kept then .stopped else .idle

/-- A stop, soft or hard (R356, R372). -/
def State.axStop (s : State) (a : Nat) (hard : Bool) : State :=
  let ms := s.mstate a
  let s := s.when (ms == msHOMING) fun t => t.homeFail a
  let fin := s.stopEnd a
  if ms = msMOVING ∨ ms = msHOMING ∨ ms = msSTOPPING then
    if hard ∨ (s.ax a).v = 0 then s.axRest a (if fin = .stopped then msSTOPPED else msIDLE)
    else (s.set (MOT_AX_STATUS_MSTATE a) msSTOPPING).modAx a fun r => { r with plan := .brake fin }
  else s

/-- Direction of the search: true for + (R370). -/
def State.homePos (s : State) (a : Nat) : Bool := !s.flag (MOT_AX_HOME_CFG_DIR a)

/-- Is the home input active? -/
def State.homeActive (s : State) (a : Nat) : Bool := s.selActive (s.get (MOT_AX_LIMSEL_HOME_SEL a))

/-- HOME of an axis (R370): the first phase; a search for a switch that is already active is skipped. -/
def State.axHome (s : State) (a : Nat) : State :=
  let mode := s.get (MOT_AX_HOME_CFG_MODE a)
  let skip := decide (mode < 2) && s.homeActive a
  let s := s.axMoving a msHOMING (if skip then .backOff else .search) false
  s.modAx a fun r => { r with moved := 0 }

/-- The reference event of homing (R370): the axis then stops. -/
def State.homeRef (s : State) (a : Nat) : State :=
  let q := s.get (MOT_AX_HOME_CFG_QE a)
  let p := s.axPos a
  let pq := s.rdI (PFB_QE_POS q)
  s.modAx a fun r => { r with ref := p, refQ := pq, plan := .brake .home }

/-- The last phase of homing is at rest (R371). -/
def State.homeDone (s : State) (a : Nat) : State :=
  let r := s.ax a
  let s := s.wr (MOT_AX_HOME_REF a) (wordOf r.ref)
  let s := s.wr (MOT_AX_POS a) (wordOf (s.rdI (MOT_AX_HOME_OFS a) + (s.axPos a - r.ref)))
  let s := s.wr (MOT_AX_TARGET a) (s.rd (MOT_AX_POS a))
  let q := PFB_QE_POS (s.get (MOT_AX_HOME_CFG_QE a))
  let s := s.when (s.flag (MOT_AX_HOME_CFG_QEZERO a)) fun t => t.wr q (wordOf (t.rdI q - r.refQ))
  ((s.axRest a msIDLE).setFlag (MOT_AX_STATUS_HOMED a) true).raise 0x242 a

/-- An index event of quadrature input `q` reaches the axes that home on it (R370). -/
def State.homeIndex (q a : Nat) (s : State) : State :=
  let mode := s.get (MOT_AX_HOME_CFG_MODE a)
  let plan := (s.ax a).plan
  if s.mstate a == msHOMING && s.get (MOT_AX_HOME_CFG_QE a) == q
      && ((mode == 1 && plan == .seekIndex) || (mode == 3 && plan == .search)) then s.homeRef a
  else s

/-! ### Taking commands (R352) -/

/-- The mode that the next period would use (R362): it changes where |v| passes a threshold. -/
def State.strongNext (s : State) (a : Nat) : Bool :=
  let e := s.axEff a
  let thr := e.rdN (MOT_AX_QS_THR a) % 2 ^ 24
  let hyst := e.rdN (MOT_AX_QS_HYST a) % 2 ^ 24
  let v := (s.ax a).v.natAbs
  if thr * axHz ≤ v then true
  else if v < (thr - hyst) * axHz then false
  else (s.ax a).strong

/-- The speed has been set: the mode follows (R362). -/
def State.axMode (s : State) (a : Nat) : State := s.modAx a fun r => { r with strong := s.strongNext a }

/-- A command row: the pending command of this code takes effect at its edge; an axis that is not READY does nothing. -/
def State.axTake (s : State) (a code : Nat) (f : State → State) : State :=
  if (s.ax a).due = code then
    let s := s.modAx a fun r => { r with due := 0 }
    s.when (s.isReady (MOT_AX_STATUS_STATE a)) fun t => (f t).axMode a
  else s

/-- GO (R354, R355). -/
def axisGo (a : Nat) (s : State) : State := s.axTake a 1 fun t => t.axGo a
/-- RUN_POS (R352). -/
def axisRunPos (a : Nat) (s : State) : State := s.axTake a 2 fun t => t.axRun a true
/-- RUN_NEG (R352). -/
def axisRunNeg (a : Nat) (s : State) : State := s.axTake a 3 fun t => t.axRun a false
/-- STOP_SOFT (R356). -/
def axisStopSoft (a : Nat) (s : State) : State := s.axTake a 4 fun t => t.axStop a false
/-- STOP_HARD (R356). -/
def axisStopHard (a : Nat) (s : State) : State := s.axTake a 5 fun t => t.axStop a true
/-- RESUME (R352, R356): as GO in STOPPED. -/
def axisResume (a : Nat) (s : State) : State := s.axTake a 6 fun t => if t.mstate a = msSTOPPED then t.axGo a else t
/-- HOME (R370). -/
def axisHome (a : Nat) (s : State) : State := s.axTake a 7 fun t => t.axHome a

/-- A write of MOT_AXn_CMD (R352). -/
def wrAxCmd (a : Nat) (v : Word) (s : State) : State :=
  let c := fldOf 0 4 v
  if 1 ≤ c ∧ c ≤ 7 then
    s.modAx a fun r =>
      if r.cmd = 5 ∨ (r.cmd = 4 ∧ c ≠ 5) then r else { r with cmd := c }
  else s

/-! ### Coils (R357 to R362) -/

/-- The signed table values of coils A and B (R357). -/
def State.coilEntry (s : State) (a : Nat) : Int × Int :=
  let mu := low 10 (s.axPos a)
  let i := mu % 256
  let t (k : Nat) : Int := ((s.rdN (MOT_AX_TBL a k) % 4096 : Nat) : Int)
  match mu / 256 with
  | 0 => (t (255 - i), t i)
  | 1 => (-t i, t (255 - i))
  | 2 => (-t (255 - i), -t i)
  | _ => (t i, -t (255 - i))

/-- The signed target of a coil (R358). -/
def State.coilTarget (s : State) (a : Nat) (coilB : Bool) : Int :=
  let e := if coilB then (s.coilEntry a).2 else (s.coilEntry a).1
  let m : Nat := e.natAbs * (s.get (MOT_AX_LOAD_SCALE a) + 1) / 512
  if e < 0 then -(m : Int) else m

/-- A coil's bridge takes a drive of a sign, or slow decay for 0 (R359). -/
def Coil.drive (c : Coil) (t : Int) : Coil :=
  { c with o1 := decide (0 < t), o2 := decide (t < 0), drv := decide (t ≠ 0), fast := false, n := 0, hit := false }

/-- Slow decay. -/
def Coil.slow (c : Coil) : Coil := { c with o1 := false, o2 := false, drv := false, fast := false }

/-- Fast decay: the opposite polarity. -/
def Coil.fastDecay (c : Coil) (mixed : Bool) : Coil := { c with o1 := c.o2, o2 := c.o1, drv := false, fast := mixed }

/-- The cycles of a quiet drive (R360). -/
def State.quietCycles (s : State) (a : Nat) (t : Int) : Nat := min 2500 (t.natAbs * (s.axEff a).get (MOT_AX_CHOP_VGAIN a) / 32768)

/-- A coil at the start of a period (R359 to R361). -/
def State.coilStart (s : State) (a : Nat) (coilB : Bool) (c : Coil) : Coil :=
  let t := s.coilTarget a coilB
  if !s.flag (MOT_AX_STATUS_STRONG a) && s.quietCycles a t == 0 then c.drive 0 else c.drive t

/-- Does the axis regulate its coils' currents? In READY, and in STOPPING until the edge at which it enters OFF: EN cleared stops it
as a hard stop does, and only OFF ends the regulation (R349). -/
def State.axLive (s : State) (a : Nat) : Bool :=
  let st := s.get (MOT_AX_STATUS_STATE a)
  st == stREADY || st == stSTOPPING || st == stSTOPPING_RP

/-- AXIS_PWM_PERIOD (R359 to R362). -/
def axisPwmPeriod (a : Nat) (s : State) : State :=
  if s.axLive a then
    let s := s.axMode a
    let strong := (s.ax a).strong
    let s := s.setFlag (MOT_AX_STATUS_STRONG a) strong
    let s := s.when (!strong) fun t => t.set (MOT_AX_LOAD_LOAD a) 0
    s.modAx a fun r => { r with a := s.coilStart a false r.a, b := s.coilStart a true r.b }
  else s

/-- The end of a coil's drive, or of its mixed fast decay. -/
def State.coilEnd (s : State) (a : Nat) (c : Coil) : Coil :=
  let strong := s.flag (MOT_AX_STATUS_STRONG a)
  if c.fast then c.slow
  else if !c.drv || (strong && !c.hit) then c
  else if !strong then c.slow
  else match (s.axEff a).get (MOT_AX_CHOP_DECAY a) with
    | 1 => c.fastDecay false
    | 2 => if (s.axEff a).get (MOT_AX_CHOP_FAST_T a) = 0 then c.slow else c.fastDecay true
    | _ => c.slow

/-- COIL_DRIVE_END (R360, R361): in strong mode after the sample that reached the target. -/
def coilDriveEnd (a : Nat) (coilB : Bool) (s : State) : State :=
  if s.axLive a then
    s.modAx a fun r => if coilB then { r with b := s.coilEnd a r.b } else { r with a := s.coilEnd a r.a }
  else s

/-- All four outputs low. -/
def State.coilsLow (s : State) (a : Nat) : State := s.modAx a fun r => { r with a := r.a.slow, b := r.b.slow }

/-- One current sample of a coil (R358, R361, R367): the coil, and whether the sample counts and found the drive on (R364). The
drive keeps the polarity of the period start. -/
def State.coilSample (s : State) (a : Nat) (coilB : Bool) (adc : Nat) (c : Coil) : Coil × Bool × Bool :=
  let ofs := fldOf (if coilB then 16 else 0) 12 ((s.axEff a).rd (MOT_AX_SENSE_OFS a))
  let i : Int := (adc : Int) - ofs
  let t := s.coilTarget a coilB
  let seen := decide ((s.axEff a).get (MOT_AX_CHOP_BLANK a) ≤ c.n)
  let along := if c.o2 then -i else i
  let lim := (s.axEff a).rdN (MOT_AX_OC_LIM a) % 4096
  let hit := c.hit || (c.drv && seen && decide ((t.natAbs : Int) ≤ along))
  let oc := if lim ≠ 0 ∧ lim < i.natAbs then c.oc + 1 else 0
  ({ c with n := c.n + 1, hit := hit, oc := oc }, seen, seen && c.drv)

/-- AX_OVERCURRENT (R367): two samples of one coil in a row above the limit. An axis in STOPPING goes on to OFF (R575; DEDUCED:
assumption 115). -/
def axOvercurrent (a : Nat) (s : State) : State :=
  let r := s.ax a
  if s.axLive a && (decide (2 ≤ r.a.oc) || decide (2 ≤ r.b.oc)) then
    let ms := s.mstate a
    let s := s.when (ms == msHOMING) fun t => t.homeFail a
    let s := (s.coilsLow a).axRest a (if (s.ax a).kept && ms != msIDLE then msSTOPPED else msIDLE)
    let s := (s.when (s.isReady (MOT_AX_STATUS_STATE a)) fun t => t.set (MOT_AX_STATUS_STATE a) stFAULT).setFlag
      (MOT_AX_STATUS_OC a) true
    s.raise 0x244 a
  else s

/-! ### Load and stall (R364 to R366) -/

/-- The ceiling of SCALE (R366); IRUN_MAX below IRUN acts as IRUN (R385). -/
def State.scaleTop (s : State) (a : Nat) : Nat :=
  let e := s.axEff a
  let irun := e.get (MOT_AX_CUR_IRUN a)
  if e.flag (MOT_AX_CTRL_LA_EN a) then max irun (e.get (MOT_AX_CUR_IRUN_MAX a)) else irun

/-- Sample counting starts anew at a full-step boundary (R364). -/
def State.newStep (s : State) (a : Nat) : State := s.modAx a fun r => { r with drvN := 0, smpN := 0 }

/-- A full-step boundary in strong mode (R364 to R366). -/
def State.fullStep (s : State) (a : Nat) : State :=
  let e := s.axEff a
  let r := s.ax a
  let onf := if r.smpN = 0 then (Config.noSamples s.fresh).val else r.drvN * 1023 / r.smpN
  let s := s.when (r.smpN == 0) State.nextFresh
  let sub := r.v.natAbs * e.rdN (MOT_AX_LOAD_KV a) / axHz / 2 ^ 24
  let load := min 1023 (onf - sub)
  let s := (s.set (MOT_AX_LOAD_LOAD a) load).newStep a
  let irun := e.get (MOT_AX_CUR_IRUN a)
  let top := s.scaleTop a
  let sc := s.get (MOT_AX_LOAD_SCALE a)
  let thr := e.get (MOT_AX_STALL_THR a)
  let stall := thr != 0 && decide (thr < load) && decide (top ≤ sc)
  let step := orOne (e.get (MOT_AX_LA_STEP a))
  let sc' :=
    if !e.flag (MOT_AX_CTRL_LA_EN a) then irun
    else if e.get (MOT_AX_LA_UP a) < load then max sc (min top (sc + step))
    else if load < e.get (MOT_AX_LA_DN a) then min sc (max irun (sc - step))
    else sc
  (s.set (MOT_AX_LOAD_SCALE a) sc').modAx a fun r => { r with stall := if stall then r.stall + 1 else 0 }

/-- AX_STALL (R366, R370, R372): STALL.N stall steps in a row. In mode STALL no stall fails homing, a further one while the axis
decelerates among them. -/
def axStall (a : Nat) (s : State) : State :=
  let n := orOne ((s.axEff a).get (MOT_AX_STALL_N a))
  let r := s.ax a
  if s.isReady (MOT_AX_STATUS_STATE a) && decide (n ≤ r.stall) then
    let s := s.modAx a fun r => { r with stall := 0 }
    let s := ((s.setFlag (MOT_AX_STATUS_STALL a) true).bumpSat (MOT_AX_STALL_CNT a)).raise 0x240 a
    let act := (s.axEff a).flag (MOT_AX_CTRL_STALL_ACT a)
    let homing := s.mstate a == msHOMING
    if homing && s.get (MOT_AX_HOME_CFG_MODE a) == 2 then
      (s.when (r.plan == .search) fun t => t.homeRef a).when act fun t => t.modAx a fun r => { r with v := 0 }
    else if act || homing then s.modAx a fun r => { r with stop := max r.stop (if act then 2 else 1) }
    else s
  else s

/-- STANDSTILL_CURRENT_STEP (R363). -/
def standstillCurrentStep (a : Nat) (s : State) : State :=
  let e := s.axEff a
  let hold := e.get (MOT_AX_CUR_IHOLD a)
  let sc := s.get (MOT_AX_LOAD_SCALE a)
  if s.axLive a && (s.ax a).v == 0 && decide (e.get (MOT_AX_CUR_HOLD_DLY a) * 1000 ≤ (s.ax a).rest)
      && decide (hold < e.get (MOT_AX_CUR_IRUN a)) && decide (hold < sc) then
    s.set (MOT_AX_LOAD_SCALE a) (sc - 1)
  else s

/-! ### The profile (R354 to R356, R370) -/

/-- The square root, rounded up. -/
def ceilSqrt (n : Nat) : Nat :=
  let r := isqrt n
  if r * r = n then r else r + 1

/-- The speed at the end of the next tick on the way to a target `u` units away (R354): as the rise gives it, but not above the one
from which DMAX still reaches VSTOP in the distance that the tick then leaves, `w * w + d * w = ve * ve + d * (u - v)`. -/
def axSpeed (v u vmax ve a d : Nat) : Nat :=
  let up := if v ≤ vmax then min vmax (v + a) else max vmax (v - d)
  min up ((ceilSqrt (d * d + 4 * (ve * ve + d * u - d * v)) - d + 1) / 2)

/-- A speed that approaches `want` (signed) at the rates of R370. -/
def axApproach (v want : Int) (a d : Nat) : Int :=
  if 0 < v ∧ want < v then max (max want 0) (v - d)
  else if v < 0 ∧ v < want then min (min want 0) (v + d)
  else if v < want then min want (v + a)
  else max want (v - a)

/-- Move by `du` units (R350); a homing phase counts the microsteps it moves. -/
def State.axMove (s : State) (a : Nat) (du : Int) : State :=
  let r := s.ax a
  let p := s.axPos a
  let n := (r.frac : Int) + du
  let q := n / (axUnit : Int)
  let s := (s.wr (MOT_AX_POS a) (wordOf (p + q))).modAx a fun r =>
    { r with frac := (n % (axUnit : Int)).toNat, moved := r.moved + q.natAbs }
  let p' := p + q
  let crossed := if p < p' then decide (p / 256 < p' / 256) else decide ((p' + 255) / 256 < (p + 255) / 256)
  s.when crossed fun t => if t.flag (MOT_AX_STATUS_STRONG a) then t.fullStep a else t.newStep a

/-- A tick at speed `v'`: the mean of the old and the new speed moves the axis. -/
def State.axStep (s : State) (a : Nat) (v' : Int) : State :=
  let v := (s.ax a).v
  let s := (s.axMove a (v + v')).modAx a fun r => { r with v := v' }
  s.wr (MOT_AX_VACT a) (wordOf (Int.tdiv v' axHz))

/-- A motion goes on from rest without a command of its own: SCALE keeps its value (R363, R365). -/
def State.keepScale (s : State) (a : Nat) (f : State → State) : State := (f s).set (MOT_AX_LOAD_SCALE a) (s.get (MOT_AX_LOAD_SCALE a))

/-- The axis has decelerated to rest. -/
def State.axArrived (s : State) (a : Nat) (after : AxAfter) : State :=
  match after with
  | .idle => s.axRest a msIDLE
  | .stopped => s.axRest a msSTOPPED
  | .go =>
    let s := s.keepScale a fun t => t.axGoRest a
    s.when (s.mstate a == msMOVING && (s.ax a).plan == .brake .go) fun t => t.axRest a msSTOPPED
  | .run pos => s.keepScale a fun t => t.axRunRest a pos
  | .home => s.homeDone a
  | .back => s.modAx a fun r => { r with plan := .backOff, moved := 0 }

/-- A phase of homing has moved more than HOME_MAXD (R372). -/
def State.homeFar (s : State) (a : Nat) : Bool :=
  let maxd := s.rdN (MOT_AX_HOME_MAXD a)
  maxd != 0 && decide (maxd < (s.ax a).moved)

/-- One tick of a homing phase at signed speed `want` (R370, R372). -/
def State.homeTick (s : State) (a : Nat) (want : Int) : State :=
  let s := s.axStep a (axApproach (s.ax a).v want (s.axA a) (s.axD a))
  s.when (s.homeFar a) fun t => t.axStop a false

/-- One tick of a deceleration to rest (R355, R356, R370): where it ends a phase of homing, it is part of the phase (R372). -/
def State.brakeTick (s : State) (a : Nat) (after : AxAfter) : State :=
  let v' := axApproach (s.ax a).v 0 (s.axA a) (s.axD a)
  let s := s.axStep a v'
  if (after = .home ∨ after = .back) ∧ s.homeFar a then s.axStop a false
  else s.when (v' == 0) fun t => t.axArrived a after

/-- A signed speed from a magnitude in microsteps per second. -/
def axSigned (pos : Bool) (n : Nat) : Int := if pos then (n * axHz : Nat) else -((n * axHz : Nat) : Int)

/-- The profile's part of a tick (R354 to R356, R370). -/
def State.profile (s : State) (a : Nat) : State :=
  let r := s.ax a
  match r.plan with
  | .rest => s.modAx a fun r => { r with rest := r.rest + 1 }
  | .toTarget flat =>
    let u := s.axTo a r.tgt
    let v := r.v.natAbs
    let v' := if flat then v else axSpeed v u.natAbs (s.axVmax a) (s.axVstop a) (s.axA a) (s.axD a)
    if u.natAbs ≤ v + v' then (s.axMove a u).axRest a msIDLE
    else s.axStep a (if 0 < u then v' else -(v' : Int))
  | .run pos =>
    s.axStep a (axApproach r.v (if pos then (s.axVmax a : Int) else -(s.axVmax a : Int)) (s.axA a) (s.axD a))
  | .brake after => s.brakeTick a after
  | .search =>
    if s.get (MOT_AX_HOME_CFG_MODE a) < 2 ∧ s.homeActive a then
      (s.modAx a fun r => { r with plan := .brake .back }).brakeTick a .back
    else s.homeTick a (axSigned (s.homePos a) (s.rdN (MOT_AX_HOME_V a) % 65536))
  | .backOff =>
    let v2 := axSigned (!s.homePos a) (s.rdN (MOT_AX_HOME_V a) / 65536)
    if s.homeActive a then s.homeTick a v2
    else if s.get (MOT_AX_HOME_CFG_MODE a) = 1 then (s.modAx a fun r => { r with plan := .seekIndex, moved := 0 }).homeTick a v2
    else (s.homeRef a).brakeTick a .home
  | .seekIndex => s.homeTick a (axSigned (!s.homePos a) (s.rdN (MOT_AX_HOME_V a) / 65536))

/-- While the axis moves in strong mode without LA_EN, SCALE stays at IRUN (R365). -/
def State.scaleHold (s : State) (a : Nat) : State :=
  let e := s.axEff a
  s.when ((s.ax a).v != 0 && s.flag (MOT_AX_STATUS_STRONG a) && !e.flag (MOT_AX_CTRL_LA_EN a)) fun t =>
    t.set (MOT_AX_LOAD_SCALE a) (e.get (MOT_AX_CUR_IRUN a))

/-- PROFILE_TICK (R354, R358, R364): the current samples, which are taken in every state, a stop whose cause came before this tick
(R356), and the profile. -/
def profileTick (a adcA adcB : Nat) (s : State) : State :=
  let s := s.wr (MOT_AX_SENSE a) (BitVec.ofNat 32 (adcA + adcB * 2 ^ 16))
  if s.axLive a then
    let r := s.ax a
    let (ca, seenA, onA) := s.coilSample a false adcA r.a
    let (cb, seenB, onB) := s.coilSample a true adcB r.b
    let n (x y : Bool) : Nat := (if x then 1 else 0) + (if y then 1 else 0)
    let s := s.modAx a fun r =>
      { r with a := ca, b := cb, smpN := r.smpN + n seenA seenB, drvN := r.drvN + n onA onB, stop := 0 }
    let s := if r.stop ≠ 0 then s.axStop a (decide (r.stop = 2)) else s.profile a
    (s.axMode a).scaleHold a
  else s

/-! ### Limits (R368, R369) -/

/-- A limit became active (R369): it stops an axis that moves towards it, at the next tick. -/
def State.limitStop (was : Nat) (a : Nat) (s : State) : State :=
  let side (t : State) (pos : Bool) : State :=
    let sel := if pos then t.get (MOT_AX_LIMSEL_POS_SEL a) else t.get (MOT_AX_LIMSEL_NEG_SEL a)
    let v := (t.ax a).v
    if t.limActive a pos && !bitOf was (sel % 16) && (if pos then decide (0 < v) else decide (v < 0))
        && t.isReady (MOT_AX_STATUS_STATE a) then
      let hard := (t.axEff a).flag (MOT_AX_CTRL_LIM_STOP a)
      (t.axLimit a pos).modAx a fun r => { r with stop := max r.stop (if hard then 2 else 1) }
    else t
  side (side s true) false

/-- LIM_ACT follows the levels and POL (R368), and the limits act (R369). -/
def State.limUpdate (s : State) (lvl : Nat) : State :=
  let was := s.rdN PFB_LIM_ACT
  let s := { s with limLvl := lvl }
  let s := s.wr PFB_LIM_ACT (BitVec.ofNat 32 ((lvl ^^^ s.rdN PFB_LIM_POL) % 65536))
  forN 8 (State.limitStop was) s

/-- LIMIT_INPUT_CHANGE (R368): input `i` takes a new filtered level. -/
def limitInputChange (i : Nat) (level : Bool) (s : State) : State :=
  s.limUpdate (if level then s.limLvl ||| 2 ^ i else s.limLvl ^^^ (s.limLvl &&& 2 ^ i))

/-! ### Lifecycle and register writes (R349, R351) -/

/-- The overcurrent check of a coil starts anew (R367). -/
def Coil.ocNew (c : Coil) : Coil := { c with oc := 0 }

/-- An axis at a Volley edge (R349, R351, R352). -/
def State.axisEdge (a : Nat) (s : State) : State :=
  let st := MOT_AX_STATUS_STATE a
  let s := (s.axLatch a).modAx a fun r => { r with due := r.cmd, cmd := 0 }
  let s :=
    if s.get st = stSTARTING then
      ((s.set st stREADY).set (MOT_AX_LOAD_SCALE a) (s.get (MOT_AX_CUR_IHOLD a))).modAx a fun r =>
        { r with rest := 0, stall := 0, a := r.a.ocNew, b := r.b.ocNew }
    else if s.get st = stSTOPPING ∨ s.get st = stSTOPPING_RP then
      let s := (s.coilsLow a).set (MOT_AX_LOAD_SCALE a) 0
      s.stopDone st fun t => t.set st stSTARTING
    else s
  if s.mstate a = msSTOPPED then s.axRemain a else s

/-- A write of MOT_AXn_CTRL (R349). -/
def wrAxCtrl (a : Nat) (v : Word) (s : State) : State :=
  s.wrEnable (MOT_AX_CTRL a) v (MOT_AX_CTRL_EN a) (MOT_AX_STATUS_STATE a)
    (fun t => t.set (MOT_AX_STATUS_STATE a) stSTARTING)
    (fun t => (t.axStop a true).set (MOT_AX_STATUS_STATE a) stSTOPPING)

/-- A write that R351 allows while the axis is OFF, or READY and at rest with no command that takes effect in this cycle. -/
def State.axIdle (s : State) (a : Nat) : Bool :=
  s.isOff (MOT_AX_STATUS_STATE a)
    || (s.isReady (MOT_AX_STATUS_STATE a) && (s.mstate a == msIDLE || s.mstate a == msSTOPPED) && (s.ax a).due == 0)

/-- A write of POS (R351, R356, R372). -/
def wrAxPos (a : Nat) (v : Word) (s : State) : State :=
  if s.axIdle a then
    let s := ((s.wr (MOT_AX_POS a) v).setFlag (MOT_AX_STATUS_HOMED a) false).modAx a fun r => { r with frac := 0 }
    s.when (s.mstate a == msSTOPPED) fun t => t.axRemain a
  else s.motRefuse a

/-- Writes of the MOT registers (R351, R352). -/
def wrMotReg (off : Nat) (v : Word) (s : State) : State :=
  if 0x131000 ≤ off then
    let a := (off - 0x131000) / 0x400
    if (regDesc off).isNone then s
    else if s.isOff (MOT_AX_STATUS_STATE a) then s.plainWrite off v else s.motRefuse a
  else
    let a := (off - 0x130000) / 0x100
    if 8 ≤ a then s
    else match off % 0x100 with
      | 0x00 => wrAxCtrl a v s
      | 0x08 => wrAxCmd a v s
      | 0x0C => wrAxPos a v s
      | 0x10 => (s.plainWrite off v).when (s.mstate a == msSTOPPED) fun t => t.axRemain a
      | 0x54 | 0x58 | 0x5C | 0x60 | 0x64 => if s.axIdle a then s.plainWrite off v else s.motRefuse a
      | 0x30 | 0x50 => if s.isOff (MOT_AX_STATUS_STATE a) then s.plainWrite off v else s.motRefuse a
      | _ => s.plainWrite off v

end Sys2Proof.Machine
end

