-- ==== Sys2Proof/Machine/Pfb.lean ====
section
/-! DEFINITION. Position feedback (R373 to R382): quadrature inputs and encoder outputs. -/

namespace Sys2Proof.Machine

/-- The record of a quadrature input. -/
def State.qe (s : State) (q : Nat) : Qe := recGet s.qes q
/-- Change it. -/
def State.modQe (s : State) (q : Nat) (f : Qe → Qe) : State := { s with qes := recSet s.qes q (f (s.qe q)) }

/-- A refused write of a quadrature configuration (R380). -/
def State.qeRefuse (s : State) (q : Nat) : State := (s.setFlag (PFB_QE_STATUS_CFG_REFUSED q) true).raise 0x24D q

/-- The fields that R380 guards: FILT, POL, DIR and IGATE. -/
def qeGuarded : Word := 0x0037FF00#32

/-- A write of PFB_QEn_CFG (R380): FILT, POL, DIR and IGATE change only while the input is OFF, and not in the write that sets
EN; `raw` are the levels at the pins of A, B and I. -/
def wrQeCfg (q : Nat) (raw : BitVec 3) (v : Word) (s : State) : State :=
  let off := PFB_QE_CFG q
  let old := s.rd off
  let sets := bitOf v.toNat 0
  let free := s.isOff (PFB_QE_STATUS_STATE q) && !sets
  let refuse := !free && (old &&& qeGuarded) != (v &&& qeGuarded)
  let v' := if free then v else (v &&& ~~~qeGuarded) ||| (old &&& qeGuarded)
  let s := (s.wrEnable off v' (PFB_QE_CFG_EN q) (PFB_QE_STATUS_STATE q)
    (fun t => (t.set (PFB_QE_STATUS_STATE q) stSTARTING).modQe q fun r => { r with raw := raw })
    (fun t => t.set (PFB_QE_STATUS_STATE q) stOFF))
  s.when refuse fun t => t.qeRefuse q

/-- An index event (R378, R370). -/
def State.indexEvent (s : State) (q : Nat) : State :=
  let s := s.bumpWrap (PFB_QE_IDX_CNT q)
  let s := s.modQe q fun r => { r with idx := true }
  let pos := s.rdI (PFB_QE_POS q)
  let s :=
    if !s.flag (PFB_QE_STATUS_IDX_SEEN q) then (s.wr (PFB_QE_IDX_POS q) (wordOf pos)).setFlag (PFB_QE_STATUS_IDX_SEEN q) true
    else
      let last := s.rdI (PFB_QE_IDX_POS q)
      let d := sgn 32 (low 32 (pos - last))
      let lines : Nat := s.rdN (PFB_QE_LINES q) % 2 ^ 20
      let c : Int := ((4 * lines : Nat) : Int)
      let tol := s.rdN (PFB_QE_IDX_TOL q) % 256
      let far := decide (tol < d.natAbs)
      let s := s.when (lines != 0 && far && decide ((tol : Int) < ((d.natAbs : Int) - c).natAbs)) fun t =>
        ((t.bumpSat (PFB_QE_IDX_ERR_CNT q)).setFlag (PFB_QE_STATUS_IDX_ERR q) true).raise 0x249 q
      let s := s.when (s.flag (PFB_QE_CFG_REZERO q) && lines != 0 && far) fun t =>
        t.wr (PFB_QE_POS q) (wordOf (last + (if 0 < d then c else -c)))
      s.wr (PFB_QE_IDX_POS q) (s.rd (PFB_QE_POS q))
  forN 8 (State.homeIndex q) s

/-- With IGATE, an index event occurs at the first cycle in which I, A and B are all 1 (R378). -/
def State.gatedIndex (s : State) (q : Nat) : State :=
  s.when (s.flag (PFB_QE_CFG_IGATE q) && s.get (PFB_QE_STATUS_LVL q) == 7 && !(s.qe q).idx) fun t => t.indexEvent q

/-- A quadrature input at a Volley edge (R380): bit 0 of a level triple is A, bit 1 B, bit 2 I. With IGATE, a period of I that is
active then has its event at the first cycle of READY in which I, A and B are all 1 (R378; DEDUCED: assumption 114). -/
def State.qeEdge (q : Nat) (s : State) : State :=
  if s.get (PFB_QE_STATUS_STATE q) = stSTARTING then
    let lvl := (s.qe q).raw.toNat ^^^ s.get (PFB_QE_CFG_POL q)
    let s := (s.set (PFB_QE_STATUS_STATE q) stREADY).set (PFB_QE_STATUS_LVL q) lvl
    let s := (s.setFlag (PFB_QE_STATUS_IDX_SEEN q) false).modQe q fun r =>
      { r with seen := false, idx := bitOf lvl 2 && !s.flag (PFB_QE_CFG_IGATE q), rejA := 0, rejB := 0, stuck := 0 }
    s.gatedIndex q
  else s

/-- The place of (A, B) in the sequence of R374. -/
def qeSeq (a b : Bool) : Nat :=
  match a, b with
  | false, false => 0
  | true, false => 1
  | true, true => 2
  | false, true => 3

/-- A new filtered level of A or B ends a stuck episode where the line becomes inactive (R379). -/
def State.qeLevels (s : State) (q lvl : Nat) : State :=
  (s.set (PFB_QE_STATUS_LVL q) lvl).modQe q fun r => { r with stuck := r.stuck &&& BitVec.ofNat 3 lvl }

/-- The samples for which a line holds before its level is taken (R373). -/
def State.qeFilt (s : State) (q : Nat) : Nat := orOne (s.get (PFB_QE_CFG_FILT q))

/-- The filtered level of a line whose pin has held `level` for `held` samples (R373). -/
def State.qeLine (s : State) (q line : Nat) (level : Bool) (held : Nat) : Bool :=
  if s.qeFilt q ≤ held then level != bitOf (s.get (PFB_QE_CFG_POL q)) line else bitOf (s.get (PFB_QE_STATUS_LVL q)) line

/-- The levels at the pins, A in bit 0, B in bit 1 and I in bit 2. -/
def State.qePins (s : State) (q : Nat) (raw : Nat) : State := s.modQe q fun r => { r with raw := BitVec.ofNat 3 raw }

/-- QE_COUNT (R373 to R375, R377): the pins of A and B have held `a` and `b` for `heldA` and `heldB` samples; a level that the
filters take is counted, `dt` cycles after the last accepted count. -/
def qeCount (q : Nat) (a b : Bool) (heldA heldB dt : Nat) (s : State) : State :=
  let s := s.qePins q ((s.qe q).raw.toNat / 4 * 4 + (if a then 1 else 0) + (if b then 2 else 0))
  if !s.isReady (PFB_QE_STATUS_STATE q) then s
  else
    let lvl := s.get (PFB_QE_STATUS_LVL q)
    let na := s.qeLine q 0 a heldA
    let nb := s.qeLine q 1 b heldB
    let old := qeSeq (bitOf lvl 0) (bitOf lvl 1)
    let new := qeSeq na nb
    let lvl' := lvl / 4 * 4 + (if na then 1 else 0) + (if nb then 2 else 0)
    let d := (new + 4 - old) % 4
    if d = 0 then s
    else
      let s := s.qeLevels q lvl'
      let s := s.modQe q fun r =>
        { r with rejA := if bitOf lvl 0 = na then r.rejA else 0, rejB := if bitOf lvl 1 = nb then r.rejB else 0 }
      let s :=
        if d = 2 then ((s.bumpSat (PFB_QE_ILL_CNT q)).setFlag (PFB_QE_STATUS_ILLEGAL q) true).raise 0x248 q
        else
          let up : Bool := (d == 1) != s.flag (PFB_QE_CFG_DIR q)
          let s := s.wr (PFB_QE_POS q) (if up then s.rd (PFB_QE_POS q) + 1 else s.rd (PFB_QE_POS q) - 1)
          let sp : Int := ((100000000 / orOne dt : Nat) : Int)
          let s := s.when (s.qe q).seen fun t => t.wr (PFB_QE_SPEED q) (wordOf (if up then sp else -sp))
          s.modQe q fun r => { r with seen := true }
      s.gatedIndex q

/-- QE_REJECT (R373): a raw change of line 0 (A), 1 (B) or 2 (I) reverts after `held` samples, before it is taken. -/
def qeReject (q line held : Nat) (s : State) : State :=
  if s.isReady (PFB_QE_STATUS_STATE q) && decide (held < s.qeFilt q) then
    (s.bumpSat (PFB_QE_REJ_CNT q)).modQe q fun r =>
      { r with rejA := if line = 0 then r.rejA + 1 else r.rejA, rejB := if line = 1 then r.rejB + 1 else r.rejB }
  else s

/-- QE_OVERSPEED (R376): 8 rejected changes of A or B in a row. -/
def qeOverspeed (q line : Nat) (s : State) : State :=
  let r := s.qe q
  if s.isReady (PFB_QE_STATUS_STATE q) && decide (8 ≤ if line = 0 then r.rejA else r.rejB) then
    let s := s.modQe q fun r => if line = 0 then { r with rejA := 0 } else { r with rejB := 0 }
    (s.setFlag (PFB_QE_STATUS_OVERSPEED q) true).raise 0x24A q
  else s

/-- QE_INDEX (R373, R378): the pin of I has held a level for `held` samples. -/
def qeIndex (q : Nat) (i : Bool) (held : Nat) (s : State) : State :=
  let s := s.qePins q ((s.qe q).raw.toNat % 4 + if i then 4 else 0)
  if !s.isReady (PFB_QE_STATUS_STATE q) then s
  else
    let lvl := s.get (PFB_QE_STATUS_LVL q)
    let was := bitOf lvl 2
    let level := s.qeLine q 2 i held
    let s := s.qeLevels q (lvl % 4 + if level then 4 else 0)
    if !level then s.modQe q fun r => { r with idx := false }
    else if s.flag (PFB_QE_CFG_IGATE q) then s.gatedIndex q
    else s.when (!was) fun t => t.indexEvent q

/-- QE_STUCK (R379): a line has stayed active for STUCK_T. -/
def qeStuck (q line : Nat) (s : State) : State :=
  if s.isReady (PFB_QE_STATUS_STATE q) && bitOf (s.get (PFB_QE_CFG_STUCK_EN q)) line
      && bitOf (s.get (PFB_QE_STATUS_LVL q)) line && !bitOf (s.qe q).stuck.toNat line then
    let s := s.modQe q fun r => { r with stuck := r.stuck ||| (1#3 <<< line) }
    (s.set ⟨PFB_QE_STATUS q, 11 + line, 1⟩ 1).raise 0x24B q
  else s

/-- QE_SPEED_TIMEOUT (R377). -/
def qeSpeedTimeout (q : Nat) (s : State) : State := s.wr (PFB_QE_SPEED q) 0

/-! ### Encoder emulation (R381, R382) -/

/-- The record of an encoder output. -/
def State.eo (s : State) (e : Nat) : Eo := recGet s.eos e
/-- Change it. -/
def State.modEo (s : State) (e : Nat) (f : Eo → Eo) : State := { s with eos := recSet s.eos e (f (s.eo e)) }

/-- The source of an encoder output (R381). -/
def State.eoSource (s : State) (e : Nat) : Int :=
  let k := s.get (PFB_EO_CFG_SRC e)
  if k < 8 then s.rdI (MOT_AX_POS k) else s.rdI (PFB_QE_POS (k - 8))

/-- The source change since READY follows the source (R381). -/
def State.eoFollow (s : State) (e : Nat) : State :=
  let p := s.eoSource e
  s.modEo e fun r => { r with last := p, s := r.s + sgn 32 (low 32 (p - r.last)) }

/-- The emitted count moves by `d` (R382). -/
def State.eoCount (s : State) (e : Nat) (d : Int) : State :=
  let n := (s.eo e).n + d
  (s.modEo e fun r => { r with n := n }).wr (PFB_EO_POS e) (wordOf n)

/-- The target count (R381). -/
def State.eoTarget (s : State) (e : Nat) : Int :=
  let o := (s.eo e).s * orOne (s.rdN (PFB_EO_NUM e) % 65536) / (orOne (s.rdN (PFB_EO_DEN e) % 65536) : Nat)
  if s.flag (PFB_EO_CFG_INV e) then -o else o

/-- A write of PFB_EOn_CFG (R381). -/
def wrEoCfg (e : Nat) (v : Word) (s : State) : State :=
  s.wrEnable (PFB_EO_CFG e) v (PFB_EO_CFG_EN e) (PFB_EO_STATUS_STATE e)
    (fun t => t.set (PFB_EO_STATUS_STATE e) stSTARTING) (fun t => t.set (PFB_EO_STATUS_STATE e) stOFF)

/-- An encoder output at a Volley edge (R381). -/
def State.eoEdge (e : Nat) (s : State) : State :=
  if s.get (PFB_EO_STATUS_STATE e) = stSTARTING then
    let s := (s.set (PFB_EO_STATUS_STATE e) stREADY).wr (PFB_EO_POS e) 0
    s.modEo e fun _ => { last := s.eoSource e, s := 0, n := 0 }
  else s

/-- EO_STEP (R382): one change towards the target count; a lag above 16 is flagged. -/
def eoStep (e : Nat) (s : State) : State :=
  if s.isReady (PFB_EO_STATUS_STATE e) then
    let s := s.eoFollow e
    let d := s.eoTarget e - (s.eo e).n
    let was := s.flag (PFB_EO_STATUS_LAG e)
    let s := s.when (decide (16 < d.natAbs)) fun t =>
      (t.setFlag (PFB_EO_STATUS_LAG e) true).when (!was) fun u => u.raise 0x24C e
    if 0 < d then s.eoCount e 1 else if d < 0 then s.eoCount e (-1) else s
  else s

/-- The levels of EOn_A, EOn_B and EOn_I (R382). -/
def State.eoPins (s : State) (e : Nat) : Bool × Bool × Bool :=
  let n := (s.eo e).n
  let m := low 2 n
  let cpr : Nat := s.rdN (PFB_EO_OUT_CPR e) % 2 ^ 24
  (m == 1 || m == 2, m == 2 || m == 3, cpr != 0 && n % (cpr : Int) == 0)

/-- Writes of the PFB registers (R368, R380, R381). -/
def wrPfbReg (off : Nat) (v : Word) (s : State) : State :=
  if off < 0x140200 ∧ off % 0x40 = 0 then wrQeCfg ((off - 0x140000) / 0x40) (s.qe ((off - 0x140000) / 0x40)).raw v s
  else if 0x140400 ≤ off ∧ off < 0x140480 ∧ off % 0x20 = 0 then wrEoCfg ((off - 0x140400) / 0x20) v s
  else if off = PFB_LIM_POL then
    let s := s.plainWrite off v
    s.limUpdate s.limLvl
  else s.plainWrite off v

end Sys2Proof.Machine
end

