-- ==== Sys2Proof/Machine/Codec.lean ====
section
/-! DEFINITION. The dictionary codec (R441 to R449) as functions of its record: CRC-32C, the decoder and the encoder. -/

namespace Sys2Proof.Machine

/-! ### CRC-32C (R443) -/

/-- One bit of a reflected CRC. -/
def crcBit (poly c : Word) : Word := if c.getLsbD 0 then (c >>> 1) ^^^ poly else c >>> 1

/-- One byte of a reflected CRC. -/
def crcByte (poly : Word) (c : Word) (b : Byte) : Word :=
  let c := c ^^^ (b.setWidth 32)
  crcBit poly (crcBit poly (crcBit poly (crcBit poly (crcBit poly (crcBit poly (crcBit poly (crcBit poly c)))))))

/-- The reflected Castagnoli polynomial (R443). -/
def polyC : Word := 0x82F63B78#32

/-- CRC-32C before its final inversion. -/
def crcRaw (c : Word) (l : List Byte) : Word := l.foldl (crcByte polyC) c

/-- CRC-32C (R443). -/
def crc32c (l : List Byte) : Word := ~~~(crcRaw 0xFFFFFFFF l)

/-! ### Codes (R444) -/

/-- The width of a code (R444). -/
def codeW (maxw m : Nat) : Nat := min maxw (max 9 (Nat.log2 (m - 1) + 1))

/-- The next code that the dictionary would give. -/
def Codec.next (c : Codec) : Nat := 258 + c.dict.length

/-- The string that a code stands for, last byte first. -/
def strRev (dict : List (Nat × Byte)) : Nat → Nat → List Byte
  | 0, _ => []
  | fuel + 1, k =>
    if k < 256 then [BitVec.ofNat 8 k]
    else match dict[dict.length - 1 - (k - 258)]? with
      | some (p, b) => b :: strRev dict fuel p
      | none => []

/-- The string that a code stands for. -/
def Codec.str (c : Codec) (k : Nat) : List Byte := (strRev c.dict (c.dict.length + 1) k).reverse

/-! ### The decompressor (R445, R448, R449) -/

/-- A stream error. -/
def Codec.fail (c : Codec) (e : Nat) : Codec := { c with err := e }

/-- A block's header is complete (R441, R448, R449). -/
def Codec.header (indep : Bool) (c : Codec) : Codec :=
  let h := leNat c.part
  let kind := h / 2 ^ 16 % 16
  let maxw := h / 2 ^ 20 % 16
  let seq := h / 2 ^ 32
  let cont := c.stream && !indep
  if h % 2 ^ 16 != 0x5A1B || !(kind == 1 || kind == 2) || decide (maxw < 9) || decide (14 < maxw)
      || (cont && maxw != c.maxw) || (kind == 2 && !cont) || (!cont && kind != 1) then c.fail 1
  else if !indep && seq != (if cont then c.seq else 0) then c.fail 2
  else
    { c with
      phase := 1, part := [], bits := 0, nb := 0, pay := 0, cur := none, olen := 0, bcrc := 0xFFFFFFFF, open_ := true,
      dict := if kind = 1 then [] else c.dict
      scrc := if cont then c.scrc else 0xFFFFFFFF
      maxw := maxw, seq := (seq + 1) % 2 ^ 32, stream := true }

/-- A block's trailer is complete (R442, R449). -/
def Codec.trailer (indep : Bool) (c : Codec) : Codec :=
  let t := leNat c.part
  let eos := bitOf t 96
  if t % 2 ^ 32 != c.olen || t / 2 ^ 97 != 0 then c.fail 4
  else if BitVec.ofNat 32 (t / 2 ^ 32) != ~~~c.bcrc then c.fail 5
  else if !indep && BitVec.ofNat 32 (t / 2 ^ 64) != ~~~c.scrc then c.fail 6
  else { c with phase := 0, part := [], open_ := false, stream := !(eos || indep), fin := eos || indep }

/-- The decoder outputs a string (R445). -/
def Codec.output (c : Codec) (x : List Byte) (k : Nat) : Codec :=
  if 65536 < c.olen + x.length then c.fail 4
  else
    let grown := match c.cur with
      | some p => if c.next < 2 ^ c.maxw then (p, x.headD 0) :: c.dict else c.dict
      | none => c.dict
    { c with outq := c.outq ++ x, olen := c.olen + x.length, bcrc := crcRaw c.bcrc x, scrc := crcRaw c.scrc x,
             dict := grown, cur := some k }

/-- The decoder reads a code (R445). -/
def Codec.code (c : Codec) (k : Nat) : Codec :=
  if k = 257 then
    if c.bits ≠ 0 then c.fail 4 else { c with phase := if c.pay % 4 = 0 then 3 else 2, nb := 0 }
  else if k = 256 then { c with dict := [], cur := none }
  else if k < c.next then c.output (c.str k) k
  else match c.cur with
    | some p => if k = c.next then c.output (c.str p ++ [(c.str p).headD 0]) k else c.fail 3
    | none => c.fail 3

/-- The decoder takes one byte of the stream. -/
def Codec.decByte (indep : Bool) (c : Codec) (b : Byte) : Codec :=
  match c.phase with
  | 0 =>
    let c := { c with part := c.part ++ [b] }
    if c.part.length = 8 then c.header indep else c
  | 1 =>
    let c := { c with bits := c.bits + b.toNat * 2 ^ c.nb, nb := c.nb + 8, pay := c.pay + 1 }
    let w := codeW c.maxw (if c.cur.isSome then c.next + 1 else c.next)
    if w ≤ c.nb then { c with bits := c.bits / 2 ^ w, nb := c.nb - w }.code (c.bits % 2 ^ w) else c
  | 2 =>
    if b ≠ 0 then c.fail 4
    else { c with pay := c.pay + 1, phase := if (c.pay + 1) % 4 = 0 then 3 else 2 }
  | _ =>
    let c := { c with part := c.part ++ [b] }
    if c.part.length = 16 then c.trailer indep else c

/-- The decoder takes input until the block ends, an error is found or no input is left; it answers what is left. -/
def Codec.decRun (indep : Bool) (c : Codec) : List Byte → Codec × List Byte
  | [] => (c, [])
  | b :: rest =>
    let was := c.open_
    let c := c.decByte indep b
    if c.err ≠ 0 ∨ (was ∧ !c.open_) then (c, rest) else c.decRun indep rest

/-! ### The compressor (R446 to R448) -/

/-- Output bytes of the block. -/
def Codec.emit (c : Codec) (l : List Byte) : Codec := { c with outq := c.outq ++ l, blen := c.blen + l.length }

/-- Write a code (R444): full bytes leave. -/
def Codec.put (c : Codec) (k w : Nat) : Codec :=
  let bits := c.bits + k * 2 ^ c.nb
  let nb := c.nb + w
  let n := nb / 8
  { c with bits := bits / 2 ^ (8 * n), nb := nb % 8, pay := c.pay + n }.emit (leBytes n (bits % 2 ^ (8 * n)))

/-- emit_data of R446. -/
def Codec.emitData (c : Codec) (k : Nat) : Codec := { c.put k (codeW c.maxw c.next) with have_ := true }

/-- emit_ctl of R446. -/
def Codec.emitCtl (c : Codec) (k : Nat) : Codec := c.put k (codeW c.maxw (if c.have_ then c.next + 1 else c.next))

/-- A block begins (R441, R446, R447, R448): `maxw` is CTRL.MAXW, `indep` says that every block is FRESH. -/
def Codec.begin (indep : Bool) (maxw at_ : Nat) (c : Codec) : Codec :=
  let first := !c.stream
  let fresh := first || indep
  let mw := if first then maxw else c.maxw
  let seq := if first then 0 else c.seq
  let c :=
    { c with
      open_ := true, stream := true, maxw := mw, seq := (seq + 1) % 2 ^ 32, hdrAt := at_, blen := 0, bits := 0, nb := 0, pay := 0,
      olen := 0, bcrc := 0xFFFFFFFF, scrc := if first then 0xFFFFFFFF else c.scrc
      dict := if fresh then [] else c.dict, have_ := false, cur := none }
  c.emit (leBytes 8 (0x5A1B + (if fresh then 1 else 2) * 2 ^ 16 + mw * 2 ^ 20 + seq * 2 ^ 32))

/-- The encoder takes one byte (R446). -/
def Codec.encByte (c : Codec) (b : Byte) : Codec :=
  let c := { c with olen := c.olen + 1, bcrc := crcByte polyC c.bcrc b, scrc := crcByte polyC c.scrc b }
  match c.cur with
  | none => { c with cur := some b.toNat }
  | some p =>
    match c.dict.findIdx? fun e => e == (p, b) with
    | some i => { c with cur := some (257 + c.dict.length - i) }
    | none =>
      let c := c.emitData p
      let c :=
        if c.next < 2 ^ c.maxw then { c with dict := (p, b) :: c.dict }
        else { c.emitCtl 256 with dict := [], have_ := false }
      { c with cur := some b.toNat }

/-- The end of a block (R446, R447): the pending string, STOP, padding and the trailer. -/
def Codec.finish (eos : Bool) (c : Codec) : Codec :=
  let c := match c.cur with
    | some p => { c.emitData p with cur := none }
    | none => c
  let c := c.emitCtl 257
  let c := if c.nb = 0 then c else c.put 0 (8 - c.nb)
  let c := c.emit (List.replicate ((4 - c.pay % 4) % 4) 0)
  let c := c.emit (leBytes 16 (c.olen + (~~~c.bcrc).toNat * 2 ^ 32 + (~~~c.scrc).toNat * 2 ^ 64 + (if eos then 2 ^ 96 else 0)))
  { c with have_ := false, open_ := false, stream := !eos, fin := eos }

end Sys2Proof.Machine
end

