-- ==== Sys2Proof/Machine/Operands.lean ====
section
/-! DEFINITION. The instruction word of the Scan Engine and its operand forms (R132 to R136, R162): fields, the check of unused
fields, target records and targets. -/

namespace Sys2Proof.Machine

/-- OP, bits [63:58] (R132). -/
def iOp (w : BitVec 64) : Nat := w.toNat / 2 ^ 58
/-- M, bits [57:56]. -/
def iM (w : BitVec 64) : Nat := w.toNat / 2 ^ 56 % 4
/-- A, bits [55:52]. -/
def iA (w : BitVec 64) : Nat := w.toNat / 2 ^ 52 % 16
/-- B, bits [51:48]. -/
def iB (w : BitVec 64) : Nat := w.toNat / 2 ^ 48 % 16
/-- H, bits [47:24]. -/
def iH (w : BitVec 64) : Nat := w.toNat / 2 ^ 24 % 2 ^ 24
/-- L, bits [23:0]. -/
def iL (w : BitVec 64) : Nat := w.toNat % 2 ^ 24
/-- The 32-bit immediate, bits [31:0]. -/
def iImm (w : BitVec 64) : Nat := w.toNat % 2 ^ 32

/-- The fields a form uses: A, B (as a mask of its bits), H, L (as a number of low bits), or a 32-bit immediate. -/
structure Form where
  a   : Bool
  b   : Nat
  h   : Bool
  l   : Nat
  imm : Bool

/-- A form that uses nothing. -/
def fNone : Form := ⟨false, 0, false, 0, false⟩

/-- Does a word keep every unused field 0? (R133) -/
def Form.fits (f : Form) (w : BitVec 64) : Bool :=
  (f.a || iA w == 0) && (iB w &&& (15 - f.b) == 0) &&
  (if f.imm then w.toNat / 2 ^ 32 % 2 ^ 16 == 0 else (f.h || iH w == 0) && iL w / 2 ^ f.l == 0)

/-- The form that opcode and M select (R135, R144, R146, R151, R153 to R156, R162); none where the table assigns no opcode or
the description lists no such M (R133, R134). -/
def formOf (op m : Nat) : Option Form :=
  match op, m with
  | 0x01, 0 | 0x02, 0 => some ⟨true, 15, false, 0, false⟩
  | 0x01, 1 | 0x02, 1 => some ⟨false, 0, true, 24, false⟩
  | 0x01, 2 | 0x02, 2 => some ⟨true, 1, false, 16, false⟩
  | 0x01, 3 | 0x02, 3 => some ⟨true, 15, false, 0, false⟩
  | 0x03, 0 => some ⟨true, 15, false, 24, false⟩
  | 0x04, 0 => some ⟨true, 15, false, 24, false⟩
  | 0x04, 1 => some ⟨false, 0, false, 24, false⟩
  | 0x05, _ => some ⟨false, 0, true, 24, false⟩
  | 0x06, 0 => some ⟨true, 0, false, 0, false⟩
  | 0x06, 1 => some ⟨false, 0, false, 16, false⟩
  | 0x07, 1 => some ⟨false, 0, true, 16, false⟩
  | 0x08, 0 => some ⟨true, 0, false, 0, false⟩
  | 0x08, 1 => some ⟨false, 0, false, 24, false⟩
  | 0x09, 0 | 0x09, 1 => some ⟨false, 0, false, 24, false⟩
  | 0x10, 0 => some ⟨true, 15, false, 0, false⟩
  | 0x10, 1 => some ⟨false, 0, false, 24, false⟩
  | 0x11, 0 => some ⟨true, 15, false, 0, false⟩
  | 0x12, 0 => some ⟨true, 0, true, 0, false⟩
  | 0x13, 0 => some ⟨true, 0, false, 0, false⟩
  | 0x13, 1 => some fNone
  | 0x14, 0 => some ⟨true, 0, false, 6, false⟩
  | 0x14, 1 => some ⟨true, 0, false, 0, false⟩
  | 0x15, 0 => some ⟨true, 0, false, 0, false⟩
  | 0x18, 0 | 0x18, 1 => some ⟨true, 0, true, 4, false⟩
  | 0x20, 0 | 0x24, 0 => some ⟨true, 0, false, 0, false⟩
  | 0x20, 1 | 0x24, 1 => some ⟨false, 0, false, 16, false⟩
  | 0x21, 0 | 0x23, 0 => some fNone
  | 0x22, 0 => some ⟨true, 0, false, 16, false⟩
  | 0x22, 1 => some ⟨false, 0, true, 16, false⟩
  | 0x25, 1 => some ⟨false, 15, false, 16, false⟩
  | 0x28, 1 => some ⟨true, 0, false, 0, true⟩
  | 0x29, 0 | 0x2A, 0 | 0x2B, 0 | 0x2C, 0 | 0x2F, 0 => some ⟨true, 15, false, 0, false⟩
  | 0x29, 1 | 0x2A, 1 | 0x2B, 1 | 0x2C, 1 | 0x2F, 1 => some ⟨true, 0, false, 0, true⟩
  | 0x2D, 0 | 0x2E, 0 | 0x2E, 2 => some ⟨true, 15, false, 0, false⟩
  | 0x2D, 1 | 0x2E, 1 | 0x2E, 3 => some ⟨true, 0, false, 5, false⟩
  | 0x30, 0 | 0x31, 0 => some ⟨true, 15, false, 16, false⟩
  | 0x30, 1 | 0x31, 1 => some ⟨true, 0, false, 16, false⟩
  | 0x34, 0 => some ⟨true, 1, false, 0, false⟩
  | 0x34, 1 => some ⟨false, 1, false, 16, false⟩
  | 0x35, 0 => some ⟨true, 0, false, 0, false⟩
  | 0x38, 0 => some ⟨true, 1, false, 0, false⟩
  | 0x38, 1 => some ⟨false, 1, false, 24, false⟩
  | 0x39, 1 | 0x3A, 1 => some ⟨false, 0, false, 16, false⟩
  | _, _ => none

/-- Does a word trap as an illegal instruction: an opcode not assigned, a form not listed, an unused field that is not 0
(R133), or a condition of BRC that is not assigned (R164)? -/
def illegalWord (w : BitVec 64) : Bool :=
  match formOf (iOp w) (iM w) with
  | none => true
  | some f => !f.fits w || (iOp w == 0x25 && decide (12 ≤ iB w))

/-- The register operand G[A]. -/
def State.opA (s : State) (b : Nat) (w : BitVec 64) : Word := s.gReg b (iA w)
/-- The register operand G[B]. -/
def State.opB (s : State) (b : Nat) (w : BitVec 64) : Word := s.gReg b (iB w)

/-- X of R163 and R168: G[B], or the 32-bit immediate. -/
def State.opX (s : State) (b : Nat) (w : BitVec 64) : Word :=
  if iM w = 0 then s.opB b w else BitVec.ofNat 32 (iImm w)

/-- The address of the record of an ABS_MEM target (R135, R136), as an exact sum. -/
def State.recAddr (s : State) (b : Nat) (w : BitVec 64) : Int := ((s.opA b w).toNat : Int) + sgn 16 (iL w)

/-- What a target form gives (R135, R136): a target, an address that traps, or a record whose page is not present. -/
inductive Target where
  | at (t : V3)
  | badAddr (a : Int)
  | absent

/-- The target of MOVE or MARK, with `p` as the program position (R135, R136). -/
def State.target (s : State) (b : Nat) (w : BitVec 64) (p : V3) : Target :=
  match iM w with
  | 0 => .at ⟨(s.opA b w).toInt, (s.opB b w).toInt, p.z⟩
  | 1 => .at ⟨p.x + sgn 24 (iH w), p.y + sgn 24 (iL w), p.z⟩
  | 2 =>
    let a := s.recAddr b w
    if a < 0 ∨ 0xFFF0 < a ∨ a % 16 ≠ 0 then .badAddr a
    else if !s.present b a.toNat then .absent
    else .at ⟨(s.lmWord b a.toNat).toInt, (s.lmWord b (a.toNat + 4)).toInt, (s.lmWord b (a.toNat + 8)).toInt⟩
  | _ => .at ⟨p.x + (s.opA b w).toInt, p.y + (s.opB b w).toInt, p.z⟩

/-- Post-increment of an ABS_MEM form (R136). -/
def State.postInc (s : State) (b : Nat) (w : BitVec 64) : State :=
  if iM w = 2 ∧ iB w % 2 = 1 then s.wr (SCN_G b (iA w)) (s.opA b w + 16) else s

/-- Extra issue cycles of the ABS_MEM form (R140). -/
def memCycles (w : BitVec 64) : Nat := if iM w = 2 then 2 else 0

/-- The address of LD and ST (R170), as an exact sum. -/
def State.ldAddr (s : State) (b : Nat) (w : BitVec 64) : Int :=
  if iM w = 0 then ((s.opB b w).toNat : Int) + sgn 16 (iL w) else (iL w : Int)

end Sys2Proof.Machine
end

