-- ==== Sys2Proof/Machine/Flags.lean ====
section
/-! DEFINITION. The flags of the Scan Engine (R115, R163) and the conditions of BRC (R164). -/

namespace Sys2Proof.Machine

/-- Write Z and N from a result (R163). -/
def State.setZN (s : State) (b : Nat) (x : Word) : State :=
  (s.setFlag (SCN_FLAGS_Z b) (x == 0)).setFlag (SCN_FLAGS_N b) x.msb

/-- Write Z and N from a result, and C (R163). -/
def State.setZNC (s : State) (b : Nat) (x : Word) (c : Bool) : State := (s.setZN b x).setFlag (SCN_FLAGS_C b) c

/-- Carry out of bit 31 of a sum. -/
def carryAdd (x y : Word) : Bool := decide (2 ^ 32 ≤ x.toNat + y.toNat)

/-- Borrow of a difference. -/
def borrowSub (x y : Word) : Bool := decide (x.toNat < y.toNat)

/-- The flags of CMP (R163): equal, signed lower, unsigned lower. -/
def State.setCmp (s : State) (b : Nat) (x y : Word) : State :=
  ((s.setFlag (SCN_FLAGS_Z b) (x == y)).setFlag (SCN_FLAGS_N b) (decide (x.toInt < y.toInt))).setFlag (SCN_FLAGS_C b)
    (decide (x.toNat < y.toNat))

/-- Result and carry of SHL by `n` (R163, R169): the last bit shifted out, 0 for a count of 0. -/
def shlRes (x : Word) (n : Nat) : Word × Bool := (x <<< n, n != 0 && bitOf x.toNat (32 - n))

/-- Result and carry of SHR by `n`, filling with zeros or with copies of bit 31 (R169). -/
def shrRes (arith : Bool) (x : Word) (n : Nat) : Word × Bool :=
  (if arith then x.sshiftRight n else x >>> n, n != 0 && bitOf x.toNat (n - 1))

/-- Does a condition of BRC hold? (R164) -/
def State.cond (s : State) (b c : Nat) : Bool :=
  let z := s.flag (SCN_FLAGS_Z b)
  let n := s.flag (SCN_FLAGS_N b)
  let cf := s.flag (SCN_FLAGS_C b)
  let bf := s.flag (SCN_FLAGS_B b)
  match c with
  | 0 => z
  | 1 => !z
  | 2 => n
  | 3 => !n
  | 4 => cf
  | 5 => !cf
  | 6 => bf
  | 7 => !bf
  | 8 => !n && !z
  | 9 => n || z
  | 10 => !cf && !z
  | 11 => cf || z
  | _ => false

end Sys2Proof.Machine
end

