-- ==== Sys2Proof/Machine/Expo.lean ====
section
/-! DEFINITION. Issue of an instruction (R117 to R120, R130, R133), the exposure instructions (R140 to R156), and the
computation of points (R124 to R131, R152, R154, R158). -/

namespace Sys2Proof.Machine

/-! ### Issue -/

/-- The engine waits for a page (R119). -/
def State.waitPage (s : State) (b : Nat) : State := s.setWait b 3

/-- May engine `b` issue an instruction: it runs, issue has not stopped, it waits for nothing, and the next point has no owner
yet (R130)? -/
def State.mayIssue (s : State) (b : Nat) : Bool :=
  let e := s.eng b
  s.running b && !e.stopped && e.wait == .none && !e.owns

/-- Take the word at the PC, fetched ahead or from local memory (R119, R120). The engine then holds at least `n` words fetched
ahead of it, and `f` says what the word does. -/
def State.fetch (s : State) (b n : Nat) (f : BitVec 64 → State → State) : State :=
  if s.mayIssue b then
    let pc := s.get (SCN_PC_PC b)
    match s.wordAt b pc with
    | some w => f w (s.prefetch b pc n)
    | none => s.waitPage b
  else s

/-- Issue an instruction with opcode `op`, and with M = `m` where the row names one form; a word of another row changes
nothing but the words fetched, and an illegal form traps (R133). -/
def State.issue (s : State) (b op : Nat) (m : Option Nat) (n : Nat) (f : BitVec 64 → State → State) : State :=
  s.fetch b n fun w t =>
    if iOp w ≠ op ∨ (m.any fun k => k != iM w) then t
    else if illegalWord w then t.trap b tcIllegal
    else f w t

/-- ILLEGAL_INSTRUCTION (R133): the word at the PC traps before it has any effect. -/
def illegalInstruction (b n : Nat) (s : State) : State :=
  s.fetch b n fun w t => if illegalWord w then t.trap b tcIllegal else t

/-- The instruction has issued: the PC moves to `pc`, and its cycles are spent (R117, R140, R194). -/
def State.goto (s : State) (b pc cost : Nat) : State :=
  ((s.set (SCN_PC_PC b) pc).modEng b fun e => { e with used := e.used + cost }).setWait b 0

/-- The instruction has issued and the next one follows. -/
def State.done (s : State) (b cost : Nat) : State := s.goto b (s.get (SCN_PC_PC b) + 8) cost

/-- A point-producing instruction occupies the next `tau` units of path time (R124). -/
def State.startSeg (s : State) (b : Nat) (seg : Seg) (g : Bool) (tau : Nat) : State :=
  let pc := s.get (SCN_PC_PC b)
  let pp := s.ppos b
  s.modEng b fun e =>
    { e with ts := e.te, te := e.te + tau, openEnd := false, seg := seg, segG := g, segPc := pc, prevP := pp,
             ready := none }

/-! ### Power (R127, R153, R154) -/

/-- The power in force at path time `t` (R154). -/
def State.powerAt (s : State) (b t : Nat) : Nat :=
  let pw := s.get (SCN_PW_PW b)
  match (s.eng b).ramp with
  | none => pw
  | some r => ((r.p0 : Int) + roundDiv (((r.p : Int) - r.p0) * (min r.dur (t - r.tr) : Nat)) r.dur).toNat

/-! ### The exposure instructions -/

/-- MOVE (R141). -/
def execMoveIns (b : Nat) (w : BitVec 64) (s : State) : State :=
  let p := s.ppos b
  match s.target b w p with
  | .badAddr a => s.trap b tcMem (wordOf a)
  | .absent => s.waitPage b
  | .at t =>
    if !t.inRange then s.trap b tcBed
    else
      let l := s.jumpLim b
      let s := s.startSeg b (.jump p.up t.up l) false (toUnits (jumpT l (t.up.sub p.up).len))
      let s := (s.modEng b fun e => { e with ma := none }).setPpos b t
      (s.postInc b w).done b (8 + memCycles w)

/-- MARK (R142, R143). -/
def execMarkIns (b : Nat) (w : BitVec 64) (s : State) : State :=
  let p := s.ppos b
  match s.target b w p with
  | .badAddr a => s.trap b tcMem (wordOf a)
  | .absent => s.waitPage b
  | .at t =>
    if !t.inRange then s.trap b tcBed
    else
      let sp := s.spd b
      let d := t.up.sub p.up
      let s := s.startSeg b (.line p.up d sp) true (markUnits d.len sp)
      let s := s.modEng b fun e =>
        if d.len = 0 then { e with ma := none } else { e with dir := d, ma := some (d, sp * fx) }
      ((s.setPpos b t).postInc b w).done b (6 + memCycles w)

/-- ARC (R144, R145). -/
def execArcIns (b : Nat) (w : BitVec 64) (s : State) : State :=
  let p := s.ppos b
  let theta := sgn 24 (iL w)
  let ga := (s.opA b w).toInt
  let gb := (s.opB b w).toInt
  if theta = 0 then
    ((s.startSeg b .none true 0).modEng b fun e => { e with ma := none }).done b 12
  else if ga = 0 ∧ gb = 0 then s.trap b tcArc
  else
    let c : V3 := ⟨fxOf (p.x + ga), fxOf (p.y + gb), fxOf p.z⟩
    let r : V3 := ⟨fxOf (-ga), fxOf (-gb), 0⟩
    let v := r.turn (cosSin theta 360000)
    let e : V3 := (c.add v).round
    if !e.inRange then s.trap b tcBed
    else
      let sp := s.spd b
      let d := v.tangent theta
      let s := s.startSeg b (.arc c r theta) true (arcUnits r.len theta sp)
      let s := s.modEng b fun e => { e with dir := d, ma := some (d, sp * fx) }
      (s.setPpos b e).done b 12

/-- What the look-ahead of SKY.IN finds (R147): a direction, no legal successor, or a page not present. -/
inductive Ahead where
  | dir (u : V3)
  | bad
  | absent

/-- The look-ahead of SKY.IN at run end `st` (R147), at the word that will run there (R120). -/
def State.ahead (s : State) (b : Nat) (st : V3) : Ahead :=
  match s.wordAt b (s.get (SCN_PC_PC b) + 8) with
  | none => .absent
  | some n =>
    if illegalWord n then .bad
    else if iOp n = 0x02 then
      match s.target b n st with
      | .badAddr _ => .bad
      | .absent => .absent
      | .at t => if t.x = st.x ∧ t.y = st.y then .bad else .dir (t.up.sub st.up)
    else if iOp n = 0x03 then
      let ga := (s.opA b n).toInt
      let gb := (s.opB b n).toInt
      let theta := sgn 24 (iL n)
      if theta = 0 ∨ (ga = 0 ∧ gb = 0) then .bad
      else .dir (V3.tangent ⟨fxOf (-ga), fxOf (-gb), 0⟩ theta)
    else .bad

/-- A skywriting run longer than requested is counted (R150). -/
def State.skyExt (s : State) (b req len : Nat) : State :=
  if req ≠ 0 ∧ req * fx < len then
    ((s.setFlag (SCN_STATUS_SKY_EXT b) true).bumpSat (SCN_SKY_EXT_CNT b)).raise 0x054 b
  else s

/-- SKY.IN (R146 to R148, R150). The run start is rounded to whole micrometres before its check, as a target is (DESIGN CHOICE:
assumption 91). -/
def execSkyInIns (b : Nat) (w : BitVec 64) (s : State) : State :=
  let p := s.ppos b
  let st : V3 := ⟨(s.opA b w).toInt, (s.opB b w).toInt, p.z⟩
  match s.ahead b st with
  | .absent => s.waitPage b
  | .bad => s.trap b tcSky
  | .dir d =>
    let sl := s.skyLim b
    let v := s.spd b * fx
    let dmin := rampD sl v
    let len := max (iL w * fx) dmin
    let rs := st.up.along d (-(len : Int))
    if !rs.round.inRange then s.trap b tcBed
    else
      let jl := s.jumpLim b
      let tau := toUnits (jumpT jl (rs.sub p.up).len + rampT sl v + (len - dmin) * fx / v)
      let s := s.skyExt b (iL w) len
      let s := s.startSeg b (.skyIn p.up rs d ⟨len, sl⟩ v jl) false tau
      ((s.modEng b fun e => { e with ma := none }).setPpos b st).done b 14

/-- SKY.OUT (R146, R149, R150). The end point is rounded as R127 rounds a point, halves towards plus infinity, for PX and PY and for
its check (DESIGN CHOICE: assumption 91). -/
def execSkyOutIns (b : Nat) (w : BitVec 64) (s : State) : State :=
  let p := s.ppos b
  match (s.eng b).ma with
  | none => s.trap b tcSky
  | some (d, v) =>
    let sl := s.skyLim b
    let dmin := rampD sl v
    let len := max (iL w * fx) dmin
    let e := (p.up.along d len).round
    if !e.inRange then s.trap b tcBed
    else
      let s := s.skyExt b (iL w) len
      let s := s.startSeg b (.skyOut p.up d ⟨len, sl⟩ v) false (toUnits ((len - dmin) * fx / v + rampT sl v))
      ((s.modEng b fun e => { e with ma := none }).setPpos b ⟨e.x, e.y, p.z⟩).done b 10

/-- WOB (R151). -/
def execWobIns (b : Nat) (w : BitVec 64) (s : State) : State :=
  let f := iL w
  if 500000 < f then s.trap b tcOperand (BitVec.ofNat 32 f)
  else
    (s.modEng b fun e =>
      { e with wob := if iH w = 0 ∨ f = 0 then none else some { shape := iM w, a := iH w, f := f, tw := e.te } }).done b 4

/-- Set the power and end any ramp (R153). -/
def State.setPw (s : State) (b p : Nat) : State := (s.set (SCN_PW_PW b) p).modEng b fun e => { e with ramp := none }

/-- POWER (R153). -/
def execPowerIns (b : Nat) (w : BitVec 64) (s : State) : State :=
  let v := if iM w = 1 then iL w else (s.opA b w).toNat
  if 65535 < v then s.trap b tcOperand (BitVec.ofNat 32 v) else (s.setPw b v).done b 2

/-- RAMP (R154). -/
def execRampIns (b : Nat) (w : BitVec 64) (s : State) : State :=
  let t := (s.eng b).te
  let p0 := s.powerAt b t
  let s := s.setPw b (iL w)
  (s.when (iH w != 0) fun u => u.modEng b fun e =>
    { e with ramp := some { p0 := p0, p := iL w, tr := t, dur := iH w * 65536 } }).done b 4

/-- SPEED (R155). -/
def execSpeedIns (b : Nat) (w : BitVec 64) (s : State) : State :=
  let v := if iM w = 1 then iL w else (s.opA b w).toNat
  if v = 0 ∨ 16777215 < v then s.trap b tcOperand (BitVec.ofNat 32 v) else (s.set (SCN_SP_SP b) v).done b 2

/-- DWELL (R156). A DWELL of length 0 is a point-producing instruction for R149, as a MOVE of length 0 is: SKY.OUT may not follow it
(DEDUCED: assumption 79). -/
def execDwellIns (b : Nat) (w : BitVec 64) (s : State) : State :=
  let s := s.startSeg b (.hold (s.ppos b) (s.eng b).dir) (iM w == 1) (iL w * 65536)
  (s.modEng b fun e => { e with ma := none }).done b 4

/-! ### Points -/

/-- The wobble offset at path time `t` for a direction of travel (R152), in fixed point. -/
def Wob.offset (wb : Wob) (t : Nat) (dir : V3) : V3 :=
  let u := dir.unitXY
  let a : Int := fxOf wb.a
  let turn : Int := wb.f * ((t : Int) - wb.tw)
  let (c, s) := cosSin turn ptSec
  let (l, q) : Int × Int := match wb.shape with
    | 0 => (fxMul a c, fxMul a s)
    | 1 => (fxMul (a / 2) (cosSin (2 * turn) ptSec).2, fxMul a s)
    | 2 => (0, fxMul a s)
    | _ => (fxMul a s, 0)
  ⟨fxMul l u.1 - fxMul q u.2, fxMul l u.2 + fxMul q u.1, 0⟩

/-- Cycles of a point of a segment (R140, R194). -/
def Seg.cycles : Seg → Nat
  | .none => 0
  | .hold _ _ => 4
  | .arc _ _ _ => 18
  | _ => 10

/-- Does a segment hold its position? -/
def Seg.held : Seg → Bool
  | .hold _ _ => true
  | _ => false

/-- A computed coordinate of a moving beam: within 1 um of the exact motion (R128; assumption 6). -/
def deviate (n : Nat) (v : Int) : Int := v + (Config.pointDev n).val - 1

/-- The oldest slot that a beam holds and has not passed: the one a gate-high point is attributed to (R230). -/
def Eng.exposing (e : Eng) : Option (Nat × Nat) :=
  (e.held.find? fun h => h.passAt.isNone).map fun h => (h.pool, h.slot)

/-- The engine computes its next point (R125 to R131); `cost` is what it spent, waits included. -/
def State.placePoint (s : State) (b : Nat) (p : V3) (g : Bool) (cost : Nat) : State :=
  let e := s.eng b
  let pw := if g then s.powerAt b (e.k * e.delta) else 0
  let pt : Pt := { x := p.x, y := p.y, z := p.z, pw := pw, g := g, setp := e.pendS, camw := e.pendC, n := e.placed,
                   slot := if g then e.exposing else none, pc := e.segPc }
  let s := s.modEng b fun e =>
    { e with buf := e.buf ++ [pt], last := some p, placed := e.placed + 1, k := e.k + 1, pendS := [], pendC := [],
             used := e.used + cost,
             full := if e.buf.length + 1 = e.ppv then some (e.used + cost) else e.full }
  (((s.add64 (SCN_PT_CNT_LO b) 1).when g fun t => t.add64 (SCN_ON_CNT_LO b) 1).setWait b 0).fillOver b

/-- The engine has computed the next point: it places the point, or waits with it while the buffer is full (R129). -/
def State.pointReady (s : State) (b : Nat) (p : V3) (cost : Nat) : State :=
  let e := s.eng b
  if e.ppv ≤ e.buf.length then (s.modEng b fun e => { e with ready := some p }).setWait b 1
  else (s.placePoint b p e.segG cost).modEng b fun e => { e with ready := none }

/-- POINT_COMPUTE (R125 to R131): the owner of the next point computes it; a full buffer makes the engine wait with the point
ready (R129), and a point out of range traps its owner (R131). -/
def pointCompute (b waited : Nat) (s : State) : State :=
  let e := s.eng b
  if s.running b && !e.stopped && e.owns then
    match e.ready with
    | some p => s.pointReady b p waited
    | none =>
      let t := e.k * e.delta
      let (p, dir) := e.seg.pos (e.te - e.ts) (t - e.ts)
      let wobbled := e.segG && e.wob.isSome
      let p := match e.wob with
        | some wb => if e.segG then p.add (wb.offset t dir) else p
        | none => p
      let q := p.round
      let exact := e.seg.held && !wobbled
      let q := if exact then q else ⟨deviate s.fresh q.x, deviate (s.fresh + 1) q.y, deviate (s.fresh + 2) q.z⟩
      let s := if exact then s else s.nextFresh.nextFresh.nextFresh
      let ramping := match e.ramp with
        | some r => e.segG && decide (t < r.tr + r.dur)
        | none => false
      let cost := waited + e.seg.cycles + (if wobbled then 16 else 0) + (if ramping then 2 else 0)
      if q.inRange then s.pointReady b q cost
      else (s.setPpos b e.prevP).trapAt b tcBed e.segPc 0
  else s

/-! ### Pages and the registers of an engine (R118, R119, R157, R160, R198) -/

/-- Does the instruction at the PC have to wait for a page (R119): its own, that of its target record or its data, or, for SKY.IN,
one that its look-ahead reads? -/
def State.memWaits (s : State) (b : Nat) : Bool :=
  match s.wordAt b (s.get (SCN_PC_PC b)) with
  | none => true
  | some w =>
    if illegalWord w then false
    else match iOp w, iM w with
    | 0x01, _ | 0x02, _ => match s.target b w (s.ppos b) with
      | .absent => true
      | _ => false
    | 0x04, 0 => match s.ahead b ⟨(s.opA b w).toInt, (s.opB b w).toInt, (s.ppos b).z⟩ with
      | .absent => true
      | _ => false
    | 0x30, _ | 0x31, _ =>
      let a := s.ldAddr b w
      decide (0 ≤ a) && decide (a ≤ 0xFFFC) && decide (a % 4 = 0) && !s.present b a.toNat
    | _, _ => false

/-- Present bits are set (R118): an engine that waited for one of those pages executes again from the next cycle on (R119, R160). -/
def State.pages (s : State) (b first count : Nat) : State :=
  let s := s.wr64 (SCN_PAGE_LO b) (s.rd64 (SCN_PAGE_LO b) ||| pageMask first count)
  s.when (s.get (SCN_STATUS_WAIT b) == 3 && !s.memWaits b) fun t => t.setWait b 0

/-- A write of SCNn_PAGE_SET (R118). -/
def wrPageSet (b : Nat) (v : Word) (s : State) : State := s.pages b (fldOf 0 6 v) (orOne (fldOf 8 7 v))

/-- Writes of the registers of engine `b` (R118, R123, R157, R198). -/
def wrScnReg (b r off : Nat) (v : Word) (s : State) : State :=
  if r = 0 then wrScnCtrl b s.waited v s.nextFresh
  else if r = 0x040 then wrPageSet b v s
  else if r = 0x044 then wrPageClr b v s
  else if r = 0x05C then s.maxWrite off v
  else if (0x008 ≤ r ∧ r ≤ 0x034) ∨ (0x100 ≤ r ∧ r ≤ 0x13C) then wrScnState b off v s
  else s.plainWrite off v

end Sys2Proof.Machine
end

