-- ==== Sys2Proof/Machine/Dma.lean ====
section
/-! DEFINITION. The DMA channels and the codecs they feed (R423 to R454, R586): descriptors, chains, bursts, failures and
halts, streams and index records. -/

namespace Sys2Proof.Machine

/-- A channel's record. -/
def State.dma (s : State) (c : Nat) : Dma := recGet s.dmas c

/-- Change a channel's record. -/
def State.modDma (s : State) (c : Nat) (f : Dma → Dma) : State := { s with dmas := recSet s.dmas c (f (s.dma c)) }

/-- A codec's record. -/
def State.codec (s : State) (n : Nat) : Codec := recGet s.codecs n

/-- Change a codec's record. -/
def State.modCodec (s : State) (n : Nat) (f : Codec → Codec) : State := { s with codecs := recSet s.codecs n (f (s.codec n)) }

/-! ### Descriptors (R424 to R426) -/

/-- A field of a descriptor. -/
def dF (d : BitVec 256) (lo w : Nat) : Nat := d.toNat / 2 ^ lo % 2 ^ w
/-- SRC (R424). -/
def dSrc (d : BitVec 256) : Nat := dF d 0 40
/-- SWRAP (R424). -/
def dSwrap (d : BitVec 256) : Nat := dF d 40 5
/-- SSPACE (R424). -/
def dSspace (d : BitVec 256) : Bool := dF d 45 1 == 1
/-- DST (R424). -/
def dDst (d : BitVec 256) : Nat := dF d 64 40
/-- DWRAP (R424). -/
def dDwrap (d : BitVec 256) : Nat := dF d 104 5
/-- DSPACE (R424). -/
def dDspace (d : BitVec 256) : Bool := dF d 109 1 == 1
/-- LINK (R424). -/
def dLink (d : BitVec 256) : Nat := dF d 128 40
/-- CODEC (R424). -/
def dCodec (d : BitVec 256) : Nat := dF d 168 5
/-- POOL (R424). -/
def dPool (d : BitVec 256) : Nat := dF d 174 6
/-- END (R424). -/
def dEnd (d : BitVec 256) : Bool := dF d 180 1 == 1
/-- EVT (R424). -/
def dEvt (d : BitVec 256) : Bool := dF d 181 1 == 1
/-- CLASS (R424). -/
def dClass (d : BitVec 256) : Bool := dF d 182 1 == 1
/-- PAGE (R424). -/
def dPage (d : BitVec 256) : Bool := dF d 183 1 == 1
/-- LOADED (R424). -/
def dLoaded (d : BitVec 256) : Bool := dF d 184 1 == 1
/-- FLUSH (R424). -/
def dFlush (d : BitVec 256) : Bool := dF d 185 1 == 1
/-- EOS (R424). -/
def dEos (d : BitVec 256) : Bool := dF d 186 1 == 1
/-- LEN (R424). -/
def dLen (d : BitVec 256) : Nat := dF d 192 32
/-- OLIM (R424). -/
def dOlim (d : BitVec 256) : Nat := dF d 224 32

/-- The codec a descriptor names, by its index (R424). -/
def dCodecN (d : BitVec 256) : Option Nat := if 16 ≤ dCodec d then some (dCodec d - 16) else none

/-- The address of byte `k` of a side (R436). -/
def ringAddr (a0 w k : Nat) : Nat := if w = 0 then a0 + k else a0 / 2 ^ w * 2 ^ w + (a0 + k) % 2 ^ w

/-- Do `n` bytes of a register-space side stay within a range (R425, R426)? -/
def sideFits (a0 w n lo hi : Nat) : Bool :=
  let (first, count) := if w = 0 then (a0, n) else (a0 / 2 ^ w * 2 ^ w, 2 ^ w)
  count == 0 || (decide (lo ≤ first) && decide (first + count ≤ hi + 1))

/-- Is a ring size allowed (R426)? -/
def wrapBad (w : Nat) (space : Bool) : Bool := w != 0 && (decide (w < 12) || decide ((if space then 16 else 30) < w))

/-- Does a descriptor fail the checks of R426? -/
def descBad (d : BitVec 256) : Bool :=
  let codec := dCodec d != 0
  let comp := decide (0x1C ≤ dCodec d)
  dF d 46 18 != 0 || dF d 110 18 != 0 || dF d 173 1 != 0 || dF d 187 5 != 0
    || wrapBad (dSwrap d) (dSspace d) || wrapBad (dDwrap d) (dDspace d)
    || (dSspace d && !sideFits (dSrc d) (dSwrap d) (dLen d) 0x300000 0x5FFFFF)
    || (dDspace d && !sideFits (dDst d) (dDwrap d) (if codec then dOlim d else dLen d) 0x300000 0x4FFFFF)
    || (dDspace d && codec && dDwrap d == 0 && dOlim d == 0)
    || (codec && decide (dCodec d < 16)) || (dOlim d != 0 && !codec)
    || ((dFlush d || dEos d) && !comp)
    || (dPage d && !dDspace d) || (dLoaded d && (dDspace d || dDwrap d != 0))

/-! ### States of a channel (R427, R439) -/

/-- CSTATE codes of R427: IDLE. -/
def csIDLE : Nat := 0
/-- RUNNING (R427). -/
def csRUNNING : Nat := 1
/-- PARKED (R427). -/
def csPARKED : Nat := 2
/-- HALTED (R427). -/
def csHALTED : Nat := 3

/-- CSTATE changes, and the summary registers with it (R427, R453). -/
def State.setCs (s : State) (c v : Nat) : State :=
  let s := s.set (DMA_CH_STATUS_CSTATE c) v
  let s := s.set ⟨DMA_RUNNING, c, 1⟩ (if v = csRUNNING then 1 else 0)
  s.set ⟨DMA_HALTED, c, 1⟩ (if v = csHALTED then 1 else 0)

/-- Bursts in flight over all channels (R434). -/
def State.bursts (s : State) : Nat := (List.range 32).foldl (fun n c => n + (s.dma c).bursts.length) 0

/-- DMA_SLOTS shows the bursts in flight and their peak (R454). -/
def State.dmaSlots (s : State) : State :=
  let n := s.bursts
  (s.set DMA_SLOTS_USED n).set DMA_SLOTS_PEAK (max n (s.get DMA_SLOTS_PEAK))

/-- A halt (R439). -/
def State.dmaHalt (s : State) (c cause : Nat) : State :=
  let s := s.modDma c fun r => { r with fetch := 0, bursts := [], gap := false, failed := none }
  let s := (s.setCs c csHALTED).set (DMA_CH_STATUS_CAUSE c) cause
  ((s.setFlag (DMA_CH_STATUS_HALT c) true).raise 0x182 c).dmaSlots

/-- A failed access (R438): counted, and repeated after the retry gap, or the channel halts with `cause`. `b` is the burst that
failed, none where a fetch or a codec's write did. No burst slot is held meanwhile (R434): the bursts in flight behind it are given
up and read again. -/
def State.dmaFail (s : State) (c cause : Nat) (b : Option Burst) : State :=
  let s := (s.bumpSat (DMA_CH_ERR_CNT c)).raise 0x181 c
  if s.get (DMA_CH_CTRL_RETRY c) + 1 ≤ (s.dma c).fails + 1 then (s.modDma c fun r => { r with fails := 0 }).dmaHalt c cause
  else
    (s.modDma c fun r =>
      { r with fails := r.fails + 1, gap := true, failed := b, bursts := []
               k := match b with
                 | some x => x.k + x.len
                 | none => (r.bursts.head?.map Burst.k).getD r.k }).dmaSlots

/-- A successful access restarts the count of failures (R438). -/
def State.dmaOk (s : State) (c : Nat) : State := s.modDma c fun r => { r with fails := 0 }

/-- The channel fetches the descriptor at CUR: 1 to execute it, 2 to re-read it. -/
def State.dmaFetch (s : State) (c kind : Nat) : State := s.modDma c fun r => { r with fetch := kind, desc := if kind = 1 then none else r.desc }

/-- The channel follows a LINK (R426, R429, R430). -/
def State.dmaFollow (s : State) (c link : Nat) : State :=
  if link % 32 ≠ 0 then s.dmaHalt c 4
  else ((s.wr64 (DMA_CH_CUR_LO c) link).setCs c csRUNNING).dmaFetch c 1

/-! ### Accesses (R425, R436, R437) -/

/-- One byte of the register space's memory windows (R6, R425). -/
def State.winByte (s : State) (a : Nat) : Byte :=
  if a < 0x500000 then memGet s.lmem a else s.traceByte ((a - 0x500000) / 0x10000) (a % 0x10000)

/-- Read `n` bytes of a side from byte `k` on; they never cross a ring boundary (R434). -/
def State.dmaTake (s : State) (d : BitVec 256) (k n : Nat) : State × DStatus × List Byte :=
  let a := ringAddr (dSrc d) (dSwrap d) k
  if dSspace d then (s.tstHit 9 0, .ok, (List.range n).map fun i => s.winByte (a + i))
  else s.unitRead (dClass d) a n

/-- Local memory takes bytes by an access of the fabric (R563, R587); the pages that received one are noted (R431). -/
def State.winPut (s : State) (c a : Nat) (bytes : List Byte) : State :=
  let s := s.accepted a (BitVec.ofNat 32 (leNat (bytes.take 4)))
  let s := { s with lmem := memPut s.lmem a bytes }
  let ps := if bytes.isEmpty then [] else
    (List.range ((a + bytes.length - 1) / 1024 - a / 1024 + 1)).map fun i => a / 1024 + i
  s.modDma c fun r => { r with pages := r.pages ++ ps.filter fun p => !r.pages.contains p }

/-- Write bytes to the destination from output byte `o` on; a ring is followed run by run. -/
def State.dmaPutAt (d : BitVec 256) (c : Nat) : Nat → State → Nat → List Byte → State × DStatus
  | 0, s, _, _ => (s, .ok)
  | fuel + 1, s, o, bytes =>
    if bytes.isEmpty then (s, .ok)
    else
      let a := ringAddr (dDst d) (dDwrap d) o
      let room := if dDwrap d = 0 then bytes.length else 2 ^ dDwrap d - a % 2 ^ dDwrap d
      let piece := bytes.take room
      if dDspace d then State.dmaPutAt d c fuel (s.winPut c a piece) (o + piece.length) (bytes.drop room)
      else
        let (s, st) := s.unitWrite (dClass d) a piece
        let (s, rest) := State.dmaPutAt d c fuel s (o + piece.length) (bytes.drop room)
        (s, if st = .ok then rest else st)

/-- A destination write (R430, R436): where it succeeds, OCNT and DPTR move on. -/
def State.dmaPut (s : State) (c : Nat) (d : BitVec 256) (bytes : List Byte) : State × DStatus :=
  let o := (s.dma c).out
  let (s, st) := State.dmaPutAt d c (bytes.length + 1) s o bytes
  if st = .ok then
    let o := o + bytes.length
    let s := s.modDma c fun r => { r with out := o }
    let s := s.wr (DMA_CH_OCNT c) (BitVec.ofNat 32 o)
    (s.wr64 (DMA_CH_DPTR_LO c) (ringAddr (dDst d) (dDwrap d) o % 2 ^ 40), .ok)
  else (s, st)

/-! ### Codecs (R440) -/

/-- The stream in progress is discarded, and ownership ends (R440). -/
def State.codecDrop (s : State) (n : Nat) : State :=
  let s := { s with codecs := recSet s.codecs n default }
  (s.setFlag (CMP_STATUS_OWNED n) false).set (CMP_STATUS_SSTATE n) 0

/-- Does channel `c` own codec `n`? -/
def State.owns (s : State) (c n : Nat) : Bool := s.flag (CMP_STATUS_OWNED n) && s.get (CMP_STATUS_OWNER n) == c

/-- The codecs that channel `c` owns are reset (R432). -/
def State.dropOwned (s : State) (c : Nat) : State := forN 16 (fun n t => t.when (t.owns c n) fun u => u.codecDrop n) s

/-- Does the codec's owner run? -/
def State.ownerRuns (s : State) (n : Nat) : Bool :=
  s.flag (CMP_STATUS_OWNED n) && s.get (DMA_CH_STATUS_CSTATE (s.get (CMP_STATUS_OWNER n))) == csRUNNING

/-- A refused codec write (R440). -/
def State.codecRefuse (s : State) (n : Nat) : State := (s.setFlag (CMP_STATUS_CFG_REFUSED n) true).raise 0x189 n

/-- EN of a codec is cleared (R440): the stream in progress is discarded, and a channel in the middle of a descriptor that names the
codec halts with CODEC (DEDUCED: assumption 57). -/
def State.codecOff (n : Nat) (s : State) : State :=
  let c := s.get (CMP_STATUS_OWNER n)
  let hit := s.ownerRuns n && (s.dma c).desc.any fun d => dCodecN d == some n
  ((s.codecDrop n).set (CMP_STATUS_STATE n) stOFF).when hit fun t => t.dmaHalt c 6

/-- A write of CMP_n_CTRL (R440, R454): MAXW stores the nearer bound, and keeps its value while the owner runs. -/
def wrCmpCtrl (n : Nat) (v : Word) (s : State) : State :=
  let old := s.get (CMP_CTRL_MAXW n)
  let new := clampN 9 14 (fldOf 8 4 v)
  let hold := s.ownerRuns n
  let s := s.wrEnable (CMP_CTRL n) v (CMP_CTRL_EN n) (CMP_STATUS_STATE n)
    (fun t => t.set (CMP_STATUS_STATE n) stREADY)
    (State.codecOff n)
  let s := s.set (CMP_CTRL_MAXW n) (if hold then old else new)
  s.when (hold && new != old) fun t => t.codecRefuse n

/-- A write of 1 to CMP_n_CMD.RESET (R440). -/
def codecResetCmd (n : Nat) (s : State) : State := if s.ownerRuns n then s.codecRefuse n else s.codecDrop n

/-- CODEC_REVOKED (R586): the owner has been HALTED for 10 ms. -/
def codecRevoked (n : Nat) (s : State) : State :=
  if s.flag (CMP_STATUS_OWNED n) && s.get (DMA_CH_STATUS_CSTATE (s.get (CMP_STATUS_OWNER n))) == csHALTED then
    (s.codecDrop n).raise 0x18A n
  else s

/-- SSTATE and the running registers follow the codec's record (R453, R454). -/
def State.codecShow (s : State) (n : Nat) : State :=
  let r := s.codec n
  let s := s.set (CMP_STATUS_SSTATE n) (if r.stream then 1 else 0)
  let s := s.when r.stream fun t => t.wr (CMP_SEQ n) (BitVec.ofNat 32 (r.seq + 2 ^ 32 - 1))
  s.wr (CMP_SCRC n) (if r.stream || r.fin then ~~~r.scrc else 0)

/-- A stream error (R449). -/
def State.streamErr (s : State) (n c e : Nat) : State :=
  let s := (s.set (CMP_STATUS_SSTATE n) 2).set (CMP_STATUS_SERR n) e
  let s := ((s.setFlag (CMP_STATUS_ERR n) true).bumpSat (CMP_ERR_CNT n)).raise 0x188 n
  s.dmaHalt c 7

/-- Index records are written under class K (R451). -/
def State.idxDrain (s : State) (n c : Nat) : State :=
  match (s.codec n).idxQ with
  | [] => s
  | (a, bytes) :: rest =>
    let (s, st) := s.unitWrite true a bytes
    if st = .ok then (((s.dmaOk c).modCodec n fun r => { r with idxQ := rest })).bumpWrap (CMP_IDX_WR n) else s.dmaFail c 3 none

/-- The stream has ended and everything is written: ownership ends (R440), unless input of a further stream waits. -/
def State.codecEnd (s : State) (n : Nat) : State :=
  let r := s.codec n
  if r.fin && r.outq.isEmpty && r.idxQ.isEmpty && r.err == 0 then
    let s := s.modCodec n fun r => { r with fin := false }
    if r.inb.isEmpty && !r.stream then s.setFlag (CMP_STATUS_OWNED n) false else s
  else s

/-- The codec's writer writes its output (R430, R438, R439, R452): at OLIM the channel halts. -/
def State.codecDrain (s : State) (n c : Nat) (d : BitVec 256) : State :=
  let q := (s.codec n).outq
  let lim := if dOlim d = 0 then q.length else dOlim d - (s.dma c).out
  let piece := q.take lim
  let (s, st) := if piece.isEmpty then (s, .ok) else s.dmaPut c d piece
  if st ≠ .ok then s.dmaFail c 3 none
  else
    let s := if piece.isEmpty then s else s.dmaOk c
    let s := s.wr (CMP_OUT_CNT n) (s.rd (CMP_OUT_CNT n) + BitVec.ofNat 32 piece.length)
    let s := s.modCodec n fun r => { r with outq := q.drop lim }
    if lim < q.length then s.dmaHalt c 5
    else
      let e := (s.codec n).err
      if e ≠ 0 then s.streamErr n c e else (s.idxDrain n c).codecEnd n

/-- Is codec `n` one of those that treat every block as a stream of its own (R448)? -/
def cmpIndep (n : Nat) : Bool := n == 10 || n == 11

/-- The encoder takes its input as far as the open block has room (R446, R447); no block starts while the throttle gate is
closed (R553). -/
def State.encode (s : State) (n c : Nat) (d : BitVec 256) : State :=
  let r := s.codec n
  if r.inb.isEmpty || (s.throttled && !r.open_) then s
  else
    let at_ := ringAddr (dDst d) (dDwrap d) ((s.dma c).out + r.outq.length)
    let r := if r.open_ then r else r.begin (n == 15) (s.get (CMP_CTRL_MAXW n)) at_
    let m := 65536 - r.olen
    let r := { (r.inb.take m).foldl Codec.encByte { r with inb := [] } with inb := r.inb.drop m }
    (s.modCodec n fun _ => r).codecShow n

/-! ### Commands of a channel (R423, R429, R432, R433) -/

/-- The abort (R432). -/
def State.dmaAbort (s : State) (c : Nat) : State :=
  let r := s.dma c
  let s := match r.desc with
    | some d => (r.bursts.filter Burst.wr).foldl (fun (t : State) (b : Burst) => (t.dmaPut c d b.data).1) s
    | none => s
  let s := { s with dmas := recSet s.dmas c default }
  let s := (s.dropOwned c).setFlag (DMA_CH_STATUS_DOOR_PEND c) false
  (s.setCs c csIDLE).dmaSlots

/-- A write of DMA_CHn_CTRL (R423). -/
def wrDmaCtrl (c : Nat) (v : Word) (s : State) : State :=
  s.wrEnable (DMA_CH_CTRL c) v (DMA_CH_CTRL_EN c) (DMA_CH_STATUS_STATE c)
    (fun t => (t.set (DMA_CH_STATUS_STATE c) stREADY).set (DMA_CH_STATUS_CAUSE c) 0)
    (fun t => (t.dmaAbort c).set (DMA_CH_STATUS_STATE c) stOFF)

/-- A ring (R429). -/
def doorbell (c : Nat) (s : State) : State :=
  if s.isReady (DMA_CH_STATUS_STATE c) then
    let cs := s.get (DMA_CH_STATUS_CSTATE c)
    if cs = csIDLE then
      ((s.wr64 (DMA_CH_CUR_LO c) (s.rd64 (DMA_CH_HEAD_LO c) % 2 ^ 40)).setCs c csRUNNING).dmaFetch c 1
    else if cs = csRUNNING then s.setFlag (DMA_CH_STATUS_DOOR_PEND c) true
    else if cs = csPARKED then (if (s.dma c).fetch = 0 then s.dmaFetch c 2 else s)
    else s
  else s

/-- A write of DMA_CHn_HEAD_LO or HEAD_HI (R433, R453). -/
def wrDmaHead (c off : Nat) (v : Word) (s : State) : State :=
  if s.get (DMA_CH_STATUS_CSTATE c) = csIDLE then
    s.plainWrite off (if off = DMA_CH_HEAD_LO c then v &&& 0xFFFFFFE0 else v)
  else (s.setFlag (DMA_CH_STATUS_CFG_REFUSED c) true).raise 0x183 c

/-! ### Fetches (R426, R428 to R430, R440) -/

/-- A fetched descriptor is checked and started (R426, R440). -/
def State.dmaStart (s : State) (c : Nat) (d : BitVec 256) : State :=
  let s := s.modDma c fun r =>
    { r with fetch := 0, desc := some d, k := 0, bursts := [], out := 0, pages := [], ended := false }
  let s := (s.wr (DMA_CH_REMAIN c) (BitVec.ofNat 32 (dLen d))).wr (DMA_CH_OCNT c) 0
  let s := s.wr64 (DMA_CH_DPTR_LO c) (dDst d)
  if descBad d then s.dmaHalt c 4
  else match dCodecN d with
    | none => s
    | some n =>
      if s.isReady (CMP_STATUS_STATE n) && (!s.flag (CMP_STATUS_OWNED n) || s.owns c n) then
        (s.setFlag (CMP_STATUS_OWNED n) true).set (CMP_STATUS_OWNER n) c
      else s.dmaHalt c 6

/-- DESC_FETCH_DONE (R426, R428, R429, R438). -/
def descFetchDone (c : Nat) (s : State) : State :=
  let kind := (s.dma c).fetch
  if kind ≠ 0 ∧ !(s.dma c).gap then
    let a := s.rd64 (DMA_CH_CUR_LO c)
    let (s, st, bytes) := s.unitRead true a 32
    if st ≠ .ok then s.dmaFail c 1 none
    else
      let s := s.dmaOk c
      let d : BitVec 256 := BitVec.ofNat 256 (leNat bytes)
      if kind = 1 then s.dmaStart c d
      else
        let s := s.modDma c fun r => { r with fetch := 0 }
        if dEnd d then s.setCs c csPARKED else s.dmaFollow c (dLink d)
  else s

/-! ### Bursts (R434, R435, R438) -/

/-- The next burst's length (R434). -/
def State.burstLen (s : State) (c : Nat) (d : BitVec 256) : Nat :=
  let k := (s.dma c).k
  min (64 - ringAddr (dSrc d) (dSwrap d) k % 64) (dLen d - k)

/-- Has a channel a burst ready? A burst for a codec needs room in its input buffer (R434). -/
def State.burstReady (s : State) (c : Nat) : Bool :=
  let r := s.dma c
  match r.desc with
  | none => false
  | some d =>
    let n := s.burstLen c d
    s.isReady (DMA_CH_STATUS_STATE c) && s.get (DMA_CH_STATUS_CSTATE c) == csRUNNING && !r.gap && r.fetch == 0
      && decide (r.k < dLen d) && decide (r.bursts.length < 8)
      && (match dCodecN d with
          | none => true
          | some m => decide ((s.codec m).inb.length + (r.bursts.foldl (fun t b => t + b.len) 0) + n ≤ 1024))

/-- The channel that R435 chooses. -/
def State.burstChoice (s : State) : Option Nat :=
  let ready := (List.range 32).filter s.burstReady
  (List.range 4).findSome? fun p =>
    let mine := ready.filter fun c => s.get (DMA_CH_CTRL_PRI c) == p
    let last := tabGet (fun _ => 31) s.dmaPtr p
    match mine.find? fun c => decide (last < c) with
    | some c => some c
    | none => mine.head?

/-- BURST_ISSUE (R434, R435); no burst starts while the throttle gate is closed (R553). -/
def burstIssue (s : State) : State :=
  if s.bursts < 64 ∧ !s.throttled then
    match s.burstChoice with
    | none => s
    | some c =>
      match (s.dma c).desc with
      | none => s
      | some d =>
        let n := s.burstLen c d
        let s := s.tstHit 2 c
        let s := match dCodecN d with
          | some m => s.tstHit 3 m
          | none => s
        let s := s.modDma c fun r =>
          { r with k := r.k + n, bursts := r.bursts ++ [{ k := r.k, len := n, data := [], wr := false }] }
        let p := s.get (DMA_CH_CTRL_PRI c)
        { s with dmaPtr := tabSet (fun _ => 31) s.dmaPtr p c }.dmaSlots
  else s

/-- A burst's bytes have been read: they go to the codec, or are written (R430, R434). -/
def State.burstRead (s : State) (c : Nat) (d : BitVec 256) (b : Burst) (rest : List Burst) (bytes : List Byte) : State :=
  let s := (s.dmaOk c).wr (DMA_CH_REMAIN c) (s.rd (DMA_CH_REMAIN c) - BitVec.ofNat 32 b.len)
  match dCodecN d with
  | none => s.modDma c fun r => { r with bursts := { b with data := bytes, wr := true } :: rest }
  | some n =>
    if s.isReady (CMP_STATUS_STATE n) && (!s.flag (CMP_STATUS_OWNED n) || s.owns c n) then
      let s := (s.setFlag (CMP_STATUS_OWNED n) true).set (CMP_STATUS_OWNER n) c
      let s := (s.modDma c fun r => { r with bursts := rest }).dmaSlots
      let s := s.wr (CMP_IN_CNT n) (s.rd (CMP_IN_CNT n) + BitVec.ofNat 32 b.len)
      let s := s.modCodec n fun r => { r with inb := r.inb ++ bytes }
      if n < 12 then s else (s.encode n c d).codecDrain n c d
    else s.dmaHalt c 6

/-- BURST_COMPLETE (R438): the oldest burst's read, or its write, completes. -/
def burstComplete (c : Nat) (s : State) : State :=
  let r := s.dma c
  match r.desc, r.bursts with
  | some d, b :: rest =>
    if b.wr then
      let (s, st) := s.dmaPut c d b.data
      if st ≠ .ok then s.dmaFail c 3 (some b)
      else ((s.dmaOk c).modDma c fun r => { r with bursts := rest }).dmaSlots
    else
      let (s, st, bytes) := s.dmaTake d b.k b.len
      if st ≠ .ok then s.dmaFail c 2 (some b) else s.burstRead c d b rest bytes
  | _, _ => s

/-- ACCESS_RETRY (R438): after the retry gap the failed access is repeated; a burst needs a slot. -/
def accessRetry (c : Nat) (s : State) : State :=
  let r := s.dma c
  if r.gap then
    match r.failed with
    | none => s.modDma c fun x => { x with gap := false }
    | some b =>
      if s.bursts < 64 then (s.modDma c fun x => { x with gap := false, failed := none, bursts := [b] }).dmaSlots else s
  else s

/-! ### Streams (R445, R447, R451) -/

/-- The descriptor that feeds codec `n`, and its channel, where the codec may work now. -/
def State.feeder (s : State) (n : Nat) : Option (Nat × BitVec 256) :=
  let c := s.get (CMP_STATUS_OWNER n)
  let r := s.dma c
  match r.desc with
  | some d =>
    if s.ownerRuns n && dCodecN d == some n && !r.gap && r.fetch == 0 then some (c, d) else none
  | none => none

/-- DECOMPRESS_BLOCK (R445, R448, R449): the decoder works through its input, at most to the end of one block, and its writer
writes. -/
def decompressBlock (n : Nat) (s : State) : State :=
  match s.feeder n with
  | none => s
  | some (c, d) =>
    if 12 ≤ n then s
    else if !(s.codec n).outq.isEmpty then s.codecDrain n c d
    else
      let fed := !(s.codec n).inb.isEmpty
      let (r, rest) := { s.codec n with inb := [] }.decRun (cmpIndep n) (s.codec n).inb
      let s := (s.modCodec n fun _ => { r with inb := rest }).codecShow n
      let s := s.when (fed && !r.open_ && r.part.isEmpty && r.err == 0) fun t => t.bumpWrap (CMP_BLK_CNT n)
      s.codecDrain n c d

/-- Has the channel read every source byte, and handed it on? -/
def State.allRead (s : State) (c : Nat) (d : BitVec 256) : Bool :=
  let r := s.dma c
  r.k == dLen d && r.bursts.isEmpty && !r.gap && r.fetch == 0

/-- The index record of a block of C3 (R451). -/
def State.idxRecord (s : State) (n : Nat) (r : Codec) : Nat × List Byte :=
  let j := s.rdN (CMP_IDX_WR n) + (s.codec n).idxQ.length
  let a := s.rd64 (CMP_IDX_BASE_LO n) % 2 ^ 40 + j % 2 ^ s.get (CMP_IDX_CFG_S n) * 16
  (a, leBytes 16 (r.hdrAt + (r.seq + 2 ^ 32 - 1) % 2 ^ 32 * 2 ^ 64 + r.blen * 2 ^ 96))

/-- COMPRESS_BLOCK_END (R447, R448, R451): a full block that input follows, or the end of a descriptor with FLUSH or EOS. -/
def compressBlockEnd (n : Nat) (s : State) : State :=
  match s.feeder n with
  | none => s
  | some (c, d) =>
    if n < 12 then s
    else if !(s.codec n).outq.isEmpty || !(s.codec n).idxQ.isEmpty then s.codecDrain n c d
    else
      let s := if (s.codec n).open_ then s else s.encode n c d
      let r := s.codec n
      let full := r.open_ && r.olen == 65536 && !r.inb.isEmpty
      let last := s.allRead c d && r.inb.isEmpty && (dFlush d || dEos d) && !(s.dma c).ended && (r.open_ || !s.throttled)
      if full || last then
        let at_ := ringAddr (dDst d) (dDwrap d) (s.dma c).out
        let r := if r.open_ then r else r.begin (n == 15) (s.get (CMP_CTRL_MAXW n)) at_
        let r := r.finish (last && (dEos d || n == 15))
        let r := if n = 15 then { r with idxQ := [s.idxRecord n r] } else r
        let s := (s.modCodec n fun _ => r).bumpWrap (CMP_BLK_CNT n)
        let s := (s.codecShow n).modDma c fun x => { x with ended := x.ended || last }
        let s := if full then s.encode n c d else s
        s.codecDrain n c d
      else s

/-! ### Completion (R430, R431, R450) -/

/-- Has a codec nothing left to do for the descriptor? -/
def State.codecDone (s : State) (c : Nat) (d : BitVec 256) : Bool :=
  match dCodecN d with
  | none => true
  | some n =>
    let r := s.codec n
    r.inb.isEmpty && r.outq.isEmpty && r.idxQ.isEmpty && (!(dFlush d || dEos d) || (s.dma c).ended)

/-- Does a decompressor's descriptor end inside a block that it may not end in (R450)? -/
def State.blockOpen (s : State) (d : BitVec 256) : Bool :=
  match dCodecN d with
  | some n => decide (n < 12) && (dPage d || dLoaded d) && ((s.codec n).open_ || !(s.codec n).part.isEmpty)
  | none => false

/-- The PAGE action (R431, R118). -/
def State.pageAction (s : State) (c : Nat) : State :=
  (s.dma c).pages.foldl (fun t p => wrPageSet ((p - 0xC00) / 64) (BitVec.ofNat 32 (p % 64 + 0x100)) t) s

/-- The LOADED action (R431, R225). -/
def State.loadedAction (s : State) (c : Nat) (d : BitVec 256) : State :=
  let p := dPool d
  let a := dDst d + (s.dma c).out
  let base := s.rd64 (ARB_POOL_BASE_LO p) % 2 ^ 40
  if base ≤ a then wrPoolLoaded p (BitVec.ofNat 32 (min 8191 ((a - base) / 32))) s else s

/-- DESC_COMPLETE (R430). -/
def descComplete (c : Nat) (s : State) : State :=
  match (s.dma c).desc with
  | none => s
  | some d =>
    if s.get (DMA_CH_STATUS_CSTATE c) == csRUNNING && s.allRead c d && s.codecDone c d then
      if s.blockOpen d then s.dmaHalt c 4
      else
        let s := s.when (dPage d) fun t => t.pageAction c
        let s := s.when (dLoaded d) fun t => t.loadedAction c d
        let s := s.when (dEvt d) fun t => t.raise 0x180 c
        let s := s.bumpWrap (DMA_CH_DONE_CNT c)
        let s := s.modDma c fun r => { r with desc := none }
        if !dEnd d then s.dmaFollow c (dLink d)
        else if s.flag (DMA_CH_STATUS_DOOR_PEND c) then
          ((s.setFlag (DMA_CH_STATUS_DOOR_PEND c) false).setCs c csPARKED).dmaFetch c 2
        else s.setCs c csPARKED
    else s

/-! ### Register writes -/

/-- A write of DMA_CHn_CMD (R432). -/
def wrDmaCmd (c : Nat) (v : Word) (s : State) : State := if bitOf v.toNat 0 then s.dmaAbort c else s

/-- A write of DMA_CHn_DOOR (R429). -/
def wrDmaDoor (c : Nat) (v : Word) (s : State) : State := if bitOf v.toNat 0 then doorbell c s else s

/-- A write of CMP_n_CMD (R440). -/
def wrCmpCmd (n : Nat) (v : Word) (s : State) : State := if bitOf v.toNat 0 then codecResetCmd n s else s

/-- Writes of the DMA registers. -/
def wrDmaReg (off : Nat) (v : Word) (s : State) : State :=
  if 0x091000 ≤ off ∧ off < 0x091800 then
    let c := (off - 0x091000) / 0x40
    match off % 0x40 with
    | 0x00 => wrDmaCtrl c v s
    | 0x08 | 0x0C => wrDmaHead c off v s
    | 0x10 => wrDmaDoor c v s
    | 0x14 => wrDmaCmd c v s
    | _ => s.plainWrite off v
  else s.plainWrite off v

/-- Writes of the CMP registers (R453, R454): only C3 has index registers. -/
def wrCmpReg (off : Nat) (v : Word) (s : State) : State :=
  let n := (off - 0x0A0000) / 0x100
  match off % 0x100 with
  | 0x00 => wrCmpCtrl n v s
  | 0x20 => wrCmpCmd n v s
  | 0x40 => if n = 15 then s.plainWrite off (v &&& 0xFFFFFFF0) else s
  | 0x44 => if n = 15 then s.plainWrite off v else s
  | 0x48 =>
    if n = 15 then
      let s := s.plainWrite off v
      s.set (CMP_IDX_CFG_S n) (clampN 4 16 (s.get (CMP_IDX_CFG_S n)))
    else s
  | _ => s.plainWrite off v

end Sys2Proof.Machine
end

