-- ==== Sys2Proof/Machine/Time.lean ====
section
/-! DEFINITION. The time bases and their servos (R497 to R508): counting, setting, stepping, samples, lock, holdover, captures
and the arithmetic of a TIME exchange. -/

namespace Sys2Proof.Machine

/-- Change a base's record. -/
def State.modTb (s : State) (n : Nat) (f : Tb → Tb) : State := { s with tbs := recSet s.tbs n (f (s.tb n)) }

/-- The value at which a base wraps (R497). -/
def tbWrap : Nat := 2 ^ 48 * 10 ^ 9 * tbUnit

/-- Move a base by a signed number of its units, modulo its range (R497). -/
def State.tbMove (s : State) (n : Nat) (d : Int) : State :=
  s.modTb n fun r => { r with t := (((r.t : Int) + d) % (tbWrap : Int)).toNat }

/-- A base in units of 2^-16 ns (R511). -/
def Tb.units16 (r : Tb) : Int := ((r.t / (tbUnit / 2 ^ 16) : Nat) : Int)

/-! ### Counting (R498, R499) -/

/-- A limit register in units of 2^-12 ppb (R498). -/
def State.tbLim (s : State) (off : Nat) : Int := (((min 500000 (s.rdN off % 2 ^ 20)) * 4096 : Nat) : Int)

/-- F within its limits (R498). -/
def State.tbF (s : State) (n : Nat) : Int :=
  let m := s.tbLim (TIM_TB_FMAX n)
  clampI (-m) m (s.rdI (TIM_TB_FREQ n))

/-- One TIME cycle of a base: 4 ns times 1 + F * 2^-12 * 10^-9 (R498); a base with EN = 0 holds its value (R499). -/
def State.tbTick (n : Nat) (s : State) : State :=
  if s.flag (TIM_TB_CTRL_EN n) then s.tbMove n (4 * (tbUnit : Int) + s.tbF n * 2 ^ 30) else s

/-- One TIME cycle of all bases: what a step does while no command waits (assumption 24). -/
def State.timeCycle (s : State) : State := forN 4 State.tbTick s

/-- A write of TIM_TBn_CTRL (R499): READY in the next TIME cycle, OFF when EN is cleared. -/
def wrTbCtrl (n : Nat) (v : Word) (s : State) : State :=
  s.wrEnable (TIM_TB_CTRL n) v (TIM_TB_CTRL_EN n) (TIM_TB_STATUS_STATE n)
    (fun t => t.set (TIM_TB_STATUS_STATE n) stREADY)
    (fun t => (t.set (TIM_TB_STATUS_STATE n) stOFF).setFlag (TIM_TB_STATUS_VALID n) false)

/-- A refused write (R501, R502). -/
def State.tbRefuse (s : State) (n : Nat) : State := (s.setFlag (TIM_TB_STATUS_CFG_REFUSED n) true).raise 0x205 n

/-- F stays within FMAX (R498). -/
def State.tbClampF (s : State) (n : Nat) : State := s.wr (TIM_TB_FREQ n) (wordOf (s.tbF n))

/-- A write of TIM_TBn_FMAX or IMAX (R498). -/
def wrTbLim (n off : Nat) (v : Word) (s : State) : State :=
  let s := s.wr off (BitVec.ofNat 32 (min 500000 v.toNat))
  if off = TIM_TB_FMAX n then s.tbClampF n else s

/-! ### Reading and capturing (R500) -/

/-- A read of TIM_TBn_NS: the seconds and the fraction of the same TIME cycle are held (R500). -/
def tbNsRead (n : Nat) (s : State) : State :=
  let r := s.tb n
  let s := s.wr64 (TIM_TB_SEC_LO n) r.sec
  (s.wr (TIM_TB_NS n) (BitVec.ofNat 32 r.ns)).wr (TIM_TB_FRAC n) (BitVec.ofNat 32 r.frac)

/-- A write of TIM_CAP (R500). -/
def wrTimCap (v : Word) (s : State) : State :=
  if bitOf v.toNat 0 then
    forN 4 (fun n t =>
      let r := t.tb n
      let t := t.wr64 (TIM_CAP_SEC_LO n) r.sec
      (t.wr (TIM_CAP_NS n) (BitVec.ofNat 32 r.ns)).wr (TIM_CAP_FRAC n) (BitVec.ofNat 32 r.frac)) s
  else s

/-! ### Lock, steps and commands (R501, R505) -/

/-- LOCK clears (R505). -/
def State.tbUnlock (s : State) (n : Nat) : State :=
  let s := s.modTb n fun r => { r with run := 0 }
  s.when (s.flag (TIM_TB_STATUS_LOCK n)) fun t =>
    ((t.setFlag (TIM_TB_STATUS_LOCK n) false).setFlag (TIM_TB_STATUS_UNLOCKED n) true).raise 0x201 n

/-- The accounting of a step (R501, R516). -/
def State.tbStepped (s : State) (n : Nat) : State :=
  (((s.tbUnlock n).bumpSat (TIM_TB_STEP_CNT n)).setFlag (TIM_TB_STATUS_STEPPED n) true).raise 0x202 n

/-- SET (R501). A base in OFF holds its value (R499; DEDUCED: assumption 111). -/
def tbSet (n : Nat) (s : State) : State :=
  let ns := s.rdN (TIM_TB_SET_NS n)
  if 999999999 < ns then s.tbRefuse n
  else if !s.isReady (TIM_TB_STATUS_STATE n) then s
  else
    let sec := s.rdN (TIM_TB_SET_SEC_LO n) + s.rdN (TIM_TB_SET_SEC_HI n) % 2 ^ 16 * 2 ^ 32
    let s := s.modTb n fun r => { r with t := (sec * 10 ^ 9 + ns) * tbUnit }
    (s.setFlag (TIM_TB_STATUS_VALID n) true).tbStepped n

/-- ADJ (R501). -/
def tbAdj (n : Nat) (s : State) : State :=
  if s.isReady (TIM_TB_STATUS_STATE n) then (s.tbMove n (s.rdI (TIM_TB_ADJ n) * (tbUnit : Int))).tbStepped n else s

/-- A write of TIM_TBn_CMD (R501): both bits perform SET alone. -/
def wrTbCmd (n : Nat) (v : Word) (s : State) : State :=
  if bitOf v.toNat 0 then tbSet n s else if bitOf v.toNat 1 then tbAdj n s else s

/-! ### The servo (R503 to R506) -/

/-- Where a base's offsets come from, 0 where no servo runs (R503). -/
def State.tbSrc (s : State) (n : Nat) : Nat :=
  match s.get (TIM_TB_CTRL_SRC n) with
  | 1 => 1
  | 2 => if n = 0 then 2 else 0
  | 3 => if s.get (TIM_TB_CTRL_SRCTB n) = n then 0 else 3
  | _ => 0

/-- A write of TIM_TBn_FREQ (R498, R502): a SRC that acts as NONE is NONE here too (R503). -/
def wrTbFreq (n : Nat) (v : Word) (s : State) : State :=
  if s.tbSrc n = 0 then (s.wr (TIM_TB_FREQ n) v).tbClampF n else s.tbRefuse n

/-- A sample arrives; it replaces one that has not been applied (R504). -/
def State.tbDeliver (s : State) (n : Nat) (th : Int) : State :=
  let s := s.when (s.tb n).meas.isSome fun t => (t.bumpSat (TIM_TB_MEAS_LOST_CNT n)).raise 0x204 n
  s.modTb n fun r => { r with meas := some th }

/-- A write of TIM_TBn_MEAS_HI: both halves make one sample (R503, R504). -/
def measSample (n : Nat) (v : Word) (s : State) : State :=
  if s.tbSrc n = 1 then s.tbDeliver n (sgn 48 ((s.tb n).lo.toNat + v.toNat % 2 ^ 16 * 2 ^ 32)) else s

/-- A write of TIM_TBn_MEAS_LO is held (R504). -/
def wrMeasLo (n : Nat) (v : Word) (s : State) : State := s.modTb n fun r => { r with lo := v }

/-- Gain times offset in units of 2^-12 ppb, truncated towards 0 (R504). -/
def gain (k : Nat) (th : Int) : Int := ((k : Int) * th).tdiv (2 ^ 20)

/-- Lock by a sample that made no step (R505). -/
def State.tbLockBy (s : State) (n : Nat) (th : Int) : State :=
  if th.natAbs ≤ s.get (TIM_TB_LOCK_THR n) * 4096 then
    let run := min 255 ((s.tb n).run + 1)
    let s := s.modTb n fun r => { r with run := run }
    s.when (decide (orOne (s.get (TIM_TB_LOCK_N n)) ≤ run) && !s.flag (TIM_TB_STATUS_LOCK n)) fun t =>
      ((t.setFlag (TIM_TB_STATUS_LOCK n) true).setFlag (TIM_TB_STATUS_VALID n) true).raise 0x200 n
  else s.tbUnlock n

/-- The PI servo (R504). -/
def State.servo (s : State) (n : Nat) (th : Int) : State :=
  let fmax := s.tbLim (TIM_TB_FMAX n)
  let imax := s.tbLim (TIM_TB_IMAX n)
  let i := s.rdI (TIM_TB_INTEG n)
  let kp := gain (s.rdN (TIM_TB_KP n)) th
  let ki := gain (s.rdN (TIM_TB_KI n)) th
  let i1 := clampI (-imax) imax (i + ki)
  let f := -(kp + i1)
  let wound := decide (fmax < f.natAbs) && ((s.rdN (TIM_TB_KI n) : Int) * th).sign == -f.sign
  let i1 := if wound then i else i1
  let f := -(kp + i1)
  (s.wr (TIM_TB_FREQ n) (wordOf (clampI (-fmax) fmax f))).wr (TIM_TB_INTEG n) (wordOf i1)

/-- SERVO_SAMPLE (R504 to R506): the sample that waits is applied, unless the base is OFF (R499). `same` says that this falls in the TIME cycle in which the command
written by the row before acts: a step of the servo is then discarded (R501). -/
def servoSample (n : Nat) (same : Bool) (s : State) : State :=
  match if s.isReady (TIM_TB_STATUS_STATE n) then (s.tb n).meas else none with
  | none => s
  | some th =>
    let s := (s.modTb n fun r => { r with meas := none }).setFlag (TIM_TB_STATUS_HOLDOVER n) false
    let s := (s.wr64 (TIM_TB_LAST_OFS_LO n) (low 48 th)).bumpWrap (TIM_TB_SAMPLE_CNT n)
    let thr := s.rdN (TIM_TB_STEP_THR n)
    if thr ≠ 0 ∧ thr * 65536 < th.natAbs then
      if n = 0 ∧ !s.flag (TIM_TB_CTRL_STEP_RUN n) ∧ s.anyRunning then
        let fmax := s.tbLim (TIM_TB_FMAX n)
        (s.wr (TIM_TB_FREQ n) (wordOf (if th < 0 then fmax else -fmax))).tbLockBy n th
      else if same then s
      else
        let s := s.tbMove n (-th * ((tbUnit / 2 ^ 16 : Nat) : Int))
        (s.tbStepped n).setFlag (TIM_TB_STATUS_VALID n) true
    else (s.servo n th).tbLockBy n th

/-- BASE_OFFSET_CAPTURE (R503): an offset beyond the signed 48-bit range has no stated value (assumption 23). -/
def baseOffsetCapture (n : Nat) (s : State) : State :=
  if s.tbSrc n = 3 ∧ s.isReady (TIM_TB_STATUS_STATE n) then
    let d := (s.tb n).units16 - (s.tb (s.get (TIM_TB_CTRL_SRCTB n))).units16
    if -(2 ^ 47) ≤ d ∧ d < 2 ^ 47 then s.tbDeliver n d
    else (s.nextFresh).tbDeliver n (Config.wideOffset s.fresh).toInt
  else s

/-- TB_HOLDOVER (R506): no sample has come for HOLD_TO. -/
def tbHoldover (n : Nat) (s : State) : State :=
  if s.tbSrc n ≠ 0 ∧ s.isReady (TIM_TB_STATUS_STATE n) ∧ !s.flag (TIM_TB_STATUS_HOLDOVER n) then
    ((s.setFlag (TIM_TB_STATUS_HOLDOVER n) true).raise 0x203 n).tbUnlock n
  else s

/-! ### The TIME exchange (R507, R508) -/

/-- Half of a number of units of 2^-16 ns; how an odd one rounds is left open (assumption 23). -/
def halfOf (up : Bool) (x : Int) : Int := if up then (x + 1) / 2 else x / 2

/-- A discarded exchange (R508). -/
def State.linkTimeBad (s : State) : State := ({ s with exch := none }.bumpSat TIM_LINK_BAD_CNT).raise 0x206 0

/-- The response of an exchange has arrived: t2 and t3 in units of 2^-16 ns (R507, R508). -/
def State.timeResponse (s : State) (t2 t3 : Int) : State :=
  match s.exch with
  | none => s
  | some t1 =>
    let t4 := (s.tb 0).units16
    let up := Config.halfUp s.fresh
    let th := halfOf up ((t4 - t3) - (t2 - t1)) + s.rdI TIM_LINK_ASYM
    let d := halfOf up ((t4 - t3) + (t2 - t1))
    if d < 0 then s.linkTimeBad
    else
      let s := { s.nextFresh with exch := none }.wr TIM_LINK_DELAY (wordOf d)
      if s.tbSrc 0 = 2 then s.tbDeliver 0 (sgn 48 (low 48 th)) else s

/-! ### Register writes -/

/-- Writes of the TIM registers. -/
def wrTimReg (off : Nat) (v : Word) (s : State) : State :=
  if off < 0x070400 then
    let n := (off - 0x070000) / 0x100
    match off % 0x100 with
    | 0x00 => wrTbCtrl n v s
    | 0x24 => wrTbCmd n v s
    | 0x2C => wrTbFreq n v s
    | 0x30 => wrMeasLo n v s
    | 0x34 => measSample n v s
    | 0x40 | 0x44 => wrTbLim n off v s
    | _ => s.plainWrite off v
  else if off = TIM_CAP then wrTimCap v s
  else s.plainWrite off v

end Sys2Proof.Machine
end

