-- ==== Sys2Proof/Machine/Wire.lean ====
section
/-! DEFINITION. What a serial lane carries: the hunt for the block boundary (R460), the pattern test (R464, R465), the blocks of a
Colud Link port (R467) and its packets (R472, R473). -/

namespace Sys2Proof.Machine

/-! ### The block boundary (R460, R461) -/

/-- What a run of sync headers does to a lane: its record, BLOCK, the invalid headers, and how often BLOCK has been cleared. -/
structure HdrRun where
  lane  : Lane
  block : Bool
  bad   : Nat
  lost  : Nat

/-- One sync header, valid or not (R460): a hunting lane moves its boundary at an invalid one. -/
def hdrStep (hunt : Bool) (x : HdrRun) (ok : Bool) : HdrRun :=
  let r := x.lane
  let x := { x with bad := x.bad + if ok then 0 else 1 }
  if x.block then
    let win := ((!ok) :: r.win).take 64
    if 16 ≤ win.count true then { x with lane := { r with run := 0, win := [], num := none }, block := false, lost := x.lost + 1 }
    else { x with lane := { r with win := win } }
  else if !ok then { x with lane := { r with run := 0, bound := if hunt then (r.bound + 1) % 66 else r.bound } }
  else if r.run = 63 then { x with lane := { r with run := 0, win := [] }, block := true }
  else { x with lane := { r with run := r.run + 1 } }

/-! ### The pattern test (R464, R465) -/

/-- The two taps of a pattern (R464). -/
def prbsTaps : Nat → Nat × Nat
  | 0 => (7, 6)
  | 1 => (9, 5)
  | 2 => (15, 14)
  | 3 => (23, 18)
  | _ => (31, 28)

/-- The bit that follows in a pattern. -/
def prbsNext (pat sr : Nat) : Bool := bitOf sr ((prbsTaps pat).1 - 1) != bitOf sr ((prbsTaps pat).2 - 1)

/-- A bit enters a shift register. -/
def prbsPush (sr : Nat) (b : Bool) : Nat := (sr * 2 + if b then 1 else 0) % 2 ^ 31

/-- `n` bits of the generator, with one bit in every 2^rate inverted, and one for each inversion asked for (R465). -/
def genBits (pat rate : Nat) : Nat → PrbsGen → PrbsGen × List Bool
  | 0, g => (g, [])
  | n + 1, g =>
    let b := prbsNext pat g.sr
    let due := rate != 0 && decide (2 ^ rate ≤ g.n + 1)
    let ask := !due && decide (0 < g.inj)
    let (g', bs) := genBits pat rate n
      { sr := prbsPush g.sr b, n := if due || rate == 0 then 0 else g.n + 1, inj := if ask then g.inj - 1 else g.inj }
    (g', (b != (due || ask)) :: bs)

/-- What a run of received bits does to the checker: its record, SYNC, the bits checked and the bits that differ. -/
structure ChkRun where
  chk  : PrbsChk
  sync : Bool
  bits : Nat
  errs : Nat

/-- One received bit (R464, R465). -/
def chkStep (pat : Nat) (x : ChkRun) (b : Bool) : ChkRun :=
  let r := x.chk
  let p := prbsNext pat r.sr
  if x.sync then
    let win := ((p != b) :: r.win).take 64
    let x := { x with bits := x.bits + 1, errs := x.errs + if p != b then 1 else 0 }
    if 32 < win.count true then { x with chk := default, sync := false }
    else { x with chk := { r with sr := prbsPush r.sr p, win := win } }
  else
    let r' := { r with sr := prbsPush r.sr b }
    if r.got < (prbsTaps pat).1 then { x with chk := { r' with got := r.got + 1 } }
    else if p != b then { x with chk := { r' with run := 0 } }
    else if r.run = 63 then { x with chk := { r' with run := 0, win := [] }, sync := true }
    else { x with chk := { r' with run := r.run + 1 } }

/-! ### Blocks (R467) -/

/-- Type bytes of control blocks (R467): IDLE. -/
def btIDLE : Nat := 0x1E
/-- TRAIN (R467). -/
def btTRAIN : Nat := 0x33
/-- CREDIT (R467). -/
def btCREDIT : Nat := 0x4B
/-- ALIGN (R467). -/
def btALIGN : Nat := 0x55
/-- START (R467). -/
def btSTART : Nat := 0x78
/-- TERM_0 (R467); TERM_k lies k above it. -/
def btTERM : Nat := 0x87

/-- The type byte of a control block. -/
def blkTy (b : LnkBlock) : Nat := b.word.toNat % 256

/-- The bytes of a packet after its START block, and whether every block up to its TERM block is of a known type (R467). -/
def wireBytes : List LnkBlock → List Byte × Bool
  | [] => ([], false)
  | b :: rest =>
    let all := leBytes 8 b.word.toNat
    let (more, ok) := wireBytes rest
    if !b.ctl then (all ++ more, ok)
    else if btTERM ≤ blkTy b ∧ blkTy b ≤ btTERM + 7 then ((all.drop 1).take (blkTy b - btTERM), true)
    else (more, ok && [btIDLE, btTRAIN, btCREDIT, btALIGN].contains (blkTy b))

/-- The blocks that carry bytes, up to the TERM block (R467). -/
def dataBlocks : List Byte → List LnkBlock
  | b0 :: b1 :: b2 :: b3 :: b4 :: b5 :: b6 :: b7 :: rest =>
    { ctl := false, word := BitVec.ofNat 64 (leNat [b0, b1, b2, b3, b4, b5, b6, b7]) } :: dataBlocks rest
  | last => [{ ctl := true, word := BitVec.ofNat 64 (btTERM + last.length + leNat last * 256) }]

/-! ### Packets (R472, R473) -/

/-- The header and the payload of a packet (R472). -/
def pktBody (k : LnkPkt) : List Byte :=
  leBytes 16 (k.ty.toNat + (if k.host then 2 ^ 4 else 0) + k.hops.toNat * 2 ^ 8 + k.dest.toNat * 2 ^ 16 + k.src.toNat * 2 ^ 32
    + k.payload.length % 2 ^ 16 * 2 ^ 48 + k.tag.toNat * 2 ^ 64) ++ k.payload

/-- The blocks in which a packet leaves, its CRC-32C at its end (R467, R472). -/
def pktBlocks (k : LnkPkt) : List LnkBlock :=
  { ctl := true, word := BitVec.ofNat 64 btSTART } :: dataBlocks (pktBody k ++ leBytes 4 (crc32c (pktBody k)).toNat)

/-- The packet that bytes spell, if its CRC is right and its header keeps R472 and R473. -/
def pktOf (x : List Byte) : Option LnkPkt :=
  let n := x.length - 20
  let h := leNat (x.take 16)
  let f (lo w : Nat) : Nat := h / 2 ^ lo % 2 ^ w
  if 20 ≤ x.length ∧ leNat (x.drop (16 + n)) = (crc32c (x.take (16 + n))).toNat ∧ 1 ≤ f 0 4 ∧ f 0 4 ≤ 8 ∧ f 5 3 = 0 ∧ f 96 32 = 0
      ∧ f 48 16 = n ∧ n ≤ 1024 ∧ n % 4 = 0 then
    some { ty := BitVec.ofNat 4 (f 0 4), host := f 4 1 == 1, hops := BitVec.ofNat 8 (f 8 8), dest := BitVec.ofNat 16 (f 16 16),
           src := BitVec.ofNat 16 (f 32 16), tag := BitVec.ofNat 32 (f 64 32), payload := (x.drop 16).take n }
  else none

/-- What a receiver makes of blocks: no packet, a packet to be discarded with the bytes it has, or a packet. -/
inductive Heard where
  | nothing
  | bad (bytes : Nat)
  | pkt (k : LnkPkt)
  deriving DecidableEq, Repr

/-- Blocks as they come (R467, R473): what precedes START is no part of a packet, and an unknown type within one counts as a CRC
error. -/
def heard (blocks : List LnkBlock) : Heard :=
  match blocks.dropWhile fun b => !(b.ctl && blkTy b == btSTART) with
  | [] => .nothing
  | _ :: rest =>
    let (x, ok) := wireBytes rest
    match if ok then pktOf x else none with
    | some k => .pkt k
    | none => .bad x.length

/-- 64-byte credits that a packet takes (R476): header, payload and CRC. Kickoff's packets, whose layout the spec leaves open, take
one (PRESUMED: assumption 61). -/
def msgCredits : LnkMsg → Nat
  | .pkt k => (20 + k.payload.length + 63) / 64
  | _ => 1

end Sys2Proof.Machine
end

