-- ==== Sys2Proof/Machine/Lanes.lean ====
section
/-! DEFINITION. The serial lanes (R456 to R466) and the parts of the Colud Link ports and the Ethernet ports that hang on them:
lane and port enables, lock, the fall of a link, and the PRBS checker. -/

namespace Sys2Proof.Machine

/-- A lane's record. -/
def State.lane (s : State) (l : Nat) : Lane := recGet s.lanes l

/-- Change a lane's record. -/
def State.modLane (s : State) (l : Nat) (f : Lane → Lane) : State := { s with lanes := recSet s.lanes l (f (s.lane l)) }

/-- An Ethernet port's record. -/
def State.net (s : State) (e : Nat) : Net := recGet s.nets e

/-- Change an Ethernet port's record. -/
def State.modNet (s : State) (e : Nat) (f : Net → Net) : State := { s with nets := recSet s.nets e (f (s.net e)) }

/-- A link port's record. -/
def State.lnk (s : State) (p : Nat) : Lnk := recGet s.lnks p

/-- Change a link port's record. -/
def State.modLnk (s : State) (p : Nat) (f : Lnk → Lnk) : State := { s with lnks := recSet s.lnks p (f (s.lnk p)) }

/-! ### Ports and their lanes (R456) -/

/-- The lanes of a Colud Link port (R456). -/
def State.lnkLanes (s : State) (p : Nat) : List Nat :=
  match p with
  | 0 => if s.flag (LNK_CTRL_WIDE 0) then [2, 3, 10, 11] else [2, 3]
  | _ => [2 * p + 2, 2 * p + 3]

/-- The Colud Link port that a lane serves (R456). -/
def State.lnkOf (s : State) (l : Nat) : Option Nat := (List.range 4).find? fun p => (s.lnkLanes p).contains l

/-- Is the port of a lane OFF, or has the lane no port (R458)? -/
def State.portOff (s : State) (l : Nat) : Bool :=
  if l < 2 then s.isOff (NET_STATUS_STATE l)
  else match s.lnkOf l with
    | some p => s.isOff (LNK_STATUS_STATE p)
    | none => true

/-- Is a lane enabled, by its own EN or by its port's (R457)? -/
def State.laneOn (s : State) (l : Nat) : Bool :=
  s.flag (LANE_CTRL_EN l) || (if l < 2 then s.flag (NET_CTRL_EN l)
    else match s.lnkOf l with
      | some p => s.flag (LNK_CTRL_EN p)
      | none => false)

/-- A lane follows its enables (R457); in OFF it receives nothing, and BLOCK, where it was set, is cleared (R460). -/
def State.laneUpdate (l : Nat) (s : State) : State :=
  let off := s.isOff (LANE_STATUS_STATE l)
  if off && s.laneOn l then s.set (LANE_STATUS_STATE l) stSTARTING
  else if !off && !s.laneOn l then
    let s := s.when (s.flag (LANE_STATUS_BLOCK l)) fun t => (t.setFlag (LANE_STATUS_BLK_LOSS l) true).raise 0x1C2 l
    let s := (s.set (LANE_STATUS_STATE l) stOFF).setFlag (LANE_STATUS_SIG l) false
    let s := (s.setFlag (LANE_STATUS_CDR l) false).setFlag (LANE_STATUS_BLOCK l) false
    ((s.wr (LANE_EYE l) 0).setFlag (LANE_PRBS_STATUS_SYNC l) false).modLane l fun r =>
      { r with run := 0, win := [], num := none, chk := default }
  else s

/-- All lanes follow their enables. -/
def State.lanesUpdate (s : State) : State := forN 12 State.laneUpdate s

/-- A refused lane write (R458). -/
def State.laneRefuse (s : State) (l : Nat) : State := (s.setFlag (LANE_STATUS_CFG_REFUSED l) true).raise 0x1C4 l

/-! ### Loopback (R464, R466) -/

/-- What a lane's receiver hears (R466): the far end, what the lane itself sends, or nothing that reaches the port. -/
inductive Ear where
  | peer
  | own
  | deaf
  deriving DecidableEq, Repr

/-- What lane `l` hears: a lane that sends the test pattern has no traffic to hear of its own (R464). -/
def State.ear (s : State) (l : Nat) : Ear :=
  match s.get (LANE_CTRL_LOOP l) with
  | 0 => .peer
  | 3 => .deaf
  | _ => if s.flag (LANE_PRBS_CTRL_GEN l) then .deaf else .own

/-- Does the port's traffic leave on the transmit balls of lane `l` (R464, R466)? -/
def State.speaks (s : State) (l : Nat) : Bool := !s.flag (LANE_PRBS_CTRL_GEN l) && decide (s.get (LANE_CTRL_LOOP l) ≤ 1)

/-- Does the port's traffic go out into lane `l` at all, be it back to its own receiver (R464, R466)? -/
def State.carries (s : State) (l : Nat) : Bool := !s.flag (LANE_PRBS_CTRL_GEN l) && s.get (LANE_CTRL_LOOP l) != 3

/-- Does a lane send back what it receives (R466)? -/
def State.far (s : State) (l : Nat) : Bool := s.get (LANE_CTRL_LOOP l) == 3 && !s.isOff (LANE_STATUS_STATE l)

/-- What a Colud Link port receives goes back out, where its lanes are in far-end loopback (R466). -/
def State.lnkFar (s : State) (p : Nat) (o : Out) : State := s.when ((s.lnkLanes p).all s.far) fun t => t.emit o

/-- The same of a frame on an Ethernet port (R466). -/
def State.ethFar (s : State) (e : Nat) (f : List Byte) : State := s.when (s.far e) fun t => t.emit (.farFrame e f)

/-- What a Colud Link port hears: it needs every one of its lanes. -/
def State.lnkEar (s : State) (p : Nat) : Ear :=
  let es := (s.lnkLanes p).map s.ear
  if es.all fun e => e == .peer then .peer else if es.all fun e => e == .own then .own else .deaf

/-- A port's traffic leaves, if its lanes carry it. -/
def State.lnkOut (s : State) (p : Nat) (o : Out) : State := s.when ((s.lnkLanes p).all s.speaks) fun t => t.emit o

/-! ### The fall of a link (R470, R485, R508) -/

/-- Report an attach or a detach (R484, R485): recorded here; elsewhere than on the root an EVENT packet goes up. Its payload is
the address, then the port and a 1 for an attach (PRESUMED: assumption 26). -/
def chainPkt (addr port : Nat) (attach : Bool) : LnkPkt :=
  { ty := 4, host := false, hops := 0, dest := 0, src := BitVec.ofNat 16 addr, tag := 0,
    payload := leBytes 4 addr ++ leBytes 4 (port + if attach then 256 else 0) }

/-- Is a link port ACTIVE (R469)? -/
def State.lnkActive (s : State) (p : Nat) : Bool := s.get (LNK_STATUS_LSTATE p) == 5

/-- A class N packet leaves a receive buffer: its credits go back (R476). -/
def State.lnkFree (s : State) (src : Option Nat) (m : LnkMsg) : State :=
  match src with
  | some p => if s.lnkActive p then s.lnkOut p (.lnkCredit p 0 (msgCredits m)) else s
  | none => s

/-- What leaves for a class N packet. -/
def LnkMsg.out (p : Nat) : LnkMsg → Out
  | .pkt k => .lnkPkt p (pktBlocks k)
  | .kickCount b => .kickCount p b
  | .kickReply n => .kickReply p n
  | .kickAssign a n => .kickAssign p a n

/-- A packet has left a port. -/
def State.lnkSent (s : State) (p : Nat) (o : Out) : State := ((s.lnkOut p o).bumpWrap (LNK_TX_PKT_CNT p)).tstHit 4 p

/-- The class T packets that wait leave while the credits suffice (R476, R507): each takes one (PRESUMED: assumption 61), and its time
of departure is taken as it leaves. -/
def State.timeDrain (p : Nat) : Nat → State → State
  | 0, s => s
  | fuel + 1, s =>
    match (s.lnk p).txt with
    | [] => s
    | m :: rest =>
      if (s.lnk p).crT = 0 then s
      else
        let s := s.modLnk p fun r => { r with txt := rest, crT := r.crT - 1 }
        let now := (s.tb 0).units16
        let s := match m with
          | .req => { s.lnkSent p (.lnkTimeReq p now) with exch := some now }
          | .rsp t2 => s.lnkSent p (.lnkTimeRsp p t2 now)
        State.timeDrain p fuel s

/-- The oldest waiting class N packets leave while the credits suffice (R476). -/
def State.lnkDrain (p : Nat) : Nat → State → State
  | 0, s => s
  | fuel + 1, s =>
    match (s.lnk p).txq with
    | [] => s
    | j :: rest =>
      if msgCredits j.msg ≤ (s.lnk p).crN then
        let s := s.modLnk p fun r => { r with txq := rest, crN := r.crN - msgCredits j.msg }
        State.lnkDrain p fuel ((s.lnkSent p (j.msg.out p)).lnkFree j.src j.msg)
      else s

/-- Does a KICK_ASSIGN of this device still wait for credits? -/
def State.assignWaits (s : State) : Bool :=
  (List.range 4).any fun p => (s.lnk p).txq.any fun j => match j.msg with
    | .kickAssign _ _ => true
    | _ => false

/-- The root has sent its last KICK_ASSIGN (R482). -/
def State.kickFinish (s : State) : State :=
  if s.chainRoot && s.get LNK_KICK_STATUS_KSTATE == 2 && !s.assignWaits then
    let s := (s.set LNK_KICK_STATUS_RESULT 1).set LNK_KICK_STATUS_TOTAL (1 + s.kick.c1 + s.kick.c2 + s.kick.c3)
    (s.raise 0x1D0 0).set LNK_KICK_STATUS_KSTATE 0
  else s

/-- What waits on a port leaves: class T goes before class N (R476). -/
def State.lnkRun (s : State) (p : Nat) : State :=
  let s := State.timeDrain p (s.lnk p).txt.length s
  (State.lnkDrain p (s.lnk p).txq.length s).kickFinish

/-- Packets dropped as UNREACH (R474). -/
def State.unreach (s : State) : State := (s.bumpSat LNK_UNREACH_CNT).raise 0x1CE 0

/-- A class N packet is queued on a port and leaves when the port holds its credits (R476); a port that is not ACTIVE takes
none. -/
def State.lnkSend (s : State) (p : Nat) (m : LnkMsg) (src : Option Nat) : State :=
  if s.lnkActive p then (s.modLnk p fun r => { r with txq := r.txq ++ [{ msg := m, src := src }] }).lnkRun p
  else (s.unreach).lnkFree src m

/-- An attach or detach at port `p` (R484, R485). -/
def State.chainEvent (s : State) (p : Nat) (attach : Bool) : State :=
  let addr := s.get LNK_ADDR_ADDR
  let s := s.raise (if attach then 0x1D2 else 0x1D3) p (BitVec.ofNat 32 addr)
  if s.chainRoot then s else s.lnkSend 0 (.pkt (chainPkt addr p attach)) none

/-- A port leaves ACTIVE (R470, R485, R508): packets of its buffers are discarded and counted. -/
def State.lnkLeave (s : State) (p : Nat) : State :=
  let held := (List.range 4).foldl (fun n q => n + ((s.lnk q).txq.filter fun j => j.src == some p && q != p).length) 0
  let n := (s.lnk p).txq.length + (s.lnk p).txt.length + held
  let s := (s.lnk p).txq.foldl (fun (t : State) j => t.lnkFree (if j.src = some p then none else j.src) j.msg) s
  let s := forN 4 (fun q t => t.modLnk q fun r => { r with txq := r.txq.filter fun j => !(j.src == some p) }) s
  let s := s.modLnk p fun r => { r with txt := [], txq := [], crT := 0, crN := 0 }
  let s := ((s.addSat (LNK_CRED_DROP_CNT p) n).setFlag (LNK_STATUS_DOWN p) true).raise 0x1C9 p
  let s := s.set (LNK_STATUS_WIDTH p) 0
  let s :=
    if p = 0 then
      let s := s.setFlag LNK_ADDR_ORPHAN true
      s.when s.exch.isSome fun t => t.linkTimeBad
    else s.when (s.rdN (LNK_RANGE_SIZE p) != 0) fun t => t.chainEvent p false
  s.kickFinish

/-- In DETECT a port sends TRAIN blocks once its lanes are READY, at the rate of a link (R457, R469). -/
def State.detectTrain (s : State) (p : Nat) : State :=
  s.when (s.get (LNK_STATUS_LSTATE p) == 1 &&
      (s.lnkLanes p).all fun l => s.isReady (LANE_STATUS_STATE l) && s.flag (LANE_CTRL_RATE l)) fun t =>
    t.lnkOut p (.lnkTrain p false)

/-- Training begins again (R469). -/
def State.lnkDetect (s : State) (p : Nat) : State :=
  let s := s.modLnk p fun r => { r with txOk := false, rxOk := false }
  ((s.set (LNK_STATUS_LSTATE p) 1).set (LNK_STATUS_STATE p) stSTARTING).detectTrain p

/-- An ACTIVE port returns to DETECT (R470). -/
def State.lnkFall (s : State) (p : Nat) : State :=
  if s.lnkActive p then
    -- the port no longer sends: leave ACTIVE first, so that nothing is queued on it again
    ((s.set (LNK_STATUS_LSTATE p) 1).lnkLeave p).lnkDetect p
  else s

/-- A fault of a lane makes its ACTIVE link port fall (R470). -/
def State.laneFault (s : State) (l : Nat) : State :=
  match s.lnkOf l with
  | some p => s.lnkFall p
  | none => s

/-! ### Ethernet ports (R486, R487) -/

/-- The PTP function is READY with its port (R515). -/
def State.ptpUpdate (s : State) (e : Nat) : State :=
  s.set (NET_PTP_STATUS_STATE e)
    (if !s.flag (NET_PTP_CTRL_EN e) then stOFF else if s.isReady (NET_STATUS_STATE e) then stREADY else stSTARTING)

/-- LINK falls (R487). -/
def State.ethFall (s : State) (e : Nat) : State :=
  if s.flag (NET_STATUS_LINK e) then
    ((s.setFlag (NET_STATUS_LINK e) false).setFlag (NET_STATUS_LINK_DOWN e) true).raise 0x1D9 e
  else s

/-- The lane of a starting Ethernet port is READY: the port is READY, or in FAULT where the rates differ (R457, R487). -/
def State.ethLane (s : State) (e : Nat) : State :=
  if s.get (NET_STATUS_STATE e) = stSTARTING ∧ s.isReady (LANE_STATUS_STATE e) then
    (s.set (NET_STATUS_STATE e)
      (if s.get (LANE_CTRL_RATE e) = s.get (NET_CTRL_SPEED e) then stREADY else stFAULT)).ptpUpdate e
  else s

/-- Does the configuration of an Ethernet port make its start fail (R486, R487)? -/
def State.ethBad (s : State) (e : Nat) : Bool :=
  let mac := s.rdN (NET_MAC_LO e) + s.rdN (NET_MAC_HI e) % 2 ^ 16 * 2 ^ 32
  mac == 0 || bitOf mac 40 || (s.get (NET_CTRL_FEC e) == 2 && !s.flag (NET_CTRL_SPEED e))

/-- An Ethernet port starts (R487). -/
def State.ethStart (e : Nat) (s : State) : State :=
  (if s.ethBad e then s.set (NET_STATUS_STATE e) stFAULT else (s.set (NET_STATUS_STATE e) stSTARTING).ethLane e).ptpUpdate e

/-- An Ethernet port stops (R622); responses that still wait are dropped with it (DEDUCED: assumption 118). -/
def State.ethStop (e : Nat) (s : State) : State :=
  (((s.set (NET_STATUS_STATE e) stOFF).modNet e fun r => { r with resp := [] }).ethFall e).ptpUpdate e

/-- A refused write of an Ethernet register (R487). -/
def State.ethRefuse (s : State) (e : Nat) : State := (s.setFlag (NET_STATUS_CFG_REFUSED e) true).raise 0x1C4 e

/-- Keep the bits of `m` of `old` where `c` holds; does the write of `v` change one of them? -/
def keepBits (c : Bool) (m : Nat) (old v : Word) : Word × Bool :=
  let mask : Word := BitVec.ofNat 32 m
  if c then ((v &&& ~~~mask) ||| (old &&& mask), (old &&& mask) != (v &&& mask)) else (v, false)

/-- A write of NETn_CTRL (R487): SPEED, FEC and IPV6 are written only while the port is OFF. -/
def wrNetCtrl (e : Nat) (v : Word) (s : State) : State :=
  let (v1, refused) := keepBits (!s.isOff (NET_STATUS_STATE e)) 0x1E (s.rd (NET_CTRL e)) v
  let s := s.when refused fun t => t.ethRefuse e
  let was := s.flag (NET_CTRL_EN e)
  let s := s.wr (NET_CTRL e) v1
  let en := s.flag (NET_CTRL_EN e)
  -- EN follows the lifecycle with the lane (R457, R575)
  let s := (s.setFlag (NET_CTRL_EN e) en).lanesUpdate
  if en == was then s
  else if en then s.lifeOn (NET_STATUS_STATE e) (State.ethStart e)
  else s.lifeOff (NET_STATUS_STATE e) (State.ethStop e) |>.ptpUpdate e

/-- A write of NETn_MAC, IPV4, IPV6 or VLAN (R487). -/
def wrNetAddr (e off : Nat) (v : Word) (s : State) : State :=
  if s.isOff (NET_STATUS_STATE e) then s.plainWrite off v else s.ethRefuse e

/-- The counts of a port's FEC (R486). -/
def State.fecCount (s : State) (e : Nat) (x : Fec) : State :=
  s.when (s.isReady (NET_STATUS_STATE e) && (s.get (NET_CTRL_FEC e) == 1 || s.get (NET_CTRL_FEC e) == 2)) fun t =>
    (t.addSat (NET_FEC_CORR e) x.corr).addSat (NET_FEC_UNCORR e) x.uncorr

/-- ETH_LINK_UP (R486, R487). -/
def ethLinkUp (e : Nat) (x : Fec) (s : State) : State :=
  let s := s.fecCount e x
  if s.isReady (NET_STATUS_STATE e) && !s.flag (NET_STATUS_LINK e) then (s.setFlag (NET_STATUS_LINK e) true).raise 0x1D8 e else s

/-- ETH_LINK_DOWN (R486, R487). -/
def ethLinkDown (e : Nat) (x : Fec) (s : State) : State := (s.fecCount e x).ethFall e

/-! ### Lanes (R457 to R463) -/

/-- A write of LANEn_CTRL (R457, R458, R462): fields that may not change now keep their values. -/
def wrLaneCtrl (l : Nat) (v : Word) (s : State) : State :=
  let (v, r1) := keepBits (!s.isOff (LANE_STATUS_STATE l)) 0x36 (s.rd (LANE_CTRL l)) v
  let (v, r2) := keepBits (!s.portOff l) 0x300 (s.rd (LANE_CTRL l)) v
  let manual := s.get (LANE_CTRL_ADAPT l) == 2
  let frozen := s.get (LANE_CTRL_ADAPT l) == 1
  let live := !manual && !frozen && s.isReady (LANE_STATUS_STATE l)
  let s := s.wr (LANE_CTRL l) v
  let s := s.modLane l fun r => { r with par := if r.par = 0 then 2 ^ 31 - 1 else r.par }
  let a := s.get (LANE_CTRL_ADAPT l)
  let s := s.when (live && a == 1) fun t => (t.wr (LANE_RX_EQ l) (Config.rxTrims t.fresh)).nextFresh
  let s := s.when (!manual && a == 2) fun t => t.wr (LANE_RX_EQ l) ((t.lane l).eq.getD 8)
  let s := s.laneUpdate l
  s.when (r1 || r2) fun t => t.laneRefuse l

/-- A write of LANEn_RX_EQ (R462). -/
def wrRxEq (l : Nat) (v : Word) (s : State) : State :=
  let s := s.modLane l fun r => { r with eq := some v }
  s.when (s.get (LANE_CTRL_ADAPT l) == 2) fun t => t.wr (LANE_RX_EQ l) v

/-- What LANEn_RX_EQ reads: the trims in use (R462; assumption 25). -/
def State.rxEqView (s : State) (l : Nat) : Word :=
  let a := s.get (LANE_CTRL_ADAPT l)
  if s.isReady (LANE_STATUS_STATE l) && a != 1 && a != 2 then Config.rxTrims s.fresh else s.rd (LANE_RX_EQ l)

/-- LANE_READY (R457): a Colud Link lane with RATE = 0 sends its port to FAULT; the last lane of a
port that trains lets it send (R469). A lane that locks has its reference clock (R610). -/
def laneReady (l : Nat) (s : State) : State :=
  let s := { s with laneDark := false }
  if s.get (LANE_STATUS_STATE l) = stSTARTING then
    let s := s.set (LANE_STATUS_STATE l) stREADY
    if l < 2 then s.ethLane l
    else match s.lnkOf l with
      | some p =>
        if s.get (LNK_STATUS_STATE p) = stSTARTING then
          if s.flag (LANE_CTRL_RATE l) then s.detectTrain p else s.set (LNK_STATUS_STATE p) stFAULT
        else s
      | none => s
  else s

/-- LANE_LOS (R459). -/
def laneLos (l : Nat) (s : State) : State :=
  if s.flag (LANE_STATUS_SIG l) then
    let s := (s.setFlag (LANE_STATUS_SIG l) false).setFlag (LANE_STATUS_LOS l) true
    ((s.bumpSat (LANE_LOS_CNT l)).raise 0x1C0 l).laneFault l
  else s

/-- LANE_LOL (R459); the eye reads 0 while CDR = 0 (R463). -/
def laneLol (l : Nat) (s : State) : State :=
  if s.flag (LANE_STATUS_CDR l) then
    let s := ((s.setFlag (LANE_STATUS_CDR l) false).setFlag (LANE_STATUS_LOL l) true).wr (LANE_EYE l) 0
    ((s.bumpSat (LANE_LOL_CNT l)).raise 0x1C1 l).laneFault l
  else s

/-- LANE_SIGNAL_RETURN (R459). -/
def laneSignalReturn (l : Nat) (s : State) : State :=
  if s.isOff (LANE_STATUS_STATE l) then s else s.setFlag (LANE_STATUS_SIG l) true

/-- LANE_CDR_LOCK (R459). -/
def laneCdrLock (l : Nat) (s : State) : State :=
  if s.isOff (LANE_STATUS_STATE l) then s else s.setFlag (LANE_STATUS_CDR l) true

/-- A READY lane receives sync headers (R460, R461): every invalid one is counted, and BLOCK follows. -/
def State.headers (s : State) (l : Nat) (hs : List Bool) : State :=
  if s.isReady (LANE_STATUS_STATE l) then
    let x := hs.foldl (hdrStep (!s.flag (LANE_CTRL_ALIGN l)))
      { lane := s.lane l, block := s.flag (LANE_STATUS_BLOCK l), bad := 0, lost := 0 }
    let s := (s.modLane l fun _ => x.lane).addSat (LANE_HDR_ERR_CNT l) x.bad
    let s := s.setFlag (LANE_STATUS_BLOCK l) x.block
    let s := forN x.lost (fun _ t => (t.setFlag (LANE_STATUS_BLK_LOSS l) true).raise 0x1C2 l) s
    s.when (x.lost != 0) fun t => t.laneFault l
  else s

/-- BLOCK_LOCK (R460): the sync headers received up to now, each valid or not. -/
def blockLock (l : Nat) (hs : List Bool) (s : State) : State := s.headers l hs

/-- LANE_BLOCK_LOSS (R460): the sync headers received up to now, each valid or not. -/
def laneBlockLoss (l : Nat) (hs : List Bool) (s : State) : State := s.headers l hs

/-- A write of LANEn_SLIP (R461). -/
def wrSlip (l : Nat) (v : Word) (s : State) : State :=
  s.when (bitOf v.toNat 0 && s.flag (LANE_CTRL_ALIGN l)) fun t => t.modLane l fun r => { r with bound := (r.bound + 1) % 66 }

/-- EYE_SWEEP (R463). -/
def eyeSweep (l w h : Nat) (s : State) : State :=
  if s.flag (LANE_STATUS_CDR l) then (s.set (LANE_EYE_W l) w).set (LANE_EYE_H l) h else s.wr (LANE_EYE l) 0

/-- The number of a lane within its Colud Link port (R456, R467). -/
def State.laneNum (s : State) (l : Nat) : Option Nat := (s.lnkOf l).bind fun p => (s.lnkLanes p).idxOf? l

/-- ALIGN (R467): the lane number that the received ALIGN blocks carry, and the block at which one comes, counted alike on every lane.
A lane in near-end loopback hears its own, one in far-end loopback sends it back (R466). -/
def alignBlock (l num at_ : Nat) (s : State) : State :=
  let s := s.when (s.far l) fun t => t.emit (.lnkAlign l num)
  let heard := match s.ear l with
    | .peer => true
    | .own => s.laneNum l == some num
    | .deaf => false
  if s.flag (LANE_STATUS_BLOCK l) && heard then s.modLane l fun r => { r with num := some (num, at_) } else s

/-- REFCLK_156_LOSS (R610): every enabled lane returns to STARTING, its ports leave ACTIVE, and the lane registers do not answer. -/
def refclk156Loss (s : State) : State :=
  forN 12 (fun l t => t.when (t.isReady (LANE_STATUS_STATE l)) fun u =>
    (u.set (LANE_STATUS_STATE l) stSTARTING).laneFault l) { s with laneDark := true }

/-! ### PRBS (R464, R465) -/

/-- Is a lane in near-end loopback (R466)? -/
def State.near (s : State) (l : Nat) : Bool := s.get (LANE_CTRL_LOOP l) == 1 || s.get (LANE_CTRL_LOOP l) == 2

/-- A write of LANEn_PRBS_CTRL (R458, R464, R465). The pattern starts with its register full of ones (DESIGN CHOICE: assumption 27). -/
def wrPrbsCtrl (l : Nat) (v : Word) (s : State) : State :=
  let (v1, refused) := keepBits (!s.portOff l) 0x3 (s.rd (LANE_PRBS_CTRL l)) v
  let was := s.flag (LANE_PRBS_CTRL_GEN l)
  let s := s.wr (LANE_PRBS_CTRL l) (v1 &&& 0xFFFFFEFF)
  let s := s.set (LANE_PRBS_CTRL_INJ_RATE l) (min 40 (s.get (LANE_PRBS_CTRL_INJ_RATE l)))
  let gen := s.flag (LANE_PRBS_CTRL_GEN l)
  let s := s.when (gen && !was) fun t => t.modLane l fun r => { r with gen := { sr := 2 ^ 31 - 1, n := 0, inj := 0 } }
  let s := s.when (bitOf v.toNat 8 && gen) fun t => t.modLane l fun r => { r with gen := { r.gen with inj := r.gen.inj + 1 } }
  let s := s.when (!s.flag (LANE_PRBS_CTRL_CHK l)) fun t =>
    (t.setFlag (LANE_PRBS_STATUS_SYNC l) false).modLane l fun r => { r with chk := default }
  s.when refused fun t => t.laneRefuse l

/-- The generator of a lane has sent `own` bits (R464, R465). -/
def State.pattern (s : State) (l own : Nat) : PrbsGen × List Bool :=
  genBits (s.get (LANE_PRBS_CTRL_PAT l)) (s.get (LANE_PRBS_CTRL_INJ_RATE l)) own (s.lane l).gen

/-- What leaves by the transmit balls of a lane while it has taken in `bits` and sent `own` (R464, R466): the test pattern, the
PRBS31 of NEAR_PARALLEL, or what far-end loopback returns. -/
def State.prbsOut (s : State) (l : Nat) (bits : List Bool) (own : Nat) : State :=
  let s := s.when (s.get (LANE_CTRL_LOOP l) == 3 && bits != []) fun t => t.emit (.sentBits l bits)
  let s := s.when (s.get (LANE_CTRL_LOOP l) == 2 && own != 0) fun t =>
    let (g, out) := genBits 4 0 own { sr := (t.lane l).par, n := 0, inj := 0 }
    (t.modLane l fun r => { r with par := g.sr }).emit (.sentBits l out)
  s.when (s.flag (LANE_PRBS_CTRL_GEN l)) fun t =>
    let (g, out) := t.pattern l own
    (t.modLane l fun r => { r with gen := g }).when (decide (t.get (LANE_CTRL_LOOP l) ≤ 1) && own != 0) fun u =>
      u.emit (.sentBits l out)

/-- The checker of a lane takes in bits (R464, R465). -/
def State.prbsCheck (s : State) (l : Nat) (bits : List Bool) : State :=
  if s.flag (LANE_PRBS_CTRL_CHK l) then
    let x := bits.foldl (chkStep (s.get (LANE_PRBS_CTRL_PAT l)))
      { chk := (s.lane l).chk, sync := s.flag (LANE_PRBS_STATUS_SYNC l), bits := 0, errs := 0 }
    let s := (s.modLane l fun r => { r with chk := x.chk }).setFlag (LANE_PRBS_STATUS_SYNC l) x.sync
    (s.add64 (LANE_PRBS_BITS_LO l) x.bits).wr64 (LANE_PRBS_ERR_LO l) (min (2 ^ 64 - 1) (s.rd64 (LANE_PRBS_ERR_LO l) + x.errs))
  else s

/-- A lane receives `bits` and sends `own` (R464 to R466): in near-end loopback its receiver takes the lane's own pattern. -/
def State.prbsIn (s : State) (l : Nat) (bits : List Bool) (own : Nat) : State :=
  if s.isOff (LANE_STATUS_STATE l) then s
  else
    let taken := if s.near l && s.flag (LANE_PRBS_CTRL_GEN l) then (s.pattern l own).2 else bits
    (s.prbsOut l bits own).prbsCheck l taken

/-- PRBS_SYNC (R464, R465): the bits received, and how many were sent, up to now. -/
def prbsSync (l : Nat) (bits : List Bool) (own : Nat) (s : State) : State := s.prbsIn l bits own

/-- PRBS_SYNC_LOSS (R464, R465): the bits received, and how many were sent, up to now. -/
def prbsSyncLoss (l : Nat) (bits : List Bool) (own : Nat) (s : State) : State := s.prbsIn l bits own

/-- Writes of the LANE registers. -/
def wrLaneReg (off : Nat) (v : Word) (s : State) : State :=
  let l := (off - 0x040000) / 0x1000
  match off % 0x1000 with
  | 0x000 => wrLaneCtrl l v s
  | 0x008 => wrSlip l v s
  | 0x010 => wrRxEq l v s
  | 0x020 => wrPrbsCtrl l v s
  | _ => s.plainWrite off v

end Sys2Proof.Machine
end

