-- ==== Sys2Proof/Machine/Link.lean ====
section
/-! DEFINITION. Colud Link (R468 to R485, R507): training, capabilities, routing, credits, the TIME exchange and Kickoff. -/

namespace Sys2Proof.Machine

/-! ### Training (R468, R469) -/

/-- A refused write of a link register (R458, R468). -/
def State.lnkRefuse (s : State) (p : Nat) : State := (s.setFlag (LNK_STATUS_CFG_REFUSED p) true).raise 0x1C4 p

/-- A link port starts: a READY lane with RATE = 0 sends it to FAULT (R457). -/
def State.lnkStart (p : Nat) (s : State) : State :=
  let s := s.lnkDetect p
  s.when ((s.lnkLanes p).any fun l => s.isReady (LANE_STATUS_STATE l) && !s.flag (LANE_CTRL_RATE l)) fun t =>
    t.set (LNK_STATUS_STATE p) stFAULT

/-- A link port stops (R469, R470). -/
def State.lnkStop (p : Nat) (s : State) : State :=
  let was := s.lnkActive p
  let s := s.set (LNK_STATUS_LSTATE p) 0
  (s.when was fun t => t.lnkLeave p).set (LNK_STATUS_STATE p) stOFF

/-- A write of LNKn_CTRL (R468): WIDE is UP's, and is written only while UP is OFF. -/
def wrLnkCtrl (p : Nat) (v : Word) (s : State) : State :=
  let (v1, refused) := keepBits (p == 0 && !s.isOff (LNK_STATUS_STATE 0)) 0x2 (s.rd (LNK_CTRL p)) v
  let s := s.when refused fun t => t.lnkRefuse p
  let was := s.flag (LNK_CTRL_EN p)
  let s := (s.wr (LNK_CTRL p) v1).lanesUpdate
  let en := s.flag (LNK_CTRL_EN p)
  if en == was then s
  else if en then s.lifeOn (LNK_STATUS_STATE p) (State.lnkStart p)
  else (s.lifeOff (LNK_STATUS_STATE p) (State.lnkStop p)).set (LNK_STATUS_LSTATE p) 0

/-- The link ports that are enabled at reset start with the fabric (R468, R582). -/
def State.lnkBoot (s : State) : State := forN 4 (fun p t => t.when (t.flag (LNK_CTRL_EN p)) (State.lnkStart p)) s

/-- Are a port's lanes READY, with signal and clock (R469)? -/
def State.lanesLocked (s : State) (p : Nat) : Bool :=
  (s.lnkLanes p).all fun l => s.isReady (LANE_STATUS_STATE l) && s.flag (LANE_STATUS_SIG l) && s.flag (LANE_STATUS_CDR l)

/-- Is a port in a state of training, in STARTING (R468)? -/
def State.lnkIn (s : State) (p lstate : Nat) : Bool :=
  s.get (LNK_STATUS_LSTATE p) == lstate && s.get (LNK_STATUS_STATE p) == stSTARTING

/-- DETECT_DONE (R469). -/
def detectDone (p : Nat) (s : State) : State :=
  if s.lnkIn p 1 && s.lanesLocked p then (s.set (LNK_STATUS_LSTATE p) 2).lnkOut p (.lnkTrain p false) else s

/-- Both sides are ready (R469): in LOCK the port sends IDLE blocks, and every lane ALIGN blocks with its number (R467). -/
def State.lnkReadyBoth (s : State) (p : Nat) : State :=
  if s.lnkIn p 2 && (s.lnk p).txOk && (s.lnk p).rxOk then
    (s.lnkLanes p).zipIdx.foldl (fun t x => t.lnkOut p (.lnkAlign x.1 x.2)) ((s.set (LNK_STATUS_LSTATE p) 3).lnkOut p (.lnkIdle p))
  else s

/-- TRAIN_ADAPT_DONE (R469): ready is sent if every eye meets EYE_MIN; a port whose lanes carry no traffic sends nothing. -/
def trainAdaptDone (p : Nat) (s : State) : State :=
  let ok := (s.lnkLanes p).all fun l =>
    decide (s.get (LANE_EYE_MIN_W_MIN l) ≤ s.get (LANE_EYE_W l)) && decide (s.get (LANE_EYE_MIN_H_MIN l) ≤ s.get (LANE_EYE_H l))
  if s.lnkIn p 2 && ok && (s.lnkLanes p).all s.carries then ((s.modLnk p fun r => { r with txOk := true }).lnkOut p (.lnkTrain p true)).lnkReadyBoth p else s

/-- TRAIN (R469): a TRAIN block is received; a port in near-end loopback hears those that it sends itself, one in far-end
loopback sends them back (R466). -/
def trainBlock (p : Nat) (ready : Bool) (s : State) : State :=
  let s := s.lnkFar p (.lnkTrain p ready)
  let heard := match s.lnkEar p with
    | .peer => true
    | .own => (s.lnk p).txOk
    | .deaf => false
  if s.lnkIn p 2 && ready && heard then (s.modLnk p fun r => { r with rxOk := true }).lnkReadyBoth p else s

/-- What this device says of itself in CAP (R471, R476). -/
def State.ownCap (s : State) (p : Nat) : CapInfo :=
  { part := BitVec.ofNat 16 (s.get GLB_IDENT_PART), rev := BitVec.ofNat 8 (s.get GLB_IDENT_REV), role := if p = 0 then 0 else 1,
    lanes := (s.lnkLanes p).length, creditT := 64, creditN := 512, addr := BitVec.ofNat 16 (s.get LNK_ADDR_ADDR),
    valid := s.flag LNK_ADDR_VALID }

/-- LOCK_DONE (R467, R469): block lock on every lane, all lane numbers present, and a skew of at most 16 blocks. -/
def lockDone (p : Nat) (s : State) : State :=
  let ls := s.lnkLanes p
  let nums := ls.filterMap fun l => (s.lane l).num
  let all := (List.range ls.length).all fun i => nums.any fun x => x.1 == i
  let near := nums.all fun x => nums.all fun y => decide (x.2 ≤ y.2 + 16)
  if s.lnkIn p 3 && all && near && (ls.all fun l => s.flag (LANE_STATUS_BLOCK l)) then
    (s.set (LNK_STATUS_LSTATE p) 4).lnkSent p (.lnkCap p (s.ownCap p))
  else s

/-- LINK_TRAIN_FAIL (R469): the limit of TRAIN, LOCK or CAPX has expired. -/
def linkTrainFail (p : Nat) (s : State) : State :=
  if s.lnkIn p 2 || s.lnkIn p 3 || s.lnkIn p 4 then
    (((s.bumpWrap (LNK_TRAIN_CNT p)).setFlag (LNK_STATUS_TRAIN_FAIL p) true).raise 0x1CA p).lnkDetect p
  else s

/-! ### Packets (R470 to R474) -/

/-- A discarded packet (R473). -/
def State.crcErr (s : State) (p : Nat) : State := (s.bumpSat (LNK_CRC_ERR_CNT p)).raise 0x1CC p

/-- CAP (R471, R484, R485): the pairing sets width and role, or the port enters FAULT. A port in near-end loopback hears its own
(R466). -/
def capPacket (p : Nat) (crcOk : Bool) (c : CapInfo) (s : State) : State :=
  let s := s.lnkFar p (.lnkCap p c)
  let heard := match s.lnkEar p with
    | .peer => true
    | .own => c == s.ownCap p
    | .deaf => false
  if s.lnkIn p 4 && heard then
    if !crcOk then s.crcErr p
    else
      let s := ((s.bumpWrap (LNK_RX_PKT_CNT p)).set (LNK_PEER_ADDR p) c.addr.toNat).setFlag (LNK_PEER_VALID p) c.valid
      let s := s.set (LNK_PEER_ROLE p) c.role.val
      let fit := if p = 0 then (if s.chainRoot then c.role.val == 2 else c.role.val == 1) else c.role.val == 0
      if fit then
        let wide := c.role.val == 2 && s.flag (LNK_CTRL_WIDE 0) && decide (4 ≤ c.lanes)
        let s := (s.set (LNK_STATUS_WIDTH p) (if wide then 2 else 1)).modLnk p fun r =>
          { r with crT := c.creditT, crN := c.creditN, txt := [], txq := [] }
        let s := ((s.set (LNK_STATUS_LSTATE p) 5).set (LNK_STATUS_STATE p) stREADY).raise 0x1C8 p
        if p = 0 then s.when c.valid fun t => t.setFlag LNK_ADDR_ORPHAN false
        else s.when (s.flag LNK_ADDR_VALID && s.rdN (LNK_RANGE_SIZE p) == 0) fun t => t.chainEvent p true
      else ((s.set (LNK_STATUS_STATE p) stFAULT).setFlag (LNK_STATUS_ROLE_ERR p) true).raise 0x1CB p
  else s

/-- LINK_DOWN (R470): 100 us have passed without a block. -/
def linkDown (p : Nat) (s : State) : State := s.lnkFall p

/-- IDLE (R470): the link is alive; the limit of 100 us stands outside the model (assumption 28). -/
def idleBlock (p : Nat) (s : State) : State := s.lnkFar p (.lnkIdle p)

/-- CREDIT (R476); a port in far-end loopback sends it back and does not see it (R466). -/
def creditBlock (p t n : Nat) (s : State) : State :=
  let s := s.lnkFar p (.lnkCredit p t n)
  if s.lnkActive p && s.lnkEar p != .deaf then (s.modLnk p fun r => { r with crT := r.crT + t, crN := r.crN + n }).lnkRun p else s

/-- CREDIT_DROP (R477): the oldest class N packet that waits for credits is dropped. -/
def creditDrop (p : Nat) (s : State) : State :=
  match (s.lnk p).txq with
  | [] => s
  | j :: rest =>
    let s := s.modLnk p fun r => { r with txq := rest }
    (((s.bumpSat (LNK_CRED_DROP_CNT p)).raise 0x1CD p).lnkFree j.src j.msg).lnkRun p

/-- Does a port receive packets from its peer now (R466, R469)? -/
def State.lnkHears (s : State) (p : Nat) : Bool := s.lnkActive p && s.lnkEar p == .peer

/-- Does an address lie in the range of downstream port `p`? -/
def State.inRange (s : State) (p a : Nat) : Bool :=
  let base := s.rdN (LNK_RANGE_BASE p)
  decide (base ≤ a) && decide (a < base + s.rdN (LNK_RANGE_SIZE p))

/-- Where a packet goes (R474). -/
inductive Route where
  | here
  | port (p : Nat)
  | none
  deriving DecidableEq, Repr

/-- The routing rule (R474, R485); `from_` is the port of arrival, if it came by a link. A packet for the range of a port that is not
ACTIVE goes nowhere. -/
def State.route (s : State) (k : LnkPkt) (from_ : Option Nat) : Route :=
  let down := match from_ with
    | some p => decide (1 ≤ p)
    | none => false
  if k.host && down then .port 0
  else if k.ty = 4 then (if s.chainRoot then .here else .port 0)
  else if s.flag LNK_ADDR_VALID && k.dest.toNat == s.get LNK_ADDR_ADDR then .here
  else match (List.range 3).find? fun i => s.inRange (i + 1) k.dest.toNat with
    | some i => if s.lnkActive (i + 1) then .port (i + 1) else .none
    | none => if s.chainRoot then .none else .port 0

/-- A packet is sent on a port, one link further (R472, R474): above 32 links it is dropped as UNREACH. -/
def State.forward (s : State) (p : Nat) (k : LnkPkt) (from_ : Option Nat) : State :=
  if 32 < k.hops.toNat + 1 then s.unreach.lnkFree from_ (.pkt k)
  else s.lnkSend p (.pkt { k with hops := k.hops + 1 }) from_

/-- Blocks have come by port `p`: a sound packet of type `ty` is handled by `f`, unless it has crossed more than 32 links (R474); an
unsound one is discarded, and its bytes leave the class N buffer (R473, R476). -/
def State.receive (s : State) (p ty : Nat) (blocks : List LnkBlock) (f : LnkPkt → State → State) : State :=
  if !s.lnkHears p then s.lnkFar p (.lnkPkt p blocks)
  else match heard blocks with
    | .nothing => s
    | .bad n => (s.crcErr p).lnkOut p (.lnkCredit p 0 ((n + 63) / 64))
    | .pkt k =>
      if k.ty.toNat = ty then
        let s := s.bumpWrap (LNK_RX_PKT_CNT p)
        if 32 < k.hops.toNat then s.unreach.lnkFree (some p) (.pkt k) else f k s
      else s

/-- EVENT (R474, R484, R485): routed up; the root records what it reports (assumption 26). -/
def eventPacket (p : Nat) (blocks : List LnkBlock) (s : State) : State :=
  s.receive p 4 blocks fun k t =>
    match t.route k (some p) with
    | .port q => t.forward q k (some p)
    | .here =>
      let addr := leNat (k.payload.take 4)
      let w := leNat ((k.payload.drop 4).take 4)
      (t.lnkFree (some p) (.pkt k)).raise (if w / 256 % 2 = 1 then 0x1D2 else 0x1D3) (w % 4) (BitVec.ofNat 32 addr)
    | .none => (t.unreach).lnkFree (some p) (.pkt k)

/-! ### The TIME exchange (R507, R508) -/

/-- A class T packet is queued on a port, and leaves before what waits under class N (R476). -/
def State.timeSend (s : State) (p : Nat) (m : TimeMsg) : State := (s.modLnk p fun r => { r with txt := r.txt ++ [m] }).lnkRun p

/-- TIME_EXCHANGE (R507): an exchange starts once PERIOD Volleys have passed since the last one started. -/
def timeExchange (s : State) : State :=
  if s.lnkActive 0 && s.exch.isNone && !(s.lnk 0).txt.contains .req && decide (orOne (s.rdN TIM_LINK_CFG % 256) ≤ s.linkVols) then
    State.timeSend { s with linkVols := 0 } 0 .req
  else s

/-- TIME (R507, R508): a request is answered, whatever the state of TB0; a response ends the exchange. Its credit returns at once
(R476). `t2` is the time that a request carries. -/
def timePacket (p : Nat) (crcOk response : Bool) (t2 t3 : Int) (s : State) : State :=
  if !s.lnkHears p then s.lnkFar p (if response then .lnkTimeRsp p t2 t3 else .lnkTimeReq p t2)
  else
    let s := s.lnkOut p (.lnkCredit p 1 0)
    if !crcOk then s.crcErr p
    else
      let s := s.bumpWrap (LNK_RX_PKT_CNT p)
      if response then (if p = 0 then s.timeResponse t2 t3 else s) else s.timeSend p (.rsp (s.tb 0).units16)

/-- LINK_TIME_BAD (R508): no response within 10 us. -/
def linkTimeBadEv (s : State) : State := if s.exch.isSome then s.linkTimeBad else s

/-! ### Kickoff (R480 to R484) -/

/-- The count of downstream port 1, 2 or 3. -/
def Kick.count (k : Kick) : Nat → Nat
  | 1 => k.c1
  | 2 => k.c2
  | _ => k.c3

/-- Set the count of a downstream port. -/
def Kick.setCount (k : Kick) (p n : Nat) : Kick :=
  match p with
  | 1 => { k with c1 := n }
  | 2 => { k with c2 := n }
  | _ => { k with c3 := n }

/-- A packet of Kickoff is sent on a port under class N (R473, R476). -/
def State.kickSend (s : State) (p : Nat) (m : LnkMsg) : State := s.when (s.lnkActive p) fun t => t.lnkSend p m none

/-- The assign phase at this device (R482): address and ranges. -/
def State.kickTake (s : State) (a : Nat) : State :=
  let s := ((s.set LNK_ADDR_ADDR a).setFlag LNK_ADDR_VALID true).setFlag LNK_ADDR_ORPHAN false
  ((List.range 3).foldl (fun (acc : State × Nat) i =>
    let (s, next) := acc
    let p := i + 1
    let n := s.kick.count p
    if n = 0 then (s.wr (LNK_RANGE_SIZE p) 0, next)
    else
      let s := (s.wr (LNK_RANGE_BASE p) (BitVec.ofNat 32 next)).wr (LNK_RANGE_SIZE p) (BitVec.ofNat 32 n)
      (s.kickSend p (.kickAssign next n), next + n)) (s, a + 1)).1

/-- Every awaited port has answered or is out of time (R481, R482). -/
def State.kickDone (s : State) : State :=
  if s.kick.run && s.kick.wait == 0 then
    let s := forN 3 (fun i t => t.setFlag (LNK_STATUS_UNASSIGNED (i + 1)) (t.kick.count (i + 1) == 0)) s
    let n := 1 + s.kick.c1 + s.kick.c2 + s.kick.c3
    let s := { s with kick := { s.kick with run := false } }
    if s.chainRoot then
      let base := s.get LNK_KICK_CTRL_BASE
      if 65536 < n ∨ 0xFFFF < base + n - 1 then
        ((s.set LNK_KICK_STATUS_KSTATE 0).set LNK_KICK_STATUS_RESULT 2).raise 0x1D1 0
      else
        ((s.kickTake base).set LNK_KICK_STATUS_KSTATE 2).kickFinish
    else s.kickSend 0 (.kickReply (if 65536 < n then 65537 else n))
  else s

/-- The count phase at this device: the ACTIVE downstream ports are asked, if `ask` (R481). -/
def State.kickBegin (s : State) (ask : Bool) (budget : Nat) : State :=
  let s := { s with kick := { run := true, wait := 0, c1 := 0, c2 := 0, c3 := 0 } }
  let s := forN 3 (fun i t => t.when (ask && t.lnkActive (i + 1)) fun u =>
    { u.kickSend (i + 1) (.kickCount budget) with kick := { u.kick with wait := u.kick.wait + 2 ^ (i + 1) } }) s
  s.kickDone

/-- A write of LNK_KICK_CTRL (R480). -/
def wrKickCtrl (v : Word) (s : State) : State :=
  let s := s.plainWrite LNK_KICK_CTRL v
  if bitOf v.toNat 0 && s.chainRoot && s.get LNK_KICK_STATUS_KSTATE == 0 then
    (s.set LNK_KICK_STATUS_KSTATE 1).kickBegin true (orOne (s.rdN LNK_KICK_TO % 65536))
  else s

/-- A port has a count, or none (R481). -/
def State.kickAnswer (s : State) (p n : Nat) : State :=
  if s.kick.run && bitOf s.kick.wait p then
    ({ s with kick := { (s.kick.setCount p n) with wait := s.kick.wait - 2 ^ p } }).kickDone
  else s

/-- KICK_COUNT (R481): a request with its budget, or a reply with its count. -/
def kickCountPkt (p : Nat) (crcOk reply : Bool) (n : Nat) (s : State) : State :=
  if !s.lnkHears p then s.lnkFar p (if reply then .kickReply p n else .kickCount p n)
  else if !crcOk then (s.crcErr p).lnkFree (some p) (.kickCount 0)
  else
    let s := (s.bumpWrap (LNK_RX_PKT_CNT p)).lnkFree (some p) (.kickCount 0)
    if reply then (if p = 0 then s else s.kickAnswer p n)
    else if p = 0 then s.kickBegin (decide (40 ≤ n)) (n - 20) else s

/-- KICK_BUDGET_EXPIRY (R481). -/
def kickBudgetExpiry (p : Nat) (s : State) : State := s.kickAnswer p 0

/-- KICK_ASSIGN (R482). -/
def kickAssignPkt (p : Nat) (crcOk : Bool) (base size : Nat) (s : State) : State :=
  if !s.lnkHears p then s.lnkFar p (.kickAssign p base size)
  else if !crcOk then (s.crcErr p).lnkFree (some p) (.kickAssign 0 0)
  else
    let s := (s.bumpWrap (LNK_RX_PKT_CNT p)).lnkFree (some p) (.kickAssign 0 0)
    if p = 0 then s.kickTake base else s

/-! ### Register writes -/

/-- What LNK_ADDR reads (R493). -/
def State.lnkAddrView (s : State) : Word := fldIns 18 1 (s.rd LNK_ADDR) (if s.chainRoot then 1 else 0)

/-- Writes of the LNK registers. -/
def wrLnkReg (off : Nat) (v : Word) (s : State) : State :=
  if off = LNK_KICK_CTRL then wrKickCtrl v s
  else if 0x061000 ≤ off ∧ off < 0x061400 ∧ off % 0x100 = 0 then wrLnkCtrl ((off - 0x061000) / 0x100) v s
  else s.plainWrite off v

end Sys2Proof.Machine
end

