-- ==== Sys2Proof/Machine/Net.lean ====
section
/-! DEFINITION. The shape of command frames (R317, R321, R325), Ethernet (R488, R489), PTP frames (R510 to R513) and the forwarding
table (R479). -/

namespace Sys2Proof.Machine

/-! ### Command frames (R317, R321) -/

/-- A field of a frame's header. -/
def frF (f : List Byte) (lo w : Nat) : Nat := leNat (f.take 32) / 2 ^ lo % 2 ^ w
/-- OPCODE (R317). -/
def frOp (f : List Byte) : Nat := frF f 32 16
/-- TARGET (R317). -/
def frTarget (f : List Byte) : Nat := frF f 48 16
/-- SEQ (R317). -/
def frSeq (f : List Byte) : Nat := frF f 64 32
/-- LEN (R317). -/
def frLen (f : List Byte) : Nat := frF f 96 16
/-- AT (R317). -/
def frAt (f : List Byte) : Nat := frF f 128 64
/-- TIMED (R317). -/
def frTimed (f : List Byte) : Bool := frF f 24 1 == 1
/-- BCAST (R317). -/
def frBcast (f : List Byte) : Bool := frF f 25 1 == 1
/-- NO_REPLY (R317). -/
def frNoReply (f : List Byte) : Bool := frF f 26 1 == 1
/-- The arguments. -/
def frArgs (f : List Byte) : List Byte := f.drop 32

/-- The checks of R321 that concern the frame alone. -/
def frameOk (f : List Byte) : Bool :=
  decide (32 ≤ f.length) && frF f 0 16 == 0x574B && frF f 16 8 == 1 && frF f 27 1 == 0 && frF f 28 4 == 0
    && frF f 112 16 == 0 && frF f 192 32 == 0 && (frTimed f || frAt f == 0)
    && decide (frLen f ≤ 992) && frLen f % 4 == 0 && f.length == 32 + frLen f
    && frF f 224 32 == (crc32c (f.take 28 ++ f.drop 32)).toNat

/-- Is a source enabled (R347)? Bit 4 E0 and E1, bit 5 Colud Link, bit 6 REG, bit 7 broadcast. -/
def State.srcOn (s : State) (src : Nat) (bcast : Bool) : Bool :=
  let m := s.get MGT_CMD_CTRL_SRC_EN
  bitOf m (if src < 2 then 0 else if src < 6 then 1 else 2) && (!bcast || bitOf m 3)

/-- The checks of R321. -/
def State.accepts (s : State) (src : Nat) (f : List Byte) : Bool :=
  frameOk f && s.srcOn src (frBcast f) && s.isReady MGT_CMD_STATUS_STATE

/-- A dropped frame (R321). -/
def State.badFrame (s : State) : State := ((s.bumpSat MGT_CMD_BAD_CNT).setFlag MGT_CMD_STATUS_BAD_FRAME true).raise 0x340 0

/-! ### Ethernet frames (R488) -/

/-- The number that big-endian bytes spell. -/
def beNat (l : List Byte) : Nat := l.foldl (fun n b => n * 256 + b.toNat) 0

/-- The `n` big-endian bytes of a number. -/
def beBytes (n v : Nat) : List Byte := (leBytes n v).reverse

/-- Bytes `i` to `i + n - 1`. -/
def sub (f : List Byte) (i n : Nat) : List Byte := (f.drop i).take n

/-- The sum of the 16-bit words of a list, modulo 65,535: ones' complement arithmetic. -/
def onesSum : List Byte → Nat
  | a :: b :: rest => (a.toNat * 256 + b.toNat + onesSum rest) % 65535
  | [a] => a.toNat * 256 % 65535
  | [] => 0

/-- The port's MAC address. -/
def State.mac (s : State) (e : Nat) : Nat := s.rdN (NET_MAC_HI e) % 2 ^ 16 * 2 ^ 32 + s.rdN (NET_MAC_LO e)

/-- The port's IPv6 address. -/
def State.ip6 (s : State) (e : Nat) : Nat :=
  ((s.rdN (NET_IPV6 e 0) * 2 ^ 32 + s.rdN (NET_IPV6 e 1)) * 2 ^ 32 + s.rdN (NET_IPV6 e 2)) * 2 ^ 32 + s.rdN (NET_IPV6 e 3)

/-- The multicast groups of R488. -/
def State.groups (s : State) (e : Nat) : List Nat :=
  [0x011B19000000, 0x0180C200000E, 0x01005E000181, 0x333300000181, 0x33330000006B, 0x3333FF000000 + s.ip6 e % 2 ^ 24]

/-- An accepted Ethernet frame: destination, source, type and payload. -/
structure EthFr where
  dst  : Nat
  src  : Nat
  ty   : Nat
  body : List Byte

/-- A frame from the destination MAC onward, without FCS, if the port accepts it (R488): size, address, VLAN tag. -/
def State.ethAccept (s : State) (e : Nat) (f : List Byte) : Option EthFr :=
  let vlan := s.rdN (NET_VLAN e)
  let tagged := beNat (sub f 12 2) == 0x8100
  let o := if tagged then 4 else 0
  let dst := beNat (sub f 0 6)
  let known := dst == s.mac e || dst == 0xFFFFFFFFFFFF || (s.groups e).contains dst
  if 60 ≤ f.length ∧ f.length ≤ 1518 ∧ known ∧ tagged = bitOf vlan 16 ∧ (!tagged ∨ beNat (sub f 14 2) % 4096 = vlan % 4096) then
    some { dst := dst, src := beNat (sub f 6 6), ty := beNat (sub f (12 + o) 2), body := f.drop (14 + o) }
  else none

/-- An IPv4 packet without options or fragments, with a correct header checksum: protocol, source, destination, payload. -/
def ipv4Of (b : List Byte) : Option (Nat × Nat × Nat × List Byte) :=
  let len := beNat (sub b 2 2)
  if 20 ≤ b.length ∧ beNat (sub b 0 1) = 0x45 ∧ beNat (sub b 6 2) % 2 ^ 14 = 0 ∧ 20 ≤ len ∧ len ≤ b.length
      ∧ onesSum (b.take 20) = 0 then
    some (beNat (sub b 9 1), beNat (sub b 12 4), beNat (sub b 16 4), sub b 20 (len - 20))
  else none

/-- An IPv6 packet: next header, source, destination, payload. -/
def ipv6Of (b : List Byte) : Option (Nat × Nat × Nat × List Byte) :=
  let len := beNat (sub b 4 2)
  if 40 ≤ b.length ∧ beNat (sub b 0 1) / 16 = 6 ∧ 40 + len ≤ b.length then
    some (beNat (sub b 6 1), beNat (sub b 8 16), beNat (sub b 24 16), sub b 40 len)
  else none

/-- The pseudo header of a checksum: addresses of `n` bytes, protocol and length. -/
def pseudo (n a b proto len : Nat) : List Byte := beBytes n a ++ beBytes n b ++ beBytes 4 len ++ beBytes 4 proto

/-- A UDP datagram with a sound checksum (R488): destination port; over IPv4 a checksum of 0 is none. -/
def udpPort (v6 : Bool) (a b : Nat) (u : List Byte) : Option Nat :=
  let ck := beNat (sub u 6 2)
  let sum := onesSum (pseudo (if v6 then 16 else 4) a b 17 u.length ++ u)
  if 8 ≤ u.length ∧ beNat (sub u 4 2) = u.length ∧ (if ck = 0 then !v6 else sum == 0) then some (beNat (sub u 2 2)) else none

/-- The command frame that an Ethernet frame carries, and who sent it (R318, R488): by UDP to the command port, addressed to
NETn_IPV4, to 255.255.255.255 or to NETn_IPV6. CTRL.IPV6 concerns echo and neighbour requests only (DEDUCED: assumption 100). -/
def State.cmdFrame (s : State) (e : Nat) (f : List Byte) : Option (EthPeer × List Byte) :=
  (s.ethAccept e f).bind fun fr =>
    let got (v6 : Bool) (dsts : List Nat) (p : Nat × Nat × Nat × List Byte) : Option (EthPeer × List Byte) :=
      let (proto, a, b, u) := p
      if proto = 17 ∧ dsts.contains b ∧ udpPort v6 a b u = some (s.get MGT_CMD_CTRL_PORT) then
        some ({ v6 := v6, mac := BitVec.ofNat 48 fr.src, ip := BitVec.ofNat 128 a, port := BitVec.ofNat 16 (beNat (sub u 0 2)) },
              u.drop 8)
      else none
    if fr.ty = 0x0800 then (ipv4Of fr.body).bind (got false [s.rdN (NET_IPV4 e), 0xFFFFFFFF])
    else if fr.ty = 0x86DD then (ipv6Of fr.body).bind (got true [s.ip6 e])
    else none

/-- Carry out what a good frame of the far end asks for, or drop it (R466, R488, R489). -/
def State.ethTake (s : State) (e : Nat) (ans : Option (State → State)) : State :=
  if s.isReady (NET_STATUS_STATE e) && s.ear e == .peer then
    let s := s.bumpWrap (NET_RX_FRAMES e)
    match ans with
    | some f => f s
    | none => s.bumpSat (NET_RX_DROP e)
  else s

/-- A response by UDP (R489): from the port's own addresses and the command port, with the VLAN tag where VLAN.EN is set. -/
def State.udpOut (s : State) (e : Nat) (peer : EthPeer) (bytes : List Byte) : Out :=
  .udp e { v6 := peer.v6, mac := BitVec.ofNat 48 (s.mac e), ip := BitVec.ofNat 128 (if peer.v6 then s.ip6 e else s.rdN (NET_IPV4 e)),
           port := BitVec.ofNat 16 (s.get MGT_CMD_CTRL_PORT) } peer
    (if bitOf (s.rdN (NET_VLAN e)) 16 then some (s.rdN (NET_VLAN e) % 4096) else none) bytes

/-- A frame leaves on a port, if its lane carries it (R464, R466). -/
def State.ethSend (s : State) (e : Nat) (o : Out) : State :=
  ((s.when (s.speaks e) fun t => t.emit o).bumpWrap (NET_TX_FRAMES e)).tstHit 5 e

/-- ARP_REQUEST (R488). -/
def arpRequest (e : Nat) (f : List Byte) (s : State) : State :=
  (s.ethFar e f).ethTake e (match s.ethAccept e f with
    | some fr =>
      let b := fr.body
      let ip := s.rdN (NET_IPV4 e)
      if fr.ty = 0x0806 ∧ beNat (sub b 0 8) = 0x0001080006040001 ∧ ip ≠ 0 ∧ beNat (sub b 24 4) = ip ∧ 28 ≤ b.length then
        some fun t => t.ethSend e (.arpReply e (BitVec.ofNat 48 (beNat (sub b 8 6))) (BitVec.ofNat 32 (beNat (sub b 14 4))))
      else none
    | none => none)

/-- ICMP_ECHO_REQUEST (R488): the answer returns the identifier, the number and the data. -/
def icmpEchoRequest (e : Nat) (f : List Byte) (s : State) : State :=
  (s.ethFar e f).ethTake e (match s.ethAccept e f with
    | some fr =>
      let answer (v6 : Bool) (ip : Nat) (m : List Byte) : State → State := fun t =>
        t.ethSend e (.echoReply e v6 (BitVec.ofNat 48 fr.src) (BitVec.ofNat 128 ip) (m.drop 4))
      if fr.ty = 0x0800 then
        match ipv4Of fr.body with
        | some (1, a, b, m) =>
          if b = s.rdN (NET_IPV4 e) ∧ b ≠ 0 ∧ beNat (sub m 0 2) = 0x0800 ∧ 8 ≤ m.length ∧ m.length ≤ 1480 ∧ onesSum m = 0 then
            some (answer false a m)
          else none
        | _ => none
      else if fr.ty = 0x86DD ∧ s.flag (NET_CTRL_IPV6 e) then
        match ipv6Of fr.body with
        | some (58, a, b, m) =>
          if b = s.ip6 e ∧ beNat (sub m 0 2) = 0x8000 ∧ 8 ≤ m.length ∧ m.length ≤ 1460
              ∧ onesSum (pseudo 16 a b 58 m.length ++ m) = 0 then
            some (answer true a m)
          else none
        | _ => none
      else none
    | none => none)

/-- NEIGHBOUR_SOLICITATION (R488). -/
def neighbourSolicitation (e : Nat) (f : List Byte) (s : State) : State :=
  (s.ethFar e f).ethTake e (match s.ethAccept e f with
    | some fr =>
      if fr.ty = 0x86DD ∧ s.flag (NET_CTRL_IPV6 e) then
        match ipv6Of fr.body with
        | some (58, a, b, m) =>
          let group := 0xFF0200000000000000000001FF000000 + s.ip6 e % 2 ^ 24
          if b = group ∧ beNat (sub m 0 2) = 0x8700 ∧ beNat (sub m 8 16) = s.ip6 e
              ∧ onesSum (pseudo 16 a b 58 m.length ++ m) = 0 then
            some fun t => t.ethSend e (.neighbourAdvert e (BitVec.ofNat 48 fr.src) (BitVec.ofNat 128 a))
          else none
        | _ => none
      else none
    | none => none)

/-- ETH_FRAME_DROP (R486, R488). -/
def ethFrameDrop (e : Nat) (badFcs : Bool) (x : Fec) (s : State) : State :=
  let s := s.fecCount e x
  if s.isReady (NET_STATUS_STATE e) && s.ear e == .peer && badFcs then s.bumpSat (NET_RX_FCS_ERR e) else s.ethTake e none

/-! ### PTP (R510 to R513) -/

/-- A command response leaves, or waits behind a PTP frame that has yet to leave (R512). -/
def State.ethReply (s : State) (e : Nat) (o : Out) : State :=
  if (s.net e).tx.isSome then s.modNet e fun r => { r with resp := r.resp ++ [o] } else s.ethSend e o

/-- Is a frame a PTP frame of an enabled mapping (R488, R510)? -/
def State.isPtp (s : State) (e : Nat) (fr : EthFr) : Bool :=
  let udp (v6 : Bool) (p : Option (Nat × Nat × Nat × List Byte)) (groups : List Nat) : Bool :=
    match p with
    | some (17, a, b, u) => groups.contains b && (match udpPort v6 a b u with
        | some q => q == 319 || q == 320
        | none => false)
    | _ => false
  if fr.ty = 0x88F7 then s.flag (NET_PTP_CTRL_L2 e) && (fr.dst == 0x011B19000000 || fr.dst == 0x0180C200000E)
  else if fr.ty = 0x0800 then s.flag (NET_PTP_CTRL_UDP4 e) && udp false (ipv4Of fr.body) [0xE0000181]
  else if fr.ty = 0x86DD then
    s.flag (NET_PTP_CTRL_UDP6 e)
      && udp true (ipv6Of fr.body) [0xFF0E0000000000000000000000000181, 0xFF02000000000000000000000000006B]
  else false

/-- A timestamp: a base's value moved by `d` units of 2^-16 ns (R511). -/
def State.stamp (s : State) (n : Nat) (d : Int) : Nat :=
  (((s.tb n).units16 + d) % ((2 ^ 48 * 10 ^ 9 * 2 ^ 16 : Nat) : Int)).toNat

/-- Seconds of a timestamp. -/
def stampSec (t : Nat) : Nat := t / 2 ^ 16 / 10 ^ 9
/-- Nanoseconds of a timestamp. -/
def stampNs (t : Nat) : Nat := t / 2 ^ 16 % 10 ^ 9
/-- Fraction of a timestamp. -/
def stampFrac (t : Nat) : Nat := t % 2 ^ 16

/-- The FEC delay that a timestamp takes in: that of the frame, where FEC is on (R486, R511). -/
def State.fecDelay (s : State) (e : Nat) (d : Int) : Int := if s.get (NET_CTRL_FEC e) = 1 ∨ s.get (NET_CTRL_FEC e) = 2 then d else 0

/-- The count of the receive queue (R513). -/
def State.rxqShow (s : State) (e : Nat) : State := s.wr (NET_RXQ_COUNT e) (BitVec.ofNat 32 (s.net e).rxq.length)

/-- What a port does with a PTP frame that it receives, `fec` being the FEC delay of the frame in units of 2^-16 ns; none drops it. -/
def State.ptpTake (s : State) (e : Nat) (f : List Byte) (fec : Int) : Option (State → State) :=
  match s.ethAccept e f with
    | some fr =>
      if s.isPtp e fr ∧ s.isReady (NET_PTP_STATUS_STATE e) then
        some fun t =>
          if 256 < f.length ∨ 32 ≤ (t.net e).rxq.length then
            ((t.bumpSat (NET_RXQ_DROP e)).setFlag (NET_PTP_STATUS_RXQ_DROP_F e) true).raise 0x209 e
          else
            let n := t.get (NET_PTP_CTRL_TB e)
            let st := t.stamp n (-(t.rdI (NET_PTP_RXLAT e)) - t.fecDelay e fec)
            (t.modNet e fun r => { r with rxq := r.rxq ++ [{ tag := 0, tb := n, t := st, bytes := f }] }).rxqShow e
      else none
    | none => none

/-- PTP_FRAME (R510, R511, R513). In near-end loopback the port hears the frames that it has sent itself (R466). -/
def ptpFrame (e : Nat) (f : List Byte) (fec : Int) (s : State) : State :=
  if s.ear e == .own && s.isReady (NET_STATUS_STATE e) && (s.net e).echo.contains f then
    let ans := s.ptpTake e f fec
    let s := (s.modNet e fun r => { r with echo := r.echo.erase f }).bumpWrap (NET_RX_FRAMES e)
    match ans with
    | some act => act s
    | none => s.bumpSat (NET_RX_DROP e)
  else (s.ethFar e f).ethTake e (s.ptpTake e f fec)

/-- Word `i` of the receive window (R513). -/
def State.rxqView (s : State) (e i : Nat) : Word :=
  match (s.net e).rxq with
  | [] => 0
  | x :: _ =>
    let h := x.bytes.length + x.tb * 2 ^ 16 + stampNs x.t * 2 ^ 32 + stampSec x.t * 2 ^ 64 + stampFrac x.t * 2 ^ 112
    BitVec.ofNat 32 (leNat (sub (leBytes 16 h ++ x.bytes) (4 * i) 4))

/-- RXQ_POP (R513). -/
def wrRxqPop (e : Nat) (v : Word) (s : State) : State :=
  s.when (bitOf v.toNat 0) fun t => (t.modNet e fun r => { r with rxq := r.rxq.tail }).rxqShow e

/-- The transmit timestamp registers show the oldest entry (R513). -/
def State.txtsShow (s : State) (e : Nat) : State :=
  let q := (s.net e).txts
  let (tag, t) := match q with
    | x :: _ => (x.tag + 2 ^ 31, x.t)
    | [] => (0, 0)
  let s := s.wr (NET_TXTS_TAG e) (BitVec.ofNat 32 (tag + q.length * 2 ^ 24))
  let s := s.wr64 (NET_TXTS_SEC_LO e) (stampSec t)
  (s.wr (NET_TXTS_NS e) (BitVec.ofNat 32 (stampNs t))).wr (NET_TXTS_FRAC e) (BitVec.ofNat 32 (stampFrac t))

/-- TXTS_POP (R513). -/
def wrTxtsPop (e : Nat) (v : Word) (s : State) : State :=
  s.when (bitOf v.toNat 0) fun t => (t.modNet e fun r => { r with txts := r.txts.tail }).txtsShow e

/-- A write of NETn_PTP_TXCTL (R512): LEN outside 14 to 256 has no effect. -/
def wrTxCtl (e : Nat) (v : Word) (s : State) : State :=
  let n := s.get (NET_PTP_CTRL_TB e)
  let len := fldOf 0 9 v
  if !s.isReady (NET_PTP_STATUS_STATE e) then s
  else if (s.net e).tx.isSome then s.tbRefuse n
  else if 14 ≤ len ∧ len ≤ 256 then
    let bytes := ((List.range 64).map fun i => leBytes 4 (s.rdN (NET_PTP_TXBUF e i))).flatten.take len
    s.modNet e fun r => { r with tx := some { bytes := bytes, ctl := v, tag := s.rdN (NET_PTP_TXTAG e) % 2 ^ 16 } }
  else s

/-- Put bytes over a frame from byte `i` on. -/
def overlay (f : List Byte) (i : Nat) (b : List Byte) : List Byte := (f.take i ++ b ++ f.drop (i + b.length)).take f.length

/-- The one-step fields of a frame (R512). -/
def oneStep (ctl : Word) (t : Nat) (f : List Byte) : List Byte :=
  let o := fldOf 16 8 ctl
  let g := overlay f (o + 34) (beBytes 6 (stampSec t) ++ beBytes 4 (stampNs t))
  let g := overlay g (o + 8) (beBytes 8 ((beNat (sub g (o + 8) 8) + stampFrac t) % 2 ^ 64))
  if bitOf ctl.toNat 11 then
    -- the last two bytes restore the ones' complement sum (R512); they lie across two words where LEN is odd
    let i := f.length - 2
    let rest := onesSum (overlay g i [0, 0])
    let w := (onesSum f + 65535 - rest) % 65535
    overlay g i (if f.length % 2 = 0 then beBytes 2 w else leBytes 2 w)
  else g

/-- A frame filled up to the 60 bytes that a frame of 64 has before its FCS (R488, R512). -/
def padded (f : List Byte) : List Byte := f ++ List.replicate (60 - f.length) 0

/-- The FCS of a frame (R512): the CRC-32 of IEEE 802.3. -/
def fcs (f : List Byte) : List Byte := leBytes 4 (~~~(f.foldl (crcByte 0xEDB88320#32) 0xFFFFFFFF#32)).toNat

/-- PTP_DEPARTURE (R511 to R513); the command responses that have waited leave after it. -/
def ptpDeparture (e : Nat) (fec : Int) (s : State) : State :=
  match (s.net e).tx with
  | none => s
  | some x =>
    let tb := s.get (NET_PTP_CTRL_TB e)
    let t := s.stamp tb (s.rdI (NET_PTP_TXLAT e) + s.fecDelay e fec)
    let bytes := padded (if bitOf x.ctl.toNat 10 then oneStep x.ctl t x.bytes else x.bytes)
    let own := s.ear e == .own
    let late := (s.net e).resp
    let s := s.modNet e fun r => { r with tx := none, resp := [], echo := if own then r.echo ++ [bytes] else [] }
    let s := late.foldl (fun u o => u.ethSend e o) (s.ethSend e (.ptp e (bytes ++ fcs bytes)))
    if !bitOf x.ctl.toNat 9 then s
    else if 16 ≤ (s.net e).txts.length then
      ((s.bumpSat (NET_TXTS_DROP e)).setFlag (NET_PTP_STATUS_TXTS_OVF e) true).raise 0x208 e
    else (s.modNet e fun r => { r with txts := r.txts ++ [{ tag := x.tag, tb := tb, t := t, bytes := [] }] }).txtsShow e

/-! ### Forwarding (R319, R479) -/

/-- An entry of the forwarding table. -/
def State.fwdGet (s : State) (i : Nat) : Option Fwd := tabGet (fun _ => none) s.fwd i

/-- Set or free an entry; LNK_FWD shows the entries in use. -/
def State.fwdSet (s : State) (i : Nat) (x : Option Fwd) : State :=
  let s := { s with fwd := tabSet (fun _ => none) s.fwd i x }
  let n := s.fwd.length
  (s.set LNK_FWD_USED n).set LNK_FWD_PEAK (max n (s.get LNK_FWD_PEAK))

/-- Does a command frame from E0 or E1 go on to another device (R319)? -/
def State.forOther (s : State) (f : List Byte) : Bool :=
  s.flag LNK_ADDR_VALID && !frBcast f && frTarget f != s.get LNK_ADDR_ADDR

/-- A frame for another TARGET goes down the chain as a CMD packet, with an entry of the forwarding table (R319, R479). -/
def State.forwardCmd (e : Nat) (peer : EthPeer) (f : List Byte) (s : State) : State :=
  match (List.range 64).find? fun i => (s.fwdGet i).isNone with
  | none => (s.bumpSat LNK_FWD_FULL_CNT).raise 0x1DB 0
  | some i =>
    let s := s.fwdSet i (some { port := e, peer := peer })
    let k : LnkPkt :=
      { ty := 1, host := false, hops := 0, dest := BitVec.ofNat 16 (frTarget f),
        src := BitVec.ofNat 16 (s.get LNK_ADDR_ADDR), tag := BitVec.ofNat 32 i, payload := f }
    match s.route k none with
    | .port p => s.lnkSend p (.pkt k) none
    | _ => s.unreach

/-- A UDP datagram at the command port of E0 or E1 (R318, R488): `act` does with its frame what the row stands for. -/
def State.ethCmd (s : State) (e : Nat) (x : List Byte) (act : EthPeer → List Byte → State → State) : State :=
  s.ethTake e ((s.cmdFrame e x).map fun (peer, f) t => if t.accepts e f then act peer f t else t.badFrame)

/-- ETH_CMD_FORWARD (R319, R479, R486). The rows of the commands themselves stand for frames that this device executes. -/
def ethCmdForward (e : Nat) (fec : Fec) (x : List Byte) (s : State) : State :=
  let s := (s.fecCount e fec).ethFar e x
  match s.cmdFrame e x with
  | some (_, f) =>
    if s.accepts e f && !s.forOther f then s else s.ethCmd e x fun peer g t => t.forwardCmd e peer g
  | none => s.ethTake e none

/-- FWD_ENTRY_TIMEOUT (R479). -/
def fwdEntryTimeout (i : Nat) (s : State) : State := if (s.fwdGet i).isSome then s.fwdSet i none else s

/-- A response for a forwarded frame goes back to where the frame came from (R479, R489). -/
def State.fwdAnswer (s : State) (k : LnkPkt) : State :=
  match s.fwdGet k.tag.toNat with
  | none => s
  | some x =>
    let s := s.fwdSet k.tag.toNat none
    if s.isReady (NET_STATUS_STATE x.port) then s.ethReply x.port (s.udpOut x.port x.peer k.payload) else s

/-- RSP (R474, R479). -/
def rspPacket (p : Nat) (blocks : List LnkBlock) (s : State) : State :=
  s.receive p 2 blocks fun k t =>
    match t.route k (some p) with
    | .port q => t.forward q k (some p)
    | .here => (t.lnkFree (some p) (.pkt k)).fwdAnswer k
    | .none => t.unreach.lnkFree (some p) (.pkt k)

/-! ### Register writes -/

/-- A write of NETn_PTP_CTRL (R515). -/
def wrPtpCtrl (e : Nat) (v : Word) (s : State) : State := (s.plainWrite (NET_PTP_CTRL e) v).ptpUpdate e

/-- Writes of the NET registers. -/
def wrNetReg (off : Nat) (v : Word) (s : State) : State :=
  let e := (off - 0x050000) / 0x1000
  match off % 0x1000 with
  | 0x000 => wrNetCtrl e v s
  | 0x008 | 0x00C | 0x010 | 0x020 | 0x024 | 0x028 | 0x02C | 0x030 => wrNetAddr e off v s
  | 0x100 => wrPtpCtrl e v s
  | 0x110 => wrTxCtl e v s
  | 0x12C => wrTxtsPop e v s
  | 0x138 => wrRxqPop e v s
  | _ => s.plainWrite off v

end Sys2Proof.Machine
end

