-- ==== Sys2Proof/Machine/Light.lean ====
section
/-! DEFINITION. Lighting (R517 to R533): current sinks with their periods and strobes, the thermal shut-down, and the lamp wires. -/

namespace Sys2Proof.Machine

/-- A sink's record. -/
def State.sink (s : State) (n : Nat) : Sink := recGet s.sinks n

/-- Change a sink's record. -/
def State.modSink (s : State) (n : Nat) (f : Sink → Sink) : State := { s with sinks := recSet s.sinks n (f (s.sink n)) }

/-! ### Current sinks (R517 to R523) -/

/-- A refused write of a sink (R521). -/
def State.sinkRefuse (s : State) (n : Nat) : State := (s.setFlag (LGT_LS_STATUS_CFG_REFUSED n) true).raise 0x284 n

/-- A sink switches on, unless the thermal shut-down holds it (R524). -/
def State.sinkOn (s : State) (n : Nat) : State := s.setFlag (LGT_LS_STATUS_ON n) (!s.flag LGT_STATUS_TSD)

/-- The current that a sink draws, in nA (R517). -/
def State.sinkCurrent (s : State) (n : Nat) : Nat := if s.flag (LGT_LS_STATUS_ON n) then 200000000 * (s.sink n).code / 1023 else 0

/-- A sink switches off. -/
def State.sinkOff (s : State) (n : Nat) : State := s.setFlag (LGT_LS_STATUS_ON n) false

/-- A write of LGT_LSn_CTRL (R521): MODE and LYSEL only while the sink is OFF, and not in the write that sets EN. -/
def wrLsCtrl (n : Nat) (v : Word) (s : State) : State :=
  let (v1, refused) := keepBits (!s.isOff (LGT_LS_STATUS_STATE n) || bitOf v.toNat 0) 0x32 (s.rd (LGT_LS_CTRL n)) v
  let s := s.wrEnable (LGT_LS_CTRL n) v1 (LGT_LS_CTRL_EN n) (LGT_LS_STATUS_STATE n)
    (fun t => (t.set (LGT_LS_STATUS_STATE n) stSTARTING).modSink n fun _ => default)
    (fun t => (t.sinkOff n).set (LGT_LS_STATUS_STATE n) stOFF)
  s.when refused fun t => t.sinkRefuse n

/-- Does a READY sink in STROBE mode answer context LYm (R522)? -/
def State.answers (s : State) (n m : Nat) : Bool :=
  s.isReady (LGT_LS_STATUS_STATE n) && s.flag (LGT_LS_CTRL_MODE n) && s.get (LGT_LS_CTRL_LYSEL n) == m

/-- The strobe of a sink begins: it samples ISTRB (R522). -/
def State.strobeOn (s : State) (n : Nat) : State :=
  (s.modSink n fun r => { r with code := s.get (LGT_LS_I_ISTRB n), cut := false }).sinkOn n

/-- The number of active sinks below sink `n`. -/
def countBelow (mask n : Nat) : Nat := ((List.range n).filter (bitOf mask)).length

/-- COMMON_PERIOD_START (R520, R521): starting sinks become READY, and the active sinks get their offsets. -/
def commonPeriodStart (s : State) : State :=
  let s := forN 12 (fun n t =>
    if t.get (LGT_LS_STATUS_STATE n) = stSTARTING then
      let t := t.set (LGT_LS_STATUS_STATE n) stREADY
      let m := t.get (LGT_LS_CTRL_LYSEL n)
      t.when (t.flag (LGT_LS_CTRL_MODE n) && (t.ctx (32 + m)).strb) fun u => u.strobeOn n
    else t) s
  let act := (List.range 12).filter fun n =>
    s.flag (LGT_LS_CTRL_EN n) && !s.flag (LGT_LS_CTRL_MODE n) && s.isReady (LGT_LS_STATUS_STATE n)
      && s.rdN (LGT_LS_DUTY n) % 2 ^ 16 != 0
  let mask := act.foldl (fun m n => m + 2 ^ n) 0
  let k := act.length
  let s := (s.set LGT_ACTIVE_MASK mask).set LGT_ACTIVE_K k
  act.foldl (fun (t : State) n => t.modSink n fun r => { r with off := some (countBelow mask n * 16384 / k) }) s

/-- SINK_PERIOD_START (R518 to R520): the codes written before take effect, and the on-time starts. -/
def sinkPeriodStart (n : Nat) (s : State) : State :=
  if s.isReady (LGT_LS_STATUS_STATE n) && !s.flag (LGT_LS_CTRL_MODE n) then
    let d := s.rdN (LGT_LS_DUTY n) % 2 ^ 16
    let r := s.sink n
    let s := match r.off with
      | some o => s.set (LGT_LS_STATUS_OFFSET n) o
      | none => s
    let cycles := if d = 0xFFFF then 16384 else d / 4 + if r.p % 4 < d % 4 then 1 else 0
    let s := s.modSink n fun r =>
      { r with code := s.get (LGT_LS_I_ICODE n), duty := d, p := (r.p + 1) % 4, on := cycles, off := none }
    if 0 < cycles then s.sinkOn n else s.sinkOff n
  else s

/-- SINK_ON_TIME_END (R518, R520): only DUTY = 0xFFFF keeps a sink on to the end of its period, however long that is. -/
def sinkOnTimeEnd (n : Nat) (s : State) : State :=
  if !s.flag (LGT_LS_CTRL_MODE n) && (s.sink n).duty != 0xFFFF then s.sinkOff n else s

/-- STROBE_REQUEST_RISE (R302, R522): the request of LYm rises, and the sinks that answer it switch on. -/
def strobeRequestRise (m : Nat) (s : State) : State :=
  let was := (s.ctx (32 + m)).strb
  let s := strobeRise m s
  s.when (!was && (s.ctx (32 + m)).strb) fun t => forN 12 (fun n u => u.when (u.answers n m) fun w => w.strobeOn n) t

/-- STROBE_REQUEST_FALL (R302, R522). -/
def strobeRequestFall (m : Nat) (s : State) : State :=
  let s := strobeFall m s
  s.when (!(s.ctx (32 + m)).strb) fun t => forN 12 (fun n u =>
    u.when (u.answers n m) fun w => (w.modSink n fun r => { r with cut := false }).sinkOff n) t

/-- Does a strobe sink answer a raised request that SMAX has not cut (R522, R523)? -/
def State.strobing (s : State) (n : Nat) : Bool :=
  s.answers n (s.get (LGT_LS_CTRL_LYSEL n)) && (s.ctx (32 + s.get (LGT_LS_CTRL_LYSEL n))).strb && !(s.sink n).cut

/-- STROBE_LONG (R523): the request has lasted longer than SMAX, also where the thermal shut-down holds the sink off (R524). -/
def strobeLong (n : Nat) (s : State) : State :=
  if s.rdN (LGT_LS_SMAX n) % 2 ^ 16 != 0 && s.strobing n then
    let s := (s.modSink n fun r => { r with cut := true }).sinkOff n
    (s.setFlag (LGT_LS_STATUS_SLONG n) true).raise 0x282 n
  else s

/-! ### Thermal shut-down (R524, R525) -/

/-- LS_TSD (R524). -/
def lsTsd (s : State) : State :=
  let s := (s.setFlag LGT_STATUS_TSD true).raise 0x280 0
  forN 12 (fun n t =>
    let t := t.sinkOff n
    t.when (!t.isOff (LGT_LS_STATUS_STATE n)) fun u => u.set (LGT_LS_STATUS_STATE n) stFAULT) s

/-- SINK_ARRAY_HOT (R525). -/
def sinkArrayHot (hot : Bool) (s : State) : State := s.setFlag LGT_STATUS_HOT hot

/-- A write of LGT_TSD_REL (R525); a READY sink whose request is raised is on from then (R522). -/
def wrTsdRel (v : Word) (s : State) : State :=
  if v = 0x00003A5C#32 ∧ !s.flag LGT_STATUS_HOT then
    forN 12 (fun n t => t.when (t.strobing n) fun u => u.sinkOn n) ((s.setFlag LGT_STATUS_TSD false).raise 0x281 0)
  else s.raise 0x285 0

/-! ### Lamp wires (R526 to R531) -/

/-- The frames that an output is sending, the one under way first. -/
def State.lamp (s : State) (n : Nat) : List (List Nat) := tabGet (fun _ => []) s.lamps n

/-- Set an output's frames; BUSY follows (R530). -/
def State.setLamp (s : State) (n : Nat) (l : List (List Nat)) : State :=
  { s with lamps := tabSet (fun _ => []) s.lamps n l }.setFlag (LGT_LW_STATUS_BUSY n) (!l.isEmpty)

/-- A refused write of a lamp wire (R530, R531). -/
def State.lwRefuse (s : State) (n : Nat) : State := (s.setFlag (LGT_LW_STATUS_CFG_REFUSED n) true).raise 0x284 n

/-- A share with the CHK that R528 computes. -/
def withChk (x : Nat) : Nat :=
  x / 16 * 16 + ((List.range 11).foldl (fun a i => a + x / 16 ^ (i + 1) % 16) 0) % 16

/-- The share of a SYNC frame (R529). -/
def syncShare : Nat := withChk (3 * 2 ^ 46)

/-- The buffer frame (R527, R528, R530). -/
def State.lampFrame (s : State) (n : Nat) : List Nat :=
  (List.range (orOne (s.get (LGT_LW_CTRL_COUNT n)))).map fun i =>
    let x := s.rdN (LGT_LW_SHARE_LO n i) + s.rdN (LGT_LW_SHARE_HI n i) % 2 ^ 16 * 2 ^ 32
    if s.flag (LGT_LW_CTRL_AUTOCHK n) then withChk x else x

/-- Start frames on an output that is READY (R530, R531). -/
def State.lwStart (s : State) (n : Nat) (l : List (List Nat)) : State :=
  if l.isEmpty || !s.isReady (LGT_LW_STATUS_STATE n) then s else s.setLamp n l

/-- EN is cleared (R531, R622): a frame under way goes on to the end of its bit, in STOPPING; what has not begun is dropped. Whether
its gap is over is a free value (assumption 117). -/
def State.lwStop (n : Nat) (s : State) : State :=
  match s.lamp n with
  | [] => s.set (LGT_LW_STATUS_STATE n) stOFF
  | f :: _ =>
    if Config.lampCut s.fresh = 0 then ((s.setLamp n []).set (LGT_LW_STATUS_STATE n) stOFF).nextFresh
    else ((s.setLamp n [f]).set (LGT_LW_STATUS_STATE n) stSTOPPING).nextFresh

/-- A write of LGT_LWn_CTRL (R530, R531, R533). -/
def wrLwCtrl (n : Nat) (v : Word) (s : State) : State :=
  let ready := s.isReady (LGT_LW_STATUS_STATE n)
  let busy := s.flag (LGT_LW_STATUS_BUSY n)
  let asked := bitOf v.toNat 1 || bitOf v.toNat 2
  let s := s.when (busy && asked) fun t => t.lwRefuse n
  let s := s.wrEnable (LGT_LW_CTRL n) (v &&& 0xFFFFFFF9) (LGT_LW_CTRL_EN n) (LGT_LW_STATUS_STATE n)
    (fun t => t.set (LGT_LW_STATUS_STATE n) stREADY) (State.lwStop n)
  let s := s.set (LGT_LW_CTRL_COUNT n) (min 64 (s.get (LGT_LW_CTRL_COUNT n)))
  let go := if bitOf v.toNat 1 then [s.lampFrame n] else []
  let sync := if bitOf v.toNat 2 then [[syncShare]] else []
  s.when (ready && !busy) fun t => t.lwStart n (go ++ sync)

/-- A write of LGT_LW_SYNC (R530): one that selects a busy output has no effect on either. -/
def wrLwSync (v : Word) (s : State) : State :=
  let on := [0, 1].filter fun n => bitOf v.toNat n
  let busy := on.filter fun n => s.flag (LGT_LW_STATUS_BUSY n)
  if busy = [] then on.foldl (fun t n => t.lwStart n [[syncShare]]) s else busy.foldl State.lwRefuse s

/-- The wave of a frame that goes out by a lamp wire (R526, R527): its levels in order, each with its PERI cycles. -/
def lampWave (f : List Nat) : List (Bool × Nat) :=
  (List.range (48 * f.length)).flatMap fun i =>
    let high := if bitOf (f.getD (i / 48) 0) (47 - i % 48) then 40 else 20
    [(true, high), (false, (if i % 2 = 0 then 63 else 62) - high)]

/-- LW_DONE (R530): the frame under way has ended. In STOPPING it is the bit under way that has (R531; DESIGN CHOICE: assumption
117): the bits up to there have left, the frame does not count, and the output is OFF, or starts again (R575). -/
def lwDone (n : Nat) (s : State) : State :=
  match s.lamp n with
  | [] => s
  | f :: rest =>
    if s.get (LGT_LW_STATUS_STATE n) = stSTOPPING ∨ s.get (LGT_LW_STATUS_STATE n) = stSTOPPING_RP then
      let bits := 1 + Config.lampCut s.fresh % (48 * f.length)
      (((s.setLamp n []).emit (.lampCut n f bits)).nextFresh).stopDone (LGT_LW_STATUS_STATE n) fun t =>
        t.set (LGT_LW_STATUS_STATE n) stREADY
    else (((s.setLamp n rest).emit (.lamp n f)).bumpWrap (LGT_LW_SENT_CNT n)).raise 0x283 n

/-- A write of LGT_LWn_CFG (R527, R531). -/
def wrLwCfg (n : Nat) (v : Word) (s : State) : State :=
  if s.isOff (LGT_LW_STATUS_STATE n) then
    let v1 := fldIns 0 8 v (max 50 (fldOf 0 8 v))
    s.plainWrite (LGT_LW_CFG n) v1
  else s.lwRefuse n

/-- A write of an output's buffer (R530). -/
def wrLwBuf (n off : Nat) (v : Word) (s : State) : State :=
  if s.flag (LGT_LW_STATUS_BUSY n) then s.lwRefuse n else s.plainWrite off v

/-- Writes of the LGT registers. -/
def wrLgtReg (off : Nat) (v : Word) (s : State) : State :=
  if off = LGT_TSD_REL then wrTsdRel v s
  else if off = LGT_LW_SYNC then wrLwSync v s
  else if 0x150100 ≤ off ∧ off < 0x150280 ∧ off % 0x20 = 0 then wrLsCtrl ((off - 0x150100) / 0x20) v s
  else if 0x151000 ≤ off ∧ off < 0x153000 then
    let n := (off - 0x151000) / 0x1000
    let r := off % 0x1000
    if r = 0 then wrLwCtrl n v s
    else if r = 8 then wrLwCfg n v s
    else if 0x100 ≤ r ∧ r < 0x300 then wrLwBuf n off v s
    else s.plainWrite off v
  else s.plainWrite off v

end Sys2Proof.Machine
end

