-- ==== Sys2Proof/Machine/Flow.lean ====
section
/-! DEFINITION. Control flow, data, waiting, Court, barrier, coupling, telemetry and halt instructions of the Scan Engine
(R162 to R191). -/

namespace Sys2Proof.Machine

/-! ### Control flow (R165 to R167) -/

/-- The target of BR, BRC and CALL: L[15:0], or G[A] (R165). -/
def State.brTarget (s : State) (b : Nat) (w : BitVec 64) : Nat := if iM w = 0 then (s.opA b w).toNat else iL w

/-- Is a branch target bad (R165)? -/
def badTarget (t : Nat) : Bool := decide (0xFFFF < t) || t % 8 != 0

/-- BR (R165). -/
def execBrIns (b : Nat) (w : BitVec 64) (s : State) : State :=
  let t := s.brTarget b w
  if badTarget t then s.trap b tcMem (BitVec.ofNat 32 t) else s.goto b t 2

/-- BRC (R164, R165): the target is checked whether or not the branch is taken. -/
def execBrcIns (b : Nat) (w : BitVec 64) (s : State) : State :=
  let t := s.brTarget b w
  if badTarget t then s.trap b tcMem (BitVec.ofNat 32 t)
  else if s.cond b (iB w) then s.goto b t 3
  else s.done b 2

/-- CALL (R166). A bad target traps before a full stack does (DESIGN CHOICE: assumption 108). -/
def execCallIns (b : Nat) (w : BitVec 64) (s : State) : State :=
  let t := s.brTarget b w
  if badTarget t then s.trap b tcMem (BitVec.ofNat 32 t)
  else if 16 ≤ (s.eng b).calls.length then s.trap b tcCall
  else
    let ret := (s.get (SCN_PC_PC b) + 8) % 0x10000
    (s.modEng b fun e => { e with calls := ret :: e.calls }).goto b t 3

/-- RET (R166). -/
def execRetIns (b : Nat) (_ : BitVec 64) (s : State) : State :=
  match (s.eng b).calls with
  | [] => s.trap b tcCall
  | r :: rest => (s.modEng b fun e => { e with calls := rest }).goto b r 3

/-- LOOP (R167). -/
def execLoopIns (b : Nat) (w : BitVec 64) (s : State) : State :=
  let pc := s.get (SCN_PC_PC b)
  let e := iL w
  let c := if iM w = 0 then (s.opA b w).toNat else iH w
  if e % 8 ≠ 0 ∨ e ≤ pc then s.trap b tcMem (BitVec.ofNat 32 e)
  else if c = 0 then s.goto b (e + 8) 3
  else if 8 ≤ (s.eng b).loops.length then s.trap b tcLoop
  else (s.modEng b fun x => { x with loops := (c, (pc + 8) % 0x10000, e) :: x.loops }).done b 3

/-- ENDL (R167). -/
def execEndlIns (b : Nat) (_ : BitVec 64) (s : State) : State :=
  match (s.eng b).loops with
  | [] => s.trap b tcLoop
  | (c, body, e) :: rest =>
    if e ≠ s.get (SCN_PC_PC b) then s.trap b tcLoop
    else if c - 1 = 0 then (s.modEng b fun x => { x with loops := rest }).done b 2
    else (s.modEng b fun x => { x with loops := (c - 1, body, e) :: rest }).goto b body 2

/-! ### Data (R163, R168 to R170) -/

/-- Write G[A]. -/
def State.putA (s : State) (b : Nat) (w : BitVec 64) (v : Word) : State := s.wr (SCN_G b (iA w)) v

/-- LDI (R168). -/
def execLdiIns (b : Nat) (w : BitVec 64) (s : State) : State := (s.putA b w (BitVec.ofNat 32 (iImm w))).done b 2

/-- ADD (R163, R168). -/
def execAddIns (b : Nat) (w : BitVec 64) (s : State) : State :=
  let x := s.opA b w
  let y := s.opX b w
  ((s.putA b w (x + y)).setZNC b (x + y) (carryAdd x y)).done b 2

/-- SUB (R163, R168). -/
def execSubIns (b : Nat) (w : BitVec 64) (s : State) : State :=
  let x := s.opA b w
  let y := s.opX b w
  ((s.putA b w (x - y)).setZNC b (x - y) (borrowSub x y)).done b 2

/-- AND (R163, R168). -/
def execAndIns (b : Nat) (w : BitVec 64) (s : State) : State :=
  let x := s.opA b w &&& s.opX b w
  ((s.putA b w x).setZNC b x false).done b 2

/-- OR (R163, R168). -/
def execOrIns (b : Nat) (w : BitVec 64) (s : State) : State :=
  let x := s.opA b w ||| s.opX b w
  ((s.putA b w x).setZNC b x false).done b 2

/-- The shift count (R169). -/
def State.shiftBy (s : State) (b : Nat) (w : BitVec 64) : Nat :=
  if iM w % 2 = 0 then (s.opB b w).toNat % 32 else iL w % 32

/-- SHL (R163, R169). -/
def execShlIns (b : Nat) (w : BitVec 64) (s : State) : State :=
  let r := shlRes (s.opA b w) (s.shiftBy b w)
  ((s.putA b w r.1).setZNC b r.1 r.2).done b 2

/-- SHR and SHR.A (R163, R169). -/
def execShrIns (b : Nat) (w : BitVec 64) (s : State) : State :=
  let r := shrRes (decide (2 ≤ iM w)) (s.opA b w) (s.shiftBy b w)
  ((s.putA b w r.1).setZNC b r.1 r.2).done b 2

/-- CMP (R163). -/
def execCmpIns (b : Nat) (w : BitVec 64) (s : State) : State := (s.setCmp b (s.opA b w) (s.opX b w)).done b 2

/-- Is the address of LD or ST bad (R170)? -/
def badWordAddr (a : Int) : Bool := decide (a < 0) || decide (0xFFFC < a) || a % 4 != 0

/-- LD (R163, R170). -/
def execLdIns (b : Nat) (w : BitVec 64) (s : State) : State :=
  let a := s.ldAddr b w
  if badWordAddr a then s.trap b tcMem (wordOf a)
  else if !s.present b a.toNat then s.waitPage b
  else
    let v := s.lmWord b a.toNat
    ((s.putA b w v).setZN b v).done b 3

/-- ST (R170). -/
def execStIns (b : Nat) (w : BitVec 64) (s : State) : State :=
  let a := s.ldAddr b w
  if badWordAddr a then s.trap b tcMem (wordOf a)
  else if !s.present b a.toNat then s.waitPage b
  else (s.lmStore b a.toNat (s.opA b w)).done b 3

/-! ### Waiting for a Volley (R172, R173) -/

/-- Gate-low points at the program position, with no wobble offset (R172, R183); a fill that owns no point leaves the direction of
SKY.OUT (R149; DEDUCED: assumption 79). -/
def State.fillSeg (s : State) (b tau : Nat) : State :=
  let s := s.startSeg b (.hold (s.ppos b) (s.eng b).dir) false tau
  s.when (s.eng b).owns fun t => t.modEng b fun e => { e with ma := none }

/-- WAITV (R172, R173). -/
def execWaitvIns (b : Nat) (w : BitVec 64) (s : State) : State :=
  let e := s.eng b
  if iM w = 1 then (s.fillSeg b ((ceilDiv e.te 655360 + iL w) * 655360 - e.te)).done b 6
  else
    let v := (s.opB b w).toNat * 2 ^ 32 + (s.opA b w).toNat
    let f := e.emitVolley e.k
    if v < f ∨ (v = f ∧ e.k % e.ppv ≠ 0) then ((s.fillSeg b 0).setFlag (SCN_FLAGS_B b) true).done b 6
    else if 16777215 < v - f then s.trap b tcOperand (BitVec.ofNat 32 (min 0xFFFFFFFF (v - f)))
    else ((s.fillSeg b (e.firstOf v * e.delta - e.te)).setFlag (SCN_FLAGS_B b) false).done b 6

/-! ### Court instructions (R174 to R181) -/

/-- The entry of a region in the claim set; a released entry no longer counts (R176, R215). -/
def Eng.claimOf (e : Eng) (region : Nat) : Option Claim := e.claims.find? fun c => c.region == region && c.relAt.isNone

/-- The lowest free entry of the claim set (R215). -/
def Eng.freeEntry (e : Eng) : Nat := ((List.range 8).find? fun i => !(e.claims.any fun c => c.idx == i)).getD 8

/-- CLAIM (R174, R176, R216). -/
def execClaimIns (b : Nat) (w : BitVec 64) (s : State) : State :=
  let region := (s.opA b w).toNat
  let urg := (s.opB b w).toNat % 256
  let e := s.eng b
  if !s.regionOk region then s.trap b tcOperand (s.opA b w)
  else match e.claimOf region with
    | some c => (s.modClaim b c.idx fun c => { c with urg := urg, waited := if c.urg = urg then c.waited else 0 }).done b 4
    | none =>
      if 8 ≤ e.claims.length then s.trap b tcCourtLim
      else (s.modEng b fun e =>
        { e with seq := e.seq + 1
                 claims := e.claims ++ [{ idx := e.freeEntry, region := region, urg := urg, seq := e.seq, waited := 0,
                                          granted := false, vis := false, refused := false, relAt := none }] }).done b 4

/-- The engine waits for the Court (R177, R180); the issue cycles are spent now. -/
def State.waitCourt (s : State) (b : Nat) (w : Wait) (cost : Nat) : State :=
  (s.modEng b fun e => { e with wait := w, used := e.used + cost }).setWait b 2

/-- A waiting instruction completes: B takes its value and the PC moves on (R177, R180, R184). -/
def State.waitOver (s : State) (b : Nat) (blocked : Bool) : State :=
  ((s.modEng b fun e => { e with wait := .none }).setFlag (SCN_FLAGS_B b) blocked).done b 0

/-- CLAIMT (R174, R177). -/
def execClaimtIns (b : Nat) (w : BitVec 64) (s : State) : State :=
  let region := (s.opA b w).toNat
  if !s.regionOk region then s.trap b tcOperand (s.opA b w)
  else match (s.eng b).claimOf region with
  | none => s.trap b tcCourtSeq
  | some c =>
    if c.vis then (s.setFlag (SCN_FLAGS_B b) false).done b 4
    else if iH w = 0 then (s.setFlag (SCN_FLAGS_B b) true).done b 4
    else s.waitCourt b (.claimt region (if iH w = 0xFFFFFF then none else some (iH w))) 4

/-- The result of a round for a CLAIMT that waits (R177). -/
def State.claimtResult (b : Nat) (s : State) : State :=
  match (s.eng b).wait with
  | .claimt region left =>
    if ((s.eng b).claimOf region).any Claim.vis then s.waitOver b false
    else match left with
      | none => s
      | some n =>
        if n ≤ 1 then s.waitOver b true
        else s.modEng b fun e => { e with wait := .claimt region (some (n - 1)) }
  | _ => s

/-- RELEASE of one entry (R178, R221): a granted region leaves after the output of the points placed so far. -/
def Claim.release (c : Claim) (placed : Nat) : Claim := { c with relAt := some (if c.granted then placed else 0) }

/-- RELEASE (R174, R178). -/
def execReleaseIns (b : Nat) (w : BitVec 64) (s : State) : State :=
  if !s.regionOk (s.opA b w).toNat then s.trap b tcOperand (s.opA b w)
  else match (s.eng b).claimOf (s.opA b w).toNat with
  | none => s.done b 3
  | some c => (s.modClaim b c.idx fun c => c.release (s.eng b).placed).done b 3

/-- RELEASE.ALL (R178). -/
def execReleaseAllIns (b : Nat) (_ : BitVec 64) (s : State) : State := (s.modEng b Eng.releaseAll).done b 3

/-- PULL.P (R179). A bad address traps before an outstanding take does (DESIGN CHOICE: assumption 108). -/
def execPullPIns (b : Nat) (w : BitVec 64) (s : State) : State :=
  let a := (s.opA b w).toNat
  if 0xFFE0 < a ∨ a % 32 ≠ 0 then s.trap b tcMem (s.opA b w)
  else if (s.eng b).take.isSome then s.trap b tcCourtSeq
  else (s.modEng b fun e =>
    { e with take := some { pool := iL w % 64, addr := a, result := none, bytes := [], vis := false, written := false } }).done b 4

/-- What PULL.W can answer now (R180): a visible result, with the bytes of a granted slot written. -/
def Take.answer (t : Take) : Option Nat :=
  match t.result with
  | some r => if t.vis && (t.written || decide (4096 ≤ r)) then some r else none
  | none => none

/-- PULL.W completes if the take is decided and written (R180). -/
def State.pullwTry (b : Nat) (s : State) : State :=
  match (s.eng b).wait with
  | .pullw reg =>
    match (s.eng b).take.bind Take.answer with
    | some r => ((s.wr (SCN_G b reg) (BitVec.ofNat 32 r)).modEng b fun e => { e with take := none }).waitOver b (decide (4096 ≤ r))
    | none => s
  | _ => s

/-- PULL.W (R180). -/
def execPullWIns (b : Nat) (w : BitVec 64) (s : State) : State :=
  if (s.eng b).take.isNone then s.trap b tcCourtSeq
  else State.pullwTry b (s.waitCourt b (.pullw (iA w)) 3)

/-- TAKE_BYTES_WRITTEN (R179): the slot's 32 bytes reach local memory, whatever the page's present bit. -/
def takeBytesWritten (b : Nat) (s : State) : State :=
  match (s.eng b).take with
  | some t =>
    if t.vis && !t.written && (t.result.any fun r => decide (r < 4096)) then
      let s := { s with lmem := memPut s.lmem (lmOff b t.addr) t.bytes }
      State.pullwTry b (s.modEng b fun e => { e with take := some { t with written := true } })
    else s
  | none => s

/-- Mark the oldest held slot `v` that is not passed as passed (R181). PASSPT names no pool: where the engine holds slots of this
number from two pools, the one it has held longer passes first (DESIGN CHOICE: assumption 92). -/
def passFirst (v placed : Nat) : List Held → List Held
  | [] => []
  | h :: hs => if h.slot = v ∧ h.passAt.isNone then { h with passAt := some placed } :: hs else h :: passFirst v placed hs

/-- PASSPT (R181). -/
def execPassptIns (b : Nat) (w : BitVec 64) (s : State) : State :=
  let v := (s.opA b w).toNat
  let e := s.eng b
  if e.held.any fun h => h.slot == v && h.passAt.isNone then
    (s.modEng b fun e => { e with held := passFirst v e.placed e.held }).done b 3
  else s.trap b tcCourtSeq

/-! ### Barriers (R182 to R185, R621) -/

/-- Arrival at a barrier (R182, R621), and then `f`; a mask without the engine itself traps, and after that one that differs from the
mask of those waiting (DESIGN CHOICE: assumption 108). -/
def State.arrive (s : State) (b : Nat) (w : BitVec 64) (f : State → State) : State :=
  let mask := (s.opA b w).toNat
  let i := iL w % 16
  let r := s.bar i
  if !bitOf mask b then s.trap b tcOperand (s.opA b w)
  else if r.arrived ≠ 0 ∧ r.mask ≠ mask then s.trap b tcSync
  else f ((s.modBar i fun x => { x with mask := mask, arrived := x.arrived ||| 2 ^ b }).modEng b fun e => { e with joined := false })

/-- The timeout of SYNC (R185). -/
def syncLimit (w : BitVec 64) : Option Nat := if iH w = 0 then none else some (iH w)

/-- SYNC, the fill form (R183). WAIT stays NONE or BUFFER, since the engine goes on placing points (DEDUCED: assumption 109). -/
def execSyncIns (b : Nat) (w : BitVec 64) (s : State) : State :=
  s.arrive b w fun s =>
    let s := (s.fillSeg b 0).modEng b fun e =>
      { e with openEnd := true, wait := .syncF (iL w % 16) (syncLimit w) }
    s.done b 6

/-- SYNC.B (R184). -/
def execSyncBIns (b : Nat) (w : BitVec 64) (s : State) : State :=
  s.arrive b w fun s =>
    (s.modEng b fun e => { e with wait := .syncB (iL w % 16) (syncLimit w), used := e.used + 6 }).setWait b 4

/-- One round result for a timeout that runs (R185). -/
def tickLimit : Option Nat → Option Nat := Option.map fun n => n - 1

/-- The result of a round for engine `b` at its barrier (R182 to R185): a release ends the wait, any other result counts
against its timeout. A result counts once the arrival has met an edge (DEDUCED: assumption 13). -/
def State.barResult (b : Nat) (s : State) : State :=
  let e := s.eng b
  match e.wait with
  | .syncF i left =>
    if !e.joined then s
    else if bitOf (s.bar i).freed b then s.endFill b (s.vnum + 2) false
    else s.modEng b fun e => { e with wait := .syncF i (tickLimit left) }
  | .syncB i left =>
    if !e.joined then s
    else if bitOf (s.bar i).freed b then s.waitOver b false
    else s.modEng b fun e => { e with wait := .syncB i (tickLimit left) }
  | _ => s

/-- Withdraw an arrival (R185). -/
def State.withdraw (s : State) (i b : Nat) : State :=
  s.modBar i fun x => { x with arrived := x.arrived ^^^ (x.arrived &&& 2 ^ b) }

/-- SYNC_TIMEOUT (R185): the last permitted result did not release the barrier. -/
def syncTimeout (b : Nat) (s : State) : State :=
  let fire (i : Nat) (s : State) : State := ((s.withdraw i b).setFlag (SCN_STATUS_SYNC_TO b) true).raise 0x057 b
  if s.running b then
    match (s.eng b).wait with
    | .syncF i (some 0) => (fire i s).endFill b (s.vnum + 2) true
    | .syncB i (some 0) => (fire i s).waitOver b true
    | _ => s
  else s

/-! ### Coupling, telemetry and stops (R186 to R190) -/

/-- SETP (R186). -/
def execSetpIns (b : Nat) (w : BitVec 64) (s : State) : State :=
  let v := if iM w = 1 then iL w else (s.opA b w).toNat
  if 65535 < v then s.trap b tcOperand (BitVec.ofNat 32 v)
  else (s.modEng b fun e => { e with pendS := e.pendS ++ [(iB w % 2 == 1, v)] }).done b 2

/-- CAMW (R187). -/
def execCamwIns (b : Nat) (w : BitVec 64) (s : State) : State :=
  let v := s.opA b w
  if v &&& 0xF000F000#32 ≠ 0 then s.trap b tcOperand v
  else (s.modEng b fun e => { e with pendC := e.pendC ++ [(v.toNat % 4096, v.toNat / 2 ^ 16 % 4096)] }).done b 3

/-- TAG (R188). -/
def execTagIns (b : Nat) (w : BitVec 64) (s : State) : State :=
  let v := if iM w = 1 then BitVec.ofNat 32 (iL w) else s.opA b w
  ((s.wr (SCN_TAG b) v).when (iB w % 2 == 1) fun t => t.raise 0x059 b v).done b 2

/-- TRAP (R189). -/
def execTrapIns (b : Nat) (w : BitVec 64) (s : State) : State := s.trap b tcSoft (BitVec.ofNat 32 (iL w))

/-- HALT (R190): the cycles of the window count up to its issue, the waits before it included (R195). -/
def execHaltIns (b waited : Nat) (w : BitVec 64) (s : State) : State :=
  s.haltEng b (iL w) ((s.eng b).used + waited + 2)

end Sys2Proof.Machine
end

