-- ==== Sys2Proof/Machine/Output.lean ====
section
/-! DEFINITION. The output stage (R32 to R48, R76, R88 to R92, R104 to R106, R190, R221, R336): safe stops, point slots, the point
buffer deadline, dead balls and the output merge. -/

namespace Sys2Proof.Machine

/-! ### Batch state (R332, R336, R339) -/

/-- Change the Batch state; each change records an event (R332). -/
def State.setBatch (s : State) (v : Nat) : State :=
  if s.get MGT_BATCH_STATUS_STATE = v then s else (s.set MGT_BATCH_STATUS_STATE v).raise 0x343 0

/-- Is the Batch RUNNING, HOLDING or HELD? -/
def State.batchActive (s : State) : Bool :=
  let v := s.get MGT_BATCH_STATUS_STATE
  decide (4 ≤ v) && decide (v ≤ 6)

/-- Is beam `b` one of the Batch's? -/
def State.inBatch (s : State) (b : Nat) : Bool := bitOf (s.rdN MGT_BATCH_MASK) b

/-- HOLDING becomes HELD once no beam of the Batch remains to pause (R336). -/
def State.holdUpdate (s : State) : State :=
  let left := (List.range 32).any fun b => s.inBatch b && s.running b && !(s.eng b).paused
  s.when (s.get MGT_BATCH_STATUS_STATE == 5 && !left) fun t => t.setBatch 6

/-! ### Safe stop (R104 to R107) -/

/-- The three codes have reached the park codes (R105, R87). -/
def State.parkCheck (s : State) (b : Nat) : State :=
  if s.flag (BIO_STATUS_SAFE b) && !s.flag (BIO_STATUS_PARKED b) && (s.beam b).codes == s.parkCodes b then
    ((s.setFlag (BIO_STATUS_PARKED b) true).raise 0x049 b).beamStopDone b
  else s

/-- A safe stop begins (R105 steps 1 and 2): outputs dark, the engine halts, everything not yet sent is discarded. -/
def State.ssBegin (b : Nat) (s : State) : State :=
  if (s.beam b).ssPend ≠ 0 then
    let s := s.safeHalt b
    let s := s.modEng b fun e => { e with ended := if e.ended = .no then .no else .safe }
    let s := s.modBeam b fun r => { r with ssPend := 0, cur := .hold, next := .hold, gate := false, dac := 0 }
    let s := ((s.setFlag (BIO_STATUS_SAFE b) true).wr64 (BIO_SS_VOLLEY_LO b) s.vnum).raise 0x048 b
    let s := s.when s.batchActive fun t => t.wr MGT_BATCH_SAFE (t.rd MGT_BATCH_SAFE ||| (1#32 <<< b))
    let s := s.modCb b fun r => { r with sfIn := true }
    s.holdUpdate.parkCheck b
  else s

/-! ### Point slots (R34, R35, R76, R88 to R92) -/

/-- The code and gate of a point at a DAC update (R90 to R92), and whether the power limit clipped it. RUN is not asked for: the
last buffer of a HALT leaves in the Volley after the merge that clears RUN (R190), and its points still act (DESIGN CHOICE:
assumption 95). -/
def State.drive (s : State) (b : Nat) (p : OutPt) : Bool × Nat × Bool :=
  let ok := !p.dark && s.laserOk b
  let (code, clip) := powerCode p.pw (s.get (BIO_CORR_M b)) (s.get (BIO_PWR_LIM_LIM b))
  if p.g && ok then (true, code, clip)
  else (false, if !p.g && ok then s.get (BIO_IDLE_CODE_CODE b) else 0, clip)

/-- A point left with the gate high: the revoke count restarts (R223), and a held slot counts the point attributed to it (R230). -/
def State.shine (s : State) (b : Nat) (p : OutPt) : State :=
  (s.wr (ARB_BEAM_IDLE b) 0).modEng b fun e =>
    { e with
      lit := true
      held := match p.slot with
        | none => e.held
        | some (q, i) => e.held.map fun h =>
            if h.pool = q ∧ h.slot = i then { h with onpts := min 0xFFFFFFFF (h.onpts + 1), lastx := p.bx, lasty := p.byy } else h }

/-- Slot `j` of a frame that carries points: the codes leave at slot 0, or at every slot in XY-HD mode; the DAC and gate
update at every slot. -/
def State.pointOut (s : State) (b j : Nat) (p : OutPt) : State :=
  let fresh := (s.beam b).hd || j == 0
  let (gate, dac, clip) := s.drive b p
  let s := s.when clip fun t => t.bumpSat (BIO_PWR_CLIP_CNT b)
  let first := gate && (fresh || !(s.beam b).shone)
  let s := s.modBeam b fun r => { r with gate := gate, dac := dac, shone := (!fresh && r.shone) || gate }
  let s := s.when first fun t => t.shine b p
  if fresh then
    let s := s.sendCodes b j ⟨p.x, p.y, p.z⟩
    let s := s.modBeam b fun r => { r with sent := true, lastX := p.bx, lastY := p.byy, lastZ := p.bz }
    s.modEng b fun e => { e with emitted := e.emitted + 1 }
  else s

/-- May Proof work on beam `b` (R556)? -/
def State.calBeamOk (s : State) (b : Nat) : Bool :=
  !s.running b && s.isReady (BIO_STATUS_STATE b) && (!s.flag (BIO_STATUS_SAFE b) || s.flag (BIO_STATUS_PARKED b))

/-- Does the HEAD step of Proof drive beam `b` now (R556)? -/
def State.calHead (s : State) (b : Nat) : Bool :=
  s.flag CAL_STATUS_BUSY && s.cal.q.head? == some (2, b) && (s.beam b).hd && s.calBeamOk b

/-- The distance of a mean of 100 actual positions from a reference code; a fraction is rounded either way (assumption 31). -/
def calError (sum ref : Int) (k : Nat) : Nat :=
  let d := (sum - 100 * ref).natAbs
  d / 100 + (if d % 100 != 0 && Config.calUp k then 1 else 0)

/-- Where HEAD leads the head next: a reference of CAL_REF, or the codes it started from. -/
def State.calTarget (s : State) : Codes :=
  let k := s.cal.ref
  if k < 4 then ⟨sgn 24 (s.rdN (CAL_REF_X k)), sgn 24 (s.rdN (CAL_REF_Y k)), s.cal.home.z⟩ else s.cal.home

/-- A slot of beam `b` under HEAD (R556): the head moves as when it parks; at a reference 1,000 slots pass, then ACT is averaged
over 100, and the largest error of each axis is kept. -/
def State.calHeadSlot (s : State) (b j : Nat) : State :=
  let c := s.cal
  let r := s.beam b
  let t := s.calTarget
  if r.codes ≠ t then
    let st := orOne (s.get (BIO_PARK_STEP_STEP b))
    s.sendCodes b j ⟨parkStep st r.codes.x t.x, parkStep st r.codes.y t.y, parkStep st r.codes.z t.z⟩
  else
    let s := s.sendCodes b j r.codes
    if c.ref = 4 then s
    else if c.n < 1000 then { s with cal := { c with n := c.n + 1 } }
    else
      let sx := c.sx + s.rdI (BIO_ACT_X b)
      let sy := c.sy + s.rdI (BIO_ACT_Y b)
      if c.n < 1099 then { s with cal := { c with n := c.n + 1, sx := sx, sy := sy } }
      else
        let keep (off e : Nat) (s : State) : State := s.wr off (BitVec.ofNat 32 (max e (s.rdN off)))
        keep (CAL_HEAD_Y b) (calError sy t.y (s.fresh + 1)) (keep (CAL_HEAD_X b) (calError sx t.x s.fresh)
          { s with fresh := s.fresh + 2, cal := { c with ref := c.ref + 1, n := 0, sx := 0, sy := 0 } })

/-- One slot instant of one beam (R34, R35, R40, R87, R88, R105). A port that is PARKED in STARTING or FAULT repeats the codes that it has
reached, whatever BIOn_PARK holds since; without SAFE it follows BIOn_PARK (DESIGN CHOICE: assumption 107). -/
def State.pointSlotBeam (j b : Nat) (s : State) : State :=
  if s.isOff (BIO_STATUS_STATE b) then s
  else
    let r := s.beam b
    let fresh := r.hd || j == 0
    let s := s.when fresh fun t => t.modBeam b fun r => { r with lost := r.lost + 1 }
    let hold (t : State) : State := (t.when fresh fun u => u.sendCodes b j (u.beam b).codes).darkOut b 0
    if r.ssPend ≠ 0 then State.ssBegin b (hold s)
    else if s.calHead b then (s.calHeadSlot b j).darkOut b 0
    else if s.flag (BIO_STATUS_SAFE b) then
      if s.flag (BIO_STATUS_PARKED b) || !fresh then hold s
      else
        let st := orOne (s.get (BIO_PARK_STEP_STEP b))
        let p := s.parkCodes b
        let c : Codes := ⟨parkStep st r.codes.x p.x, parkStep st r.codes.y p.y, parkStep st r.codes.z p.z⟩
        ((s.sendCodes b j c).darkOut b 0).parkCheck b
    else if s.get (BIO_STATUS_STATE b) = stSTARTING ∨ s.get (BIO_STATUS_STATE b) = stFAULT then
      (s.when fresh fun t => t.sendCodes b j (t.parkCodes b)).darkOut b 0
    else match r.cur with
      | .pts l => match l[if r.hd then j else 0]? with
        | some p => s.pointOut b j p
        | none => hold s
      | _ => hold s

/-- POINT_SLOT (R34). From slot 9 on, the next edge is less than 1.0 us away (R55). -/
def pointSlot (j : Nat) (s : State) : State := { forN 32 (State.pointSlotBeam j) s with late := s.late || j == 9 }

/-! ### The deadline and dead balls (R39 to R48, R195 to R197) -/

/-- Append a dead-ball record, or drop it (R45). -/
def State.dbLog (s : State) (wds : List Nat) : State :=
  let wr := s.get GLB_DBLOG_WR_INDEX
  if (wr + 1) % 512 = s.get GLB_DBLOG_RD_INDEX then
    let was := s.flag GLB_VOL_STATUS_DBLOG_FULL
    let s := (s.bumpSat GLB_DBLOG_DROP).setFlag GLB_VOL_STATUS_DBLOG_FULL true
    s.when (!was) fun t => t.raise 0x044 0
  else (s.logWords (0x001000 + wr * 0x20) wds).set GLB_DBLOG_WR_INDEX ((wr + 1) % 512)

/-- The REASON of a dead ball (R48, R160): in the first Volley after the start it is START, whatever the engine waits for (DESIGN
CHOICE: assumption 96). -/
def State.dbReason (s : State) (b : Nat) : Nat :=
  if (s.eng b).first then 3
  else match s.get (SCN_STATUS_WAIT b) with
    | 2 => 1
    | 3 => 2
    | 4 => 4
    | _ => 0

/-- The next Volley is a dead ball for beam `b` (R40 to R42, R45 to R47). While the generator makes no edges the next Volley keeps the
number (R31; DEDUCED: assumption 120). -/
def State.deadBall (s : State) (b : Nat) : State :=
  let e := s.eng b
  let r := s.beam b
  let v := if s.volEdges then s.vnum + 1 else s.vnum
  let run := min 0xFFFF (s.get (SCN_DB_RUN_RUN b) + 1)
  let pp := s.ppos b
  let (x, y, z) := if r.sent then (r.lastX, r.lastY, r.lastZ) else (pp.x, pp.y, pp.z)
  let w := b + e.buf.length * 2 ^ 8 + s.dbReason b * 2 ^ 12 + run * 2 ^ 16
  let wds : List Nat := [v, v / 2 ^ 32, low 32 x, low 32 y, low 32 z, w, s.execPc b, s.rdN (SCN_TAG b)]
  let s := ((s.bumpSat (SCN_DB_CNT b)).bumpSat (SCN_SLIP b)).set (SCN_DB_RUN_RUN b) run
  let s := (s.dbLog wds).raise 0x042 b
  (s.modBeam b fun r => { r with next := .dead }).modEng b fun e => { e with lost := e.lost + 1 }

/-- A budget window ends (R195 to R197). -/
def State.windowEnd (s : State) (b used shown : Nat) : State :=
  let s := s.set (SCN_CYC_LAST_USED b) (min 0xFFFF shown)
  let s := s.set (SCN_CYC_MAX_MAX b) (max (s.get (SCN_CYC_MAX_MAX b)) (min 0xFFFF shown))
  let lim := s.get (SCN_BUDGET_WARN_LIMIT b)
  s.when (lim != 0 && decide (lim < used)) fun t => (t.bumpSat (SCN_BUDGET_WARN_CNT b)).raise 0x058 b

/-- May a hold pause the beam? An engine whose function stops, or that a drain has halted, gives up its last buffer (R338, R620). -/
def State.mayPause (s : State) (b : Nat) : Bool :=
  s.running b && s.get (SCN_STATUS_STATE b) != stSTOPPING && s.get (SCN_STATUS_STATE b) != stSTOPPING_RP

/-- A hold that pauses the beam at this merge (R336): NOW from its Volley on, DARK at a buffer without a gate-high point. -/
def State.holdDue (s : State) (b : Nat) : Bool :=
  let e := s.eng b
  s.mayPause b && decide (e.holdN ≤ s.vnum) && (e.holdReq == 1 || (e.holdReq == 2 && !(e.buf.any Pt.g)))

/-- The beam is paused (R336). -/
def State.pauseBeam (s : State) (b : Nat) : State :=
  (s.modEng b fun e => { e with paused := true, holdReq := 0 }).holdUpdate

/-- The deadline of one beam (R39): a paused beam is not tested (R336). -/
def State.deadlineBeam (win b : Nat) (s : State) : State :=
  if s.running b then
    let s := s.when (!(s.eng b).paused && s.holdDue b) fun t => t.pauseBeam b
    let e := s.eng b
    let short := decide (e.buf.length < e.ppv)
    let s :=
      if e.paused then s
      else if short then (s.deadBall b).windowEnd b win 0xFFFF
      else let u := e.full.getD e.used; s.windowEnd b u u
    let taken := s.tstCycles 6 b
    (s.tstHit 6 b).modEng b fun e => { e with used := taken, full := if e.paused && !short then some 0 else none }
  else s

/-- POINT_DEADLINE (R39): `win` is the length of the budget window in CORE cycles. -/
def pointDeadline (win : Nat) (s : State) : State := { forN 32 (State.deadlineBeam win) s with late := true }

/-- DEAD_BALL_LIMIT (R43). -/
def deadBallLimit (b : Nat) (s : State) : State :=
  let lim := s.get GLB_VOL_LIMITS_DB_LIMIT
  if s.running b && lim != 0 && decide (lim < s.get (SCN_DB_RUN_RUN b)) && (s.beam b).ssPend == 0 then
    ((s.setFlag (SCN_DB_RUN_LIMIT_HIT b) true).raise 0x043 b).ssRequest b 7
  else s

/-- HOLD_DARK_TIMEOUT (R336): no dark merge has come by Volley N + MAX - 1. -/
def holdDarkTimeout (b : Nat) (s : State) : State :=
  let e := s.eng b
  if s.mayPause b && e.holdReq == 2 && decide (e.holdN + e.holdMax ≤ s.vnum + 1) then s.pauseBeam b else s

/-! ### The output merge (R32, R66 to R71, R190, R221, R222) -/

/-- One point passes field correction and the Court check (R66 to R71, R221, R222); the last part of the result is the owner of the
first point that failed. -/
def State.mergePoint (b : Nat) (acc : State × List OutPt × Option Nat) (p : Pt) : State × List OutPt × Option Nat :=
  let s := acc.1
  let (c, clip) := s.correct b p.x p.y p.z
  let s := s.when clip fun t => ((t.setFlag (BIO_STATUS_FIELD_CLIP b) true).bumpSat (BIO_CLIP_CNT b)).raise 0x04A b
  let fails := p.g && !clip && !s.courtPass b p
  let s := s.when fails fun t => t.courtFail b
  (s, acc.2.1 ++ [{ x := c.x, y := c.y, z := c.z, pw := p.pw, g := p.g, dark := clip || fails, bx := p.x, byy := p.y, bz := p.z,
                    slot := p.slot }], if fails then some (acc.2.2.getD p.pc) else acc.2.2)

/-- The merge took a halted engine's last buffer (R190, R186, R187, R620). -/
def State.haltDone (s : State) (b : Nat) : State :=
  let e := s.eng b
  let s := s.modBeam b fun r => { r with setpN := r.setpN ++ e.pendS, camwN := r.camwN ++ e.pendC }
  let off := s.get (SCN_STATUS_STATE b) == stSTOPPING || s.get (SCN_STATUS_STATE b) == stSTOPPING_RP
  let s := s.modEng b fun e =>
    { e with pendS := [], pendC := [], halting := false, ended := .halt false, offAt := off, holdReq := 0 }
  let s := (s.setFlag (SCN_STATUS_RUN b) false).setFlag (SCN_STATUS_HALTED b) true
  (s.raise 0x056 b).holdUpdate

/-- The output merge of one beam (R32): a paused beam keeps its buffer, a dead ball leaves it, a full buffer is taken. -/
def State.mergeBeam (b : Nat) (s : State) : State :=
  let e := s.eng b
  if s.running b && (s.beam b).next != .dead && (s.beam b).next != .pause then
    if e.paused then
      (s.modBeam b fun r => { r with next := .pause }).modEng b fun e => { e with lost := e.lost + 1 }
    else if e.ppv ≤ e.buf.length then
      let (s, l, bad) := e.buf.foldl (State.mergePoint b) (s, [], none)
      let s := (s.courtTrap b bad).modBeam b fun r =>
        { r with next := .pts l, setpN := r.setpN ++ (e.buf.map Pt.setp).flatten,
                 camwN := r.camwN ++ (e.buf.map Pt.camw).flatten }
      let s := s.modEng b fun x => { x with buf := [] }
      let s := s.when (s.get (SCN_STATUS_WAIT b) == 1) fun t => t.setWait b 0
      s.when (s.eng b).halting fun t => t.haltDone b
    else s
  else s

/-- OUTPUT_MERGE (R32). -/
def outputMerge (s : State) : State := forN 32 State.mergeBeam s

end Sys2Proof.Machine
end

