-- ==== Sys2Proof/Machine/Mgmt.lean ====
section
/-! DEFINITION. Management (R535 to R541), thermal control and the voltage monitors (R549 to R554), and Proof (R555 to R558). -/

namespace Sys2Proof.Machine

/-! ### Boot (R535 to R539) -/

/-- A firmware slot: 0 is A, 1 is B. -/
def State.slot (s : State) (k : Nat) : FwSlot := recGet s.fw k

/-- Where slot A starts in the flash (R536). -/
def slotBase : Nat := 0x00100000
/-- The bytes of a slot (R536). -/
def slotBytes : Nat := 0x00100000
/-- The flash address of slot `k` (R536). -/
def slotAddr (k : Nat) : Nat := slotBase + k * slotBytes
/-- The state sector (R536). -/
def stateSector : Nat := 0x000FF000
/-- The bytes of a sector, and of a page (R536, R615). -/
def sectorBytes : Nat := 4096
/-- The bytes of a page (R615). -/
def pageBytes : Nat := 256
/-- The bytes of the flash: 4 MiB to 256 MiB (R536). -/
def flashBytes : Nat := max (2 ^ 22) (min (2 ^ 28) Config.flashRaw)

/-- What a flash address belongs to (R536). -/
inductive FlashPart where
  | board
  | marks
  | slot (k : Nat)
  deriving DecidableEq, Repr

/-- What lies at a flash address (R536). -/
def flashPart (a : Nat) : Option FlashPart :=
  if flashBytes ≤ a then none
  else if a < stateSector ∨ slotAddr 2 ≤ a then some .board
  else if a < slotBase then some .marks
  else some (.slot ((a - slotBase) / slotBytes))

/-- The command byte on the port (R615). -/
def FlashCmd.code : FlashCmd → Nat
  | .read _ _ => 0x6C
  | .writeEnable => 0x06
  | .program _ _ => 0x12
  | .erase _ => 0x21
  | .status => 0x05

/-- Commands go out on the SPI NOR port (R615; in which order, assumption 116). -/
def State.flash (s : State) (l : List FlashCmd) : State := l.foldl (fun t c => t.emit (.flash c)) s

/-- The bytes in pieces of `n`. -/
def pieces (n : Nat) (l : List Byte) : List (List Byte) := (List.range ((l.length + n - 1) / n)).map fun i => (l.drop (i * n)).take n

/-- Bytes are written from a sector's start on: each sector erased, each page programmed (R615). -/
def flashWrite (a : Nat) (l : List Byte) : List FlashCmd :=
  ((List.range ((l.length + sectorBytes - 1) / sectorBytes)).flatMap fun i => [.writeEnable, .erase (a + i * sectorBytes), .status])
    ++ (pieces pageBytes l).zipIdx.flatMap fun x => [.writeEnable, .program (a + x.2 * pageBytes) x.1, .status]

/-- The number of a slot's state. -/
def SlotSt.num : SlotSt → Nat
  | .empty => 0
  | .trial => 1
  | .trying => 2
  | .confirmed => 3
  | .bad => 4

/-- Change a slot, and mark the states in the state sector (R536). -/
def State.putSlot (s : State) (k : Nat) (x : FwSlot) : State :=
  let t := { s with fw := recSet s.fw k x }
  t.flash (flashWrite stateSector (Config.slotMarks (t.slot 0).st.num (t.slot 1).st.num))

/-- Change a slot's state. -/
def State.setSlotSt (s : State) (k : Nat) (st : SlotSt) : State := s.putSlot k { s.slot k with st := st }

/-- The number in bytes `a` to `a + n - 1` of an image header (R537). -/
def hdrN (img : List Byte) (a n : Nat) : Nat := leNat ((img.drop a).take n)

/-- Is an image valid (R538)? -/
def State.imageValid (s : State) (img : List Byte) : Bool :=
  let len := hdrN img 12 4
  let key := (img.drop 16).take 64
  let body := (img.drop 256).take len
  let digest := sha256 (img.take 80 ++ (img.drop 144).take 112 ++ body)
  decide (256 + len ≤ img.length) && hdrN img 0 4 == 0x4B474657 && hdrN img 9 3 == 0 && hdrN img 148 108 == 0
    && decide (4 ≤ len ∧ len ≤ 458752 ∧ len % 4 = 0) && decide (hdrN img 8 1 ≤ 64 ∧ s.fuses ≤ hdrN img 8 1)
    && ecdsaVerify (hdrN img 16 32) (hdrN img 48 32) (hdrN img 80 32) (hdrN img 112 32) digest
    && (s.keyhash == 0 || leNat (sha256 key) == s.keyhash)

/-- The ROM reads and validates slot `k`; a slot that fails is marked and recorded (R538). -/
def State.validate (s : State) (k : Nat) : State × Bool :=
  let s := s.flash [.read (slotAddr k) slotBytes]
  if s.imageValid (s.slot k).img then (s, true)
  else ((s.setFlag (if k = 0 then MGT_FW_STATUS_A_BAD else MGT_FW_STATUS_B_BAD) true).raise 0x001 0, false)

/-- Firmware of slot `k` runs. -/
def State.bootSlot (s : State) (k : Nat) : State :=
  let s := (s.set MGT_FW_STATUS_FSTATE 1).set MGT_FW_STATUS_SLOT k
  let s := s.setFlag MGT_FW_STATUS_TRYING ((s.slot k).st == .trying)
  s.wr MGT_FW_VERSION (BitVec.ofNat 32 (hdrN (s.slot k).img 4 4))

/-- No firmware runs, for want of a slot (R538). -/
def State.bootNone (s : State) : State := s.set MGT_FW_STATUS_FSTATE 2

/-- Step 3 of R538: the valid CONFIRMED slot with the higher VERSION; at equal versions slot A (DESIGN CHOICE: assumption 119). -/
def State.bootConfirmed (s : State) : State :=
  let try1 (acc : State × List Nat) (k : Nat) : State × List Nat :=
    if (acc.1.slot k).st = .confirmed then
      let (t, ok) := acc.1.validate k
      (t, if ok then acc.2 ++ [k] else acc.2)
    else acc
  let (s, ok) := [0, 1].foldl try1 (s, [])
  match ok with
  | [] => s.bootNone
  | [k] => s.bootSlot k
  | _ => s.bootSlot (if hdrN (s.slot 0).img 4 4 < hdrN (s.slot 1).img 4 4 then 1 else 0)

/-- The ROM's choice in AB mode (R538); while the KEYHASH fuses are blank, nothing boots in this mode. A TRIAL slot that another is
taken before, for want of validity, is skipped. -/
def State.bootAB (s : State) : State :=
  let s := s.flash [.read stateSector sectorBytes]
  let tried := [0, 1].filter fun k => (s.slot k).st == .trying
  let s := tried.foldl (fun t k => t.setSlotSt k .bad) s
  let trials := [0, 1].filter fun k => (s.slot k).st == .trial
  let (s, good) := trials.foldl (fun (acc : State × List Nat) k =>
    if acc.2 = [] then let (t, ok) := acc.1.validate k; (t, if ok then [k] else []) else acc) (s, [])
  let s := s.when (!tried.isEmpty || (!trials.isEmpty && (trials.head? != good.head? || s.keyhash == 0))) fun t => t.raise 0x002 0
  if s.keyhash = 0 then s.bootNone
  else match good with
    | k :: _ => (s.setSlotSt k .trying).bootSlot k
    | [] => s.bootConfirmed

/-- BOOT_DONE (R535, R538): the ROM, which runs from the reset on, has chosen. -/
def bootDone (s : State) : State :=
  if s.fabricUp && s.get MGT_FW_STATUS_FSTATE == 0 then
    let s := s.setFlag MGT_FW_STATUS_OPEN (s.keyhash == 0)
    let s := match s.bootSel with
      | 1 => let (t, ok) := s.validate 0; if ok then t.bootSlot 0 else t.bootNone
      | 2 => s.set MGT_FW_STATUS_FSTATE 3
      | _ => s.bootAB
    s.raise 0x000 0
  else s

/-! ### Firmware update (R540) -/

/-- An update ends with its RESULT (R540). -/
def State.updEnd (s : State) (res : Nat) : State :=
  let s := { ((s.setFlag MGT_UPD_CTRL_BUSY false).setFlag MGT_UPD_CTRL_DONE true).set MGT_UPD_CTRL_RESULT res with upd := none }
  s.raise (if res = 0 then 0x003 else 0x004) 0

/-- A write of MGT_UPD_CTRL (R540): GO starts operation OP with the address and length of that moment. -/
def wrUpdCtrl (v : Word) (s : State) : State :=
  let s := s.plainWrite MGT_UPD_CTRL v
  let op := fldOf 4 2 v
  if !bitOf v.toNat 0 || s.flag MGT_UPD_CTRL_BUSY || op == 3 then s
  else if s.get MGT_FW_STATUS_FSTATE ≠ 1 then s.updEnd 5
  else { s.setFlag MGT_UPD_CTRL_BUSY true with
         upd := some (op, s.rd64 MGT_UPD_ADDR_LO % 2 ^ 40, s.rdN MGT_UPD_LEN) }

/-- IMAGE ends (R540): the image is read, checked, written to the slot that is not running, and that slot becomes TRIAL. -/
def State.updImage (s : State) (a len : Nat) (flashOk : Bool) : State :=
  let k := 1 - s.get MGT_FW_STATUS_SLOT
  let (s, st, img) := s.unitRead true a (min len (256 + 458752))
  if st ≠ .ok then s.updEnd 2
  else if !s.imageValid img || 256 + hdrN img 12 4 != len then s.updEnd 1
  else if !flashOk then (s.putSlot k { st := .bad, img := Config.badFlash s.fresh }).nextFresh.updEnd 3
  else ((s.flash (flashWrite (slotAddr k) img ++ [.read (slotAddr k) len])).putSlot k { st := .trial, img := img }).updEnd 0

/-- CONFIRM ends (R540): the slot becomes CONFIRMED, and fuse bits are blown until their count equals its SVN. -/
def State.updConfirm (s : State) (flashOk : Bool) : State :=
  let k := s.get MGT_FW_STATUS_SLOT
  if (s.slot k).st ≠ .trying then s.updEnd 4
  else
    let s := s.setFlag MGT_FW_STATUS_TRYING false
    if !flashOk then (s.setSlotSt k .bad).updEnd 3
    else
      let n := max s.fuses (hdrN (s.slot k).img 8 1)
      let s := forN (n - s.fuses) (fun _ t => t.raise 0x005 0) (s.setSlotSt k .confirmed)
      State.updEnd { s with fuses := n } 0

/-- A reset ends an operation in progress (R541, R607): how far it has come is a free value, and a fuse bit is either blown or
intact (assumption 66). -/
def State.updCut (s : State) : State :=
  match s.upd with
  | none => s
  | some (0, _, _) =>
    let k := 1 - s.get MGT_FW_STATUS_SLOT
    let st := if Config.fuseCut s.fresh = 0 then (s.slot k).st else .trial
    ({ s with fw := recSet s.fw k { st := st, img := Config.badFlash s.fresh } } : State).nextFresh
  | some (1, _, _) =>
    let k := s.get MGT_FW_STATUS_SLOT
    let c := Config.fuseCut s.fresh % (hdrN (s.slot k).img 8 1 - s.fuses + 2)
    if (s.slot k).st ≠ .trying ∨ c = 0 then s.nextFresh
    else
      let s := forN (c - 1) (fun _ t => t.raise 0x005 0) (s.setSlotSt k .confirmed)
      ({ s with fuses := s.fuses + (c - 1) } : State).nextFresh
  | some (_, a, _) =>
    if s.keyhash ≠ 0 then s
    else ({ s with keyhash := leNat (s.unitRead true a 32).2.2 &&& Config.keyCut s.fresh } : State).nextFresh

/-- KEY ends (R540): the 32 bytes are blown into blank KEYHASH fuses. -/
def State.updKey (s : State) (a : Nat) : State :=
  if s.keyhash ≠ 0 then s.updEnd 4
  else
    let (s, st, bytes) := s.unitRead true a 32
    if st ≠ .ok then s.updEnd 2
    else
      let s := { s with keyhash := leNat bytes }
      (s.setFlag MGT_FW_STATUS_OPEN (s.keyhash == 0)).updEnd 0

/-- UPDATE_DONE (R540): `flashOk` says whether the SPI NOR took its writes. -/
def updateDone (flashOk : Bool) (s : State) : State :=
  match s.upd with
  | none => s
  | some (0, a, len) => s.updImage a len flashOk
  | some (1, _, _) => s.updConfirm flashOk
  | some (_, a, _) => s.updKey a

/-! ### Watchdog (R541) -/

/-- The timer starts with its period in ms. -/
def State.wdtStart (s : State) : State := { s with wdt := orOne (s.get MGT_WDT_CFG_MS) }

/-- A write of MGT_WDT_CFG (R541): setting EN starts the timer, clearing it stops the timer. -/
def wrWdtCfg (v : Word) (s : State) : State :=
  let was := s.flag MGT_WDT_CFG_EN
  let s := s.plainWrite MGT_WDT_CFG v
  if !s.flag MGT_WDT_CFG_EN then { s with wdt := 0 } else if was then s else s.wdtStart

/-- A write of MGT_WDT_KICK (R541). -/
def wrWdtKick (v : Word) (s : State) : State :=
  if v = 0x00006B1C#32 ∧ s.flag MGT_WDT_CFG_EN then s.wdtStart else s

/-- WDT_EXPIRE (R541): the processor is reset, and with it an update in progress; nothing else is. -/
def wdtExpire (s : State) : State :=
  if s.flag MGT_WDT_CFG_EN && s.wdt != 0 then
    let s := (s.updCut.wr MGT_FW_STATUS 0).set MGT_FW_STATUS_CAUSE 2
    let s := { (s.wr MGT_FW_VERSION 0).setFlag MGT_UPD_CTRL_BUSY false with upd := none }
    ((s.bumpSat MGT_WDT_CNT).raise 0x006 0).wdtStart
  else s

/-- What MGT_FUSE reads (R539, R560): the fuses themselves. -/
def State.fuseView (s : State) : Word := BitVec.ofNat 32 (s.fuses % 128 + (if s.keyhash = 0 then 0 else 256))

/-! ### Thermal control (R549 to R553) -/

/-- A threshold of CPT_TH_LIM in 1/16 degree C. -/
def State.thLim (s : State) (f : Fld) : Int := 16 * (s.get f : Int)

/-- The threshold of a level. -/
def State.levelLim (s : State) (l : Nat) : Int :=
  s.thLim (if l = 1 then CPT_TH_LIM_WARN else if l = 2 then CPT_TH_LIM_THROTTLE else CPT_TH_LIM_CRIT)

/-- Is sensor `i` broken? -/
def State.tsBad (s : State) (i : Nat) : Bool := bitOf (s.rdN CPT_TS_BROKEN) i

/-- How many sensors are broken. -/
def State.tsBadCount (s : State) : Nat := ((List.range 12).filter s.tsBad).length

/-- The reading that sensor `i` counts with (R549, R550). -/
def State.tsRead (s : State) (i : Nat) : Int := if s.tsBad i then s.thLim CPT_TH_LIM_THROTTLE else sgn 16 (s.rdN (CPT_TS i))

/-- Tmax is taken (R549): CPT_TH_MAX and the broken sensors' readings follow. -/
def State.takeMax (s : State) : State :=
  let s := forN 12 (fun i t => t.wr (CPT_TS i) (BitVec.ofNat 32 (low 16 (t.tsRead i)))) s
  let m := (List.range 12).foldl (fun m i => max m (s.tsRead i)) (s.tsRead 0)
  let tied := (List.range 12).filter fun i => s.tsRead i == m
  let s := (s.set CPT_TH_MAX_TMAX (low 16 m)).set CPT_TH_MAX_SENSOR (tied.getD (Config.tieSensor s.fresh % tied.length) 0)
  let s := { s with fresh := s.fresh + 1 }
  s.set CPT_TH_MAX_PEAK (max (s.get CPT_TH_MAX_PEAK) (min 255 (m / 16).toNat))

/-- Tmax as taken. -/
def State.tmax (s : State) : Int := s.getI CPT_TH_MAX_TMAX

/-- The level rises to `l` (R551, R552). -/
def State.thEnter (s : State) (l : Nat) : State :=
  let s := { s.set CPT_TH_STATUS_LEVEL l with thBelow := 0 }
  match l with
  | 1 => (s.setFlag CPT_TH_STATUS_WARN_F true).raise 0x2C0 0
  | 2 => ((s.setFlag CPT_TH_STATUS_THROT_F true).bumpSat CPT_TH_THROT_CNT).raise 0x2C1 0
  | _ => (s.setFlag CPT_TH_STATUS_CRIT_F true).raise 0x2C2 0

/-- While the level is CRITICAL, every running beam enters safe stop with cause THERMAL (R552). -/
def State.thHold (s : State) : State := s.when (s.get CPT_TH_STATUS_LEVEL == 3) fun t => t.ssRequestRunning 0xA

/-- The level rises as far as Tmax and the broken sensors take it (R551). -/
def State.thRise (s : State) : State :=
  let reach (l : Nat) : Bool := decide (s.levelLim l ≤ s.tmax)
  let top := if reach 3 || decide (2 ≤ s.tsBadCount) then 3 else if reach 2 then 2 else if reach 1 then 1 else 0
  (if s.get CPT_TH_STATUS_LEVEL < top then s.thEnter top else s).thHold

/-- The level falls one step after 64 samples below its threshold minus HYST (R551, R552). -/
def State.thFall (s : State) : State :=
  let l := s.get CPT_TH_STATUS_LEVEL
  if l = 0 then s
  else if s.tmax < s.levelLim l - s.thLim CPT_TH_LIM_HYST then
    let s := { s with thBelow := min 64 (s.thBelow + 1) }
    if s.thBelow = 64 ∧ s.tsBadCount < 2 then
      let s := { (s.set CPT_TH_STATUS_LEVEL (l - 1)).raise 0x2C4 0 with thBelow := 0 }
      s.when (l == 2) fun t => t.setFlag CPT_TH_STATUS_GATE false
    else s
  else { s with thBelow := 0 }

/-- A sensor is found broken (R550). -/
def State.tsBreak (s : State) (i : Nat) : State :=
  if s.tsBad i then s else (s.wr CPT_TS_BROKEN (s.rd CPT_TS_BROKEN ||| (1#32 <<< i))).raise 0x2C3 i

/-- THERMAL_SAMPLE (R549 to R552): `t` holds the twelve readings in 1/16 degree C. -/
def thermalSample (t : List Int) (s : State) : State :=
  let s := forN 12 (fun i u =>
    match t[i]? with
    | some x =>
      let u := u.when (decide (x < -880 ∨ 2400 < x)) fun w => w.tsBreak i
      if u.tsBad i then u else u.wr (CPT_TS i) (BitVec.ofNat 32 (low 16 x))
    | none => u) s
  let s := s.takeMax
  let w := s.thLim CPT_TH_LIM_WARN
  let s := s.when (decide (w - 80 ≤ s.tmax)) fun t => t.setFlag CPT_TH_STATUS_FAST true
  let s := s.when (decide (s.tmax < w - 112)) fun t => t.setFlag CPT_TH_STATUS_FAST false
  s.thFall.thRise

/-- TS_BROKEN (R550): a conversion failed, gave no result in time, or its code has not changed for 256 samples. -/
def tsBroken (i : Nat) (s : State) : State :=
  if s.tsBad i then s
  else
    let s := s.tsBreak i
    State.thRise (s.wr (CPT_TS i) (BitVec.ofNat 32 (low 16 (s.tsRead i))))

/-- A write of CPT_TS_BROKEN (R550): only the bits of sensors that are not broken at that moment clear. -/
def wrTsBroken (v : Word) (healthy : BitVec 12) (s : State) : State := s.plainWrite CPT_TS_BROKEN (v &&& healthy.setWidth 32)

/-- A write of CPT_TH_LIM (R551): a threshold above its reset value stores the reset value. -/
def wrThLim (v : Word) (s : State) : State :=
  let s := s.plainWrite CPT_TH_LIM v
  let cap (f : Fld) (m : Nat) (t : State) : State := t.set f (min m (t.get f))
  cap CPT_TH_LIM_CRIT 115 (cap CPT_TH_LIM_THROTTLE 105 (cap CPT_TH_LIM_WARN 100 s))

/-- THROTTLE_GATE (R553): while the level is THROTTLE or CRITICAL the gate closes after ON us and opens after OFF us. -/
def throttleGate (s : State) : State :=
  if 2 ≤ s.get CPT_TH_STATUS_LEVEL then s.setFlag CPT_TH_STATUS_GATE (!s.flag CPT_TH_STATUS_GATE) else s

/-! ### Voltage monitors (R554) -/

/-- A sample of monitor `m` (R554). -/
def State.vmTake (s : State) (m : Nat) (x : BitVec 16) : State :=
  let s := s.wr (CPT_VM m) (x.setWidth 32)
  let r := recGet s.vms m
  let lim := s.rd (CPT_VM_LIM m)
  let below := decide (x.toNat < fldOf 0 16 lim)
  let above := decide (fldOf 16 16 lim < x.toNat)
  let lo := if below then min 4 (r.lo + 1) else 0
  let hi := if above then min 4 (r.hi + 1) else 0
  let out := below || above
  let hit (k id : Nat) (c seen : Bool) (s : State) : State :=
    s.when c fun t => (t.wr CPT_VM_STATUS (t.rd CPT_VM_STATUS ||| (1#32 <<< k))).when (!seen) fun u => u.raise id m
  let s := hit m 0x2C8 (lo == 4) r.loEv s
  let s := hit (16 + m) 0x2C9 (hi == 4) r.hiEv s
  { s with vms := recSet s.vms m { lo := lo, hi := hi, loEv := out && (r.loEv || lo == 4), hiEv := out && (r.hiEv || hi == 4) } }

/-- VM_SAMPLE (R554): the readings of the sixteen monitors in mV. -/
def vmSample (mv : List (BitVec 16)) (s : State) : State :=
  forN 16 (fun m t => match mv[m]? with
    | some x => t.vmTake m x
    | none => t) s

/-! ### Proof (R555 to R558) -/

/-- The items of a step by its mask (R556). -/
def State.calItems (s : State) (step : Nat) : List Nat :=
  match step with
  | 0 => (List.range 2).filter fun i => bitOf (s.rdN CAL_AX) (8 + i)
  | 1 | 2 => (List.range 32).filter fun i => bitOf (s.rdN CAL_BEAMS) i
  | 3 => (List.range 64).filter fun i => bitOf (s.rd64 CAL_PD_LO) i
  | 4 => (List.range 32).filter fun i => bitOf (s.rdN CAL_MP) i
  | _ => (List.range 8).filter fun i => bitOf (s.rdN CAL_AX) i

/-- Does an item's condition hold (R556)? -/
def State.calCond (s : State) (step i : Nat) : Bool :=
  match step with
  | 0 => !s.anyRunning && !s.frozen
  | 1 => s.calBeamOk i
  | 2 => s.calBeamOk i && (s.beam i).hd
  | 3 => s.isReady (BIO_PD_STATUS_STATE i) && !s.running (i / 2)
  | 4 => s.isReady (CAM_CTX_STATUS_STATE i)
  | _ => s.isOff (MOT_AX_STATUS_STATE i)

/-- An item is skipped (R555). -/
def State.calSkip (s : State) (step i : Nat) : State :=
  (s.set CAL_STATUS_ERR (s.get CAL_STATUS_ERR ||| 2 ^ step)).raise 0x011 0 (BitVec.ofNat 32 (step * 256 + i))

/-- Proof ends (R555). -/
def State.calEnd (s : State) : State :=
  let s := { s with cal := default }
  (((s.setFlag CAL_STATUS_BUSY false).set CAL_STATUS_STEP 0).setFlag CAL_STATUS_DONE true).raise 0x010 0

/-- An item begins: DRAMTRAIN starts the training, HEAD leaves from the present codes, GRATIO awaits a frame. -/
def State.calBegin (s : State) (step i : Nat) : State :=
  let s := s.set CAL_STATUS_STEP step
  let s := { s with cal := { s.cal with ref := 0, n := 0, sx := 0, sy := 0, home := (s.beam i).codes, g := none } }
  match step with
  | 0 => s.setFlag (MEM_M_TRAIN_BUSY i) true
  | 2 => (s.wr (CAL_HEAD_X i) 0).wr (CAL_HEAD_Y i) 0
  | _ => s

/-- Proof goes on with the first item left whose condition holds (R555): the others before it are skipped. DRAMTRAIN trains both
channels at once (R556). -/
def State.calNext : List (Nat × Nat) → State → State
  | [], s => s.calEnd
  | (step, i) :: rest, s =>
    if s.cal.abort then s.calEnd
    else if s.calCond step i then
      let s := State.calBegin { s with cal := { s.cal with q := (step, i) :: rest } } step i
      if step = 0 then (rest.filter fun x => x.1 == 0).foldl (fun t x => t.setFlag (MEM_M_TRAIN_BUSY x.2) true) s else s
    else State.calNext rest (s.calSkip step i)

/-- A write of CAL_CTRL (R555). -/
def wrCalCtrl (v : Word) (s : State) : State :=
  let s := s.when (bitOf v.toNat 0 && !s.flag CAL_STATUS_BUSY) fun t =>
    let steps := (List.range 6).filter fun k => bitOf (t.get CAL_STEPS_STEPS) k
    let q := steps.flatMap fun k => (t.calItems k).map fun i => (k, i)
    let t := forN 32 (fun b u => u.wr (CAL_MP_G b) (fldIns 16 1 (u.rd (CAL_MP_G b)) 0)) t
    State.calNext q ({ t with cal := default }.setFlag CAL_STATUS_BUSY true)
  s.when (bitOf v.toNat 1 && s.flag CAL_STATUS_BUSY) fun t => { t with cal := { t.cal with abort := true } }

/-- The nodes of a grid image, in index order (R556, R67). -/
def State.gridLoad (s : State) (b : Nat) (bytes : List Byte) : State :=
  forN gridNodes (fun i t =>
    { t with grids := tabSet (fun _ => 0#64) t.grids (b * gridNodes + i) (BitVec.ofNat 64 (hdrN bytes (8 * i) 8)) }) s

/-- G of a context (R556, R558): unsigned Q4.12, saturating. -/
def calRatio (a b k : Nat) : Nat :=
  if b = 0 then (if a = 0 then (Config.zeroRatio k).toNat else 0xFFFF)
  else min 0xFFFF (a * 4096 / b + (if a * 4096 % b != 0 && Config.calUp k then 1 else 0))

/-- A mean or a root that falls between two units rounds either way (R556, R558; assumption 31). -/
def calRound (k : Nat) (exact : Bool) (x : Int) : Int := if exact || !Config.calUp k then x else x + 1

/-- The mean of a list of numbers. -/
def calMean (k : Nat) (l : List Int) : Int := calRound k (l.sum % l.length == 0) (l.sum / l.length)

/-- The place of the first value that lies nearest `tgt`. -/
def nearestAt (tgt : Int) (l : List Int) : Nat :=
  (l.zipIdx.foldl (fun (best : Option (Nat × Nat)) x =>
    let d := (x.1 - tgt).natAbs
    match best with
    | some (b, i) => if d < b then some (d, x.2) else some (b, i)
    | none => some (d, x.2)) none).elim 0 fun y => y.2

/-- The values of the Volleys that samples make, 100 each (R99). -/
def volleyValues (l : List Int) : List Int :=
  (List.range (l.length / 100)).map fun i => ((((l.drop (100 * i)).take 100).sum) * 16 + 50) / 100

/-- The r.m.s. deviation of samples from their mean, in 1/16 code (R558; DEDUCED: assumption 31). -/
def calRms (k : Nat) (l : List Int) : Int :=
  let n := l.length
  let v := (n * (l.map fun x => 256 * x * x).sum - (16 * l.sum) ^ 2).toNat
  let r := isqrt v / n
  calRound k (r * n * (r * n) == v) r

/-- PD_DARK of channel `i` (R556, R558): `trials` is the Volley value at each OFFSET from -512 to 511, and `samples` are those of the
measurement. -/
def State.pdDark (s : State) (i : Nat) (trials samples : List Int) : State :=
  let tgt : Int := s.rdN CAL_PD_TGT % 2 ^ 16
  let s := s.set (BIO_PD_CFG_OFFSET i) (low 10 ((nearestAt tgt trials : Int) - 512))
  let res := calMean s.fresh (volleyValues samples) - tgt
  (s.wr (CAL_PD i) (BitVec.ofNat 32 (low 16 res + low 16 (calRms (s.fresh + 1) samples) * 2 ^ 16))).nextFresh.nextFresh

/-- MOTOFS of axis `i` (R556): the means of 1,024 samples of each sense input. -/
def State.motOfs (s : State) (i : Nat) (sa sb : List Int) : State :=
  let a := calMean s.fresh sa
  let b := calMean (s.fresh + 1) sb
  (s.wr (MOT_AX_SENSE_OFS i) (BitVec.ofNat 32 (low 12 a + low 12 b * 2 ^ 16))).nextFresh.nextFresh

/-- What an item that has come to its end leaves (R556, R558); `vals` are the values measured: for PD_DARK the Volley values of the
1,024 offsets, then the samples; for MOTOFS the samples of input A, then those of input B. The flag says whether the item succeeded, none that it is
not at its end. -/
def State.calFinish (s : State) (step i : Nat) (vals : List Int) : State × Option Bool :=
  match step with
  | 0 =>
    if s.flag (MEM_M_TRAIN_BUSY 0) || s.flag (MEM_M_TRAIN_BUSY 1) then (s, none) else (s, some true)
  | 1 =>
    let a := s.rdN CAL_GRID_LO / 4096 * 4096 + s.rdN CAL_GRID_HI % 256 * 2 ^ 32 + i * 0x9000
    let (s, st, bytes) := s.unitRead true a 33800
    (if st = .ok then s.gridLoad i bytes else s, some true)
  | 2 => (s, if s.cal.ref = 4 ∧ (s.beam i).codes = s.cal.home then some true else none)
  | 3 => (s.pdDark i (vals.take 1024) (vals.drop 1024), some true)
  | 4 => match s.cal.g with
    | some (a, b) =>
      let s := s.wr (CAL_MP_G i) (BitVec.ofNat 32 (calRatio a b s.fresh + 2 ^ 16))
      ({ s with fresh := s.fresh + 1 }, some true)
    | none => (s, some false)
  | _ => (s.motOfs i (vals.take 1024) (vals.drop 1024), some true)

/-- PROOF_ITEM_DONE (R555, R556): the item in progress ends; one whose condition no longer holds is skipped. -/
def proofItemDone (vals : List Int) (s : State) : State :=
  match s.cal.q with
  | [] => s
  | (step, i) :: rest =>
    let rest' := if step = 0 then rest.filter fun x => x.1 != 0 else rest
    if !s.calCond step i && step != 0 then State.calNext rest (s.calSkip step i)
    else
      let (s, r) := s.calFinish step i vals
      match r with
      | none => s
      | some true => State.calNext rest' s
      | some false => State.calNext rest' (s.calSkip step i)

/-- An engine starts on a beam that GRID or HEAD works on (R557): the beam is skipped. -/
def State.calStart (s : State) (b : Nat) : State :=
  match s.cal.q with
  | (step, i) :: rest => if (step = 1 ∨ step = 2) ∧ i = b then State.calNext rest (s.calSkip step i) else s
  | [] => s

/-! ### Writes -/

/-- Writes of the management registers of R559. -/
def wrFwReg (off : Nat) (v : Word) (s : State) : State :=
  if off = MGT_UPD_CTRL then wrUpdCtrl v s
  else if off = MGT_WDT_CFG then wrWdtCfg v s
  else if off = MGT_WDT_KICK then wrWdtKick v s
  else s.plainWrite off v

/-- Writes of the CPT registers; of the sensors that are healthy now the path says nothing (assumption 30). -/
def wrCptReg (off : Nat) (v : Word) (s : State) : State :=
  if off = CPT_TH_LIM then wrThLim v s
  else if off = CPT_TS_BROKEN then wrTsBroken v (Config.healthy s.fresh) { s with fresh := s.fresh + 1 }
  else s.plainWrite off v

/-- Writes of the CAL registers. -/
def wrCalReg (off : Nat) (v : Word) (s : State) : State := if off = CAL_CTRL then wrCalCtrl v s else s.plainWrite off v

end Sys2Proof.Machine
end

