-- ==== Sys2Proof/Machine/Journal.lean ====
section
/-! DEFINITION. The journal (R342 to R345), responses (R320, R325, R475) and the schedule queue (R53, R54). -/

namespace Sys2Proof.Machine

/-- Result codes of R328. -/
def rOK : Nat := 0x0000
/-- QUEUED (R328). -/
def rQUEUED : Nat := 0x0001
/-- DUPLICATE (R328). -/
def rDUPLICATE : Nat := 0x0002
/-- BAD_OPCODE (R328). -/
def rBAD_OPCODE : Nat := 0x0010
/-- BAD_ARG (R328). -/
def rBAD_ARG : Nat := 0x0011
/-- STALE_SEQ (R328). -/
def rSTALE_SEQ : Nat := 0x0012
/-- BAD_STATE (R328). -/
def rBAD_STATE : Nat := 0x0013
/-- REFUSED (R328). -/
def rREFUSED : Nat := 0x0014
/-- DESC_ERR (R328). -/
def rDESC_ERR : Nat := 0x0015
/-- MEM_ERR (R328). -/
def rMEM_ERR : Nat := 0x0016
/-- NOT_FOUND (R328). -/
def rNOT_FOUND : Nat := 0x0017
/-- TOO_LATE (R328). -/
def rTOO_LATE : Nat := 0x0020
/-- TOO_FAR (R328). -/
def rTOO_FAR : Nat := 0x0021
/-- QUEUE_FULL (R328). -/
def rQUEUE_FULL : Nat := 0x0022
/-- NOT_READY (R328). -/
def rNOT_READY : Nat := 0x0023
/-- EXPIRED (R328). -/
def rEXPIRED : Nat := 0x0024
/-- CANCELLED (R328). -/
def rCANCELLED : Nat := 0x0025
/-- FAILED (R328). -/
def rFAILED : Nat := 0x0026

/-- What a command comes to: RESULT, DETAIL and DATA (R325). -/
structure Reply where
  result : Nat
  detail : Nat
  data   : List Byte

/-- A bare result. -/
def Reply.of (r : Nat) (d : Nat := 0) : Reply := ⟨r, d, []⟩

/-! ### The journal -/

/-- A journal entry (R342). -/
def jnlEntry (src : Nat) (f : List Byte) (kind result detail volley index : Nat) : BitVec 256 :=
  let digest := if frLen f = 0 then 0 else (crc32c (frArgs f)).toNat
  BitVec.ofNat 256 (volley % 2 ^ 64 + frSeq f * 2 ^ 64 + frOp f * 2 ^ 96 + src * 2 ^ 112 + kind * 2 ^ 116
    + (if frBcast f then 2 ^ 118 else 0) + (if frTimed f then 2 ^ 119 else 0) + digest * 2 ^ 128 + result * 2 ^ 160
    + frTarget f * 2 ^ 176 + detail % 2 ^ 32 * 2 ^ 192 + index * 2 ^ 224)

/-- A field of a journal entry (R342). -/
def jnlF (e : BitVec 256) (lo w : Nat) : Nat := e.toNat / 2 ^ lo % 2 ^ w

/-- The entry at the position of an index (R342). -/
def State.jnlAt (s : State) (i : Nat) : BitVec 256 := tabGet (fun _ => 0#256) s.jnl (i % 8192)

/-- An entry that is about to be overwritten before it was mirrored is skipped (R344). -/
def State.mirSkip (s : State) : State :=
  if s.flag MGT_JNL_MIR_HI_EN && decide (8192 ≤ (s.rdN MGT_JNL_WR + 2 ^ 32 - s.rdN MGT_JNL_MIR_WR) % 2 ^ 32) then
    (((s.bumpWrap MGT_JNL_MIR_WR).bumpSat MGT_JNL_MIR_SKIP).setFlag MGT_CMD_STATUS_MIR_SKIP true).raise 0x345 0
  else s

/-- Write a journal entry (R342, R343). -/
def State.jnlPut (s : State) (c : QCmd) (kind result detail volley : Nat) : State :=
  let s := s.mirSkip
  let i := s.rdN MGT_JNL_WR
  State.bumpWrap { s with jnl := tabSet (fun _ => 0#256) s.jnl (i % 8192) (jnlEntry c.src c.frame kind result detail volley i) }
    MGT_JNL_WR

/-- A write of MGT_JNL_MIR_HI (R344): setting EN starts at the next entry. -/
def wrMirHi (v : Word) (s : State) : State :=
  let was := s.flag MGT_JNL_MIR_HI_EN
  let s := s.plainWrite MGT_JNL_MIR_HI v
  s.when (!was && s.flag MGT_JNL_MIR_HI_EN) fun t => t.wr MGT_JNL_MIR_WR (t.rd MGT_JNL_WR)

/-- JOURNAL_MIRROR_WRITE (R344): the next entry to mirror is written under class K; while DRAM is frozen it waits. -/
def journalMirrorWrite (s : State) : State :=
  let i := s.rdN MGT_JNL_MIR_WR
  if s.flag MGT_JNL_MIR_HI_EN && i != s.rdN MGT_JNL_WR then
    let a := s.rdN MGT_JNL_MIR_LO / 4096 * 4096 + s.get MGT_JNL_MIR_HI_ADDR * 2 ^ 32 + i % 8192 * 32
    let (s', st') := s.unitWrite true a (leBytes 32 (s.jnlAt i).toNat)
    if st' = .frozen then s else s'.bumpWrap MGT_JNL_MIR_WR
  else s

/-- What MGT_JNL_Dk reads (R345). -/
def State.jnlView (s : State) (k : Nat) : Word := BitVec.ofNat 32 (jnlF (s.jnlAt (s.rdN MGT_JNL_SEL)) (32 * k) 32)

/-! ### Responses -/

/-- A response (R325). -/
def responseOf (f : List Byte) (r : Reply) (index volley : Nat) : List Byte :=
  let data := r.data.take 960
  let args := leBytes 2 r.result ++ leBytes 2 0 ++ leBytes 4 r.detail ++ leBytes 4 index ++ leBytes 4 0 ++ leBytes 8 volley ++ data
  let flags := f.getD 3 0
  let head := f.take 3 ++ [flags ||| 8#8] ++ (f.drop 4).take 8 ++ leBytes 2 args.length ++ (f.drop 14).take 14
  head ++ leBytes 4 (crc32c (head ++ args)).toNat ++ args

/-- Put bytes into MGT_CMD_BUF from offset 0 (R320). -/
def State.bufPut (s : State) (b : List Byte) : State :=
  forN ((b.length + 3) / 4) (fun i t => t.wr (MGT_CMD_BUF i) (BitVec.ofNat 32 (leNat ((b.drop (4 * i)).take 4)))) s

/-- The frame in MGT_CMD_BUF has been dealt with (R320). -/
def State.goDone (s : State) (b : List Byte) : State := ((s.bufPut b).setFlag MGT_CMD_GO_BUSY false).setFlag MGT_CMD_GO_DONE true

/-- The answer of a command goes back to where the command came from (R318, R320, R475, R489); NO_REPLY and broadcasts get none. A
broadcast that the chain has taken over from MGT_CMD_BUF no longer concerns it (R320). -/
def State.respond (s : State) (c : QCmd) (r : Reply) (index volley : Nat) : State :=
  if frNoReply c.frame || frBcast c.frame then (if c.src = 6 ∧ c.pkt = none then s.goDone [] else s)
  else
    let b := responseOf c.frame r index volley
    if c.src = 6 then s.goDone b
    else match c.peer with
    | some peer => s.when (s.isReady (NET_STATUS_STATE c.src)) fun t => t.ethReply c.src (t.udpOut c.src peer b)
    | none => match c.pkt with
      | none => s.emit (.response c.src b)
      | some k =>
        let q : LnkPkt := { k with ty := 2, hops := 0, dest := k.src,
                                   src := BitVec.ofNat 16 (s.get LNK_ADDR_ADDR), payload := b }
        if k.host && s.chainRoot then s.lnkSend 0 (.pkt q) none
        else match s.route q none with
          | .port p => s.lnkSend p (.pkt q) none
          | .here => s.fwdAnswer q
          | .none => s.unreach

/-! ### The schedule queue -/

/-- GLB_VOL_SCHED follows the queue (R61). -/
def State.schedShow (s : State) : State :=
  let n := s.sched.length
  (s.set GLB_VOL_SCHED_USED n).set GLB_VOL_SCHED_PEAK (max n (s.get GLB_VOL_SCHED_PEAK))

/-- Timed commands that leave the queue without acting write an EXEC entry each (R343). -/
def State.schedLeave (s : State) (p : QCmd → Bool) (result : Nat) : State :=
  let out := s.sched.filter p
  let s := State.schedShow { s with sched := s.sched.filter fun c => !p c }
  out.foldl (fun t c => t.jnlPut c 2 result 0 t.vnum) s

end Sys2Proof.Machine
end

