-- ==== Sys2Proof/Machine/Volley.lean ====
section
/-! DEFINITION. The Volley generator (R21 to R31, R56, R57, R590), the work of a Volley edge (R32) but for commands, the arbiter's
publication (R213), and the start of an engine (R107, R193, R335, R341). -/

namespace Sys2Proof.Machine

/-! ### The generator's lifecycle (R25, R28 to R30, R622) -/

/-- The generator leaves OFF: SRC is sampled, and it waits for its first edge (R25, R29). -/
def State.volStart (s : State) : State :=
  { s.set GLB_VOL_STATUS_STATE stSTARTING with volLocal := s.flag GLB_VOL_CTRL_SRC, volStop := false }

/-- The generator enters OFF: every queued timed command is cancelled, and the Volley number stays (R30). Commands that fall due
while it still makes edges act (DESIGN CHOICE: assumption 97). -/
def State.volOff (s : State) : State :=
  ((s.set GLB_VOL_STATUS_STATE stOFF).setFlag GLB_VOL_STATUS_LOCK false).schedLeave (fun _ => true) rCANCELLED

/-- EN cleared (R30, R622): while READY every running beam enters safe stop at the next edge. -/
def State.volStopReq (s : State) : State :=
  if s.volReady then { s.set GLB_VOL_STATUS_STATE stSTOPPING with volStop := false } else s.volOff

/-- Every safe stop of a stopping generator has completed (R30): it enters OFF, and from STOPPING_RP it starts again (R576). -/
def State.volOffCheck (s : State) : State :=
  let st := s.get GLB_VOL_STATUS_STATE
  if (st = stSTOPPING ∨ st = stSTOPPING_RP) ∧ s.volStop ∧ !((List.range 32).any s.ssInProgress) then
    if st = stSTOPPING then s.volOff else s.volOff.volStart
  else s

/-- RELOCK written 1 (R28): refused while an engine runs; else a generator without lock, in LOCAL mode too, starts again. -/
def State.relock (s : State) : State :=
  if s.anyRunning then s.raise 0x046 0
  else s.when (s.volReady && !s.flag GLB_VOL_STATUS_LOCK) fun t => t.set GLB_VOL_STATUS_STATE stSTARTING

/-- A write of GLB_VOL_CTRL (R25, R28, R30). -/
def wrVolCtrl (v : Word) (s : State) : State :=
  let s := s.wrEnable GLB_VOL_CTRL v GLB_VOL_CTRL_EN GLB_VOL_STATUS_STATE State.volStart State.volStopReq
  s.when (bitOf v.toNat 2) State.relock

/-! ### The edge error (R22, R26, R27, R57, R590) -/

/-- Units of 1/256 ns in 10,000 ns. -/
def volUnits : Nat := 2560000

/-- The edge error e in units of 1/256 ns, and the number of the nearest target instant (R22, R26): TST_VPHASE moves the target
while the test unlock is in force (R590). TB0 is finer than that unit: its time is rounded down (DESIGN CHOICE: assumption 98). -/
def State.edgeErr (s : State) : Int × Nat :=
  let ph : Int := if s.flag TST_STATUS_UNLOCKED then s.rdI TST_VPHASE else 0
  let x : Int := ((s.tb 0).t * 256 / tbUnit : Nat) - ph * 256
  let q := (x + volUnits / 2) / volUnits
  (x - q * volUnits, low 64 q)

/-- The generator compares itself with TB0 at an edge, and the length of the Volley that begins follows (R26, R27, R57). At a
small negative e the instant's floor lies one below; the number is that of the nearest target (DEDUCED: assumption 34). -/
def State.volMeasure (first : Bool) (s : State) : State :=
  if s.volLocal || !s.flag GLB_VOL_STATUS_LOCK then { s with volLen := volUnits }
  else
    let (e, q) := s.edgeErr
    let s := s.wr GLB_VOL_EDGE_ERR (wordOf e)
    let far := decide (orOne (s.get GLB_VOL_ALIGN_LIM_LIMIT) * 256 < e.natAbs)
    let was := s.flag GLB_VOL_STATUS_ALIGN
    let s := s.when far fun t => (t.setFlag GLB_VOL_STATUS_ALIGN true).when (!was) fun u => u.raise 0x045 0
    if decide (2000 * 256 < e.natAbs) || (!first && q != s.vnum) then
      { (((s.setFlag GLB_VOL_STATUS_LOCK false).setFlag GLB_VOL_STATUS_UNLOCKED true).raise 0x041 0) with volLen := volUnits }
    else { s with volLen := (volUnits - clampI (-2560) 2560 e).toNat }

/-! ### The work of an edge (R32) -/

/-- A beam at a Volley edge: the frame built for this Volley goes to the port, values that travelled with points take effect
(R186, R187), and the dead-ball run restarts at a Volley that is none (R43). -/
def State.beamEdge (b : Nat) (s : State) : State :=
  let r := s.beam b
  let s := r.setpN.foldl (fun t x => (t.wr (if x.1 then CLE_B_SPO b else CLE_B_SPI b) (BitVec.ofNat 32 x.2)).wrVol b) s
  let s := s.when (r.next != .dead) fun t => t.set (SCN_DB_RUN_RUN b) 0
  let s := match r.camwN.getLast? with
    | some o => s.modCtx b fun x => { x with camw := some o }
    | none => s
  s.modBeam b fun r =>
    { r with cur := r.next, next := .hold, setpN := [], camwN := [], shone := false, fePrev := r.feCur, feCur := none,
             startVol := if s.get (BIO_STATUS_STATE b) = stSTARTING then r.startVol + 1 else r.startVol }

/-- An engine at a Volley edge: its first Volley is over (R48), and its function enters OFF at the edge after the merge that took its
last buffer (R118, R620). -/
def State.engOffEdge (b : Nat) (s : State) : State :=
  let s := s.when (s.eng b).first fun t => t.modEng b fun e => { e with first := false }
  if (s.eng b).offAt then
    let s := s.modEng b fun e => { e with offAt := false }
    (s.stopDone (SCN_STATUS_STATE b) fun t => t.set (SCN_STATUS_STATE b) stREADY).wr64 (SCN_PAGE_LO b) 0
  else s

/-- The Batch at an edge (R339): it ends once no beam of BEAMS runs. -/
def State.batchEdge (s : State) : State :=
  let s := s.holdUpdate
  if s.batchActive && !((List.range 32).any fun b => s.inBatch b && s.running b) then
    s.setBatch (if s.rd MGT_BATCH_SAFE = 0 then 7 else 8)
  else s

/-- Is this the first edge after EN of a READY generator was cleared (R30)? -/
def State.volStopDue (s : State) : Bool :=
  let st := s.get GLB_VOL_STATUS_STATE
  (st == stSTOPPING || st == stSTOPPING_RP) && !s.volStop

/-- The work that an edge of the generator and a local tick share (R31, R32). What it decides from registers it decides before the
commands of the edge: what they write falls into the cycle of the edge (R255, R351, R570). The decisions of the round follow the
commands, which act before any work of the Volley begins (R52). -/
def State.tickWork (s : State) : State :=
  let s := forN 32 State.beamEdge (forN 64 State.pdEdge { s with late := false, latchPast := false })
  let s := forN 64 State.poolEdge (forN 2 State.migEdge s).arbUpEdge.arbiterEdge
  let s := forN 32 State.engOffEdge (forN 16 State.cleEdge s)
  let s := forN 8 State.portEdge (forN 36 State.ctxEdge s)
  let s := forN 8 State.axisEdge s
  let s := (forN 4 State.eoEdge (forN 8 State.qeEdge s)).pipeEdge
  { s with linkVols := min 255 (s.linkVols + 1) }

/-- CORE cycles from V+9.0 us to the end of a Volley of `len` units (R26, R195). -/
def leadCycles (len : Nat) : Nat := (len - 9000 * 256) / 640

/-! ### ROUND_PUBLISH (R175, R213) -/

/-- The results of a round become visible to one engine. -/
def State.publish (b : Nat) (s : State) : State :=
  let s := s.modEng b fun e =>
    { e with
      claims := e.claims.map fun c => { c with vis := c.granted }
      take := e.take.map fun t => { t with vis := t.result.isSome } }
  State.pullwTry b (State.claimtResult b (State.barResult b s))

/-- ROUND_PUBLISH (R213, R217, R220): every round has results, and a READY arbiter also shows that the round took `cyc` cycles. -/
def roundPublish (cyc : BitVec 12) (s : State) : State :=
  (forN 32 State.publish s).when (s.isReady ARB_STATUS_STATE) fun t =>
    (t.set ARB_ROUND_CYC_LAST cyc.toNat).set ARB_ROUND_CYC_MAX (max cyc.toNat (t.get ARB_ROUND_CYC_MAX))

/-! ### The start of an engine (R41, R107, R193, R335, R341) -/

/-- Points of the last run that have yet to leave the port: those of the frame that this Volley sends. -/
def Frame.count : Frame → Nat
  | .pts l => l.length
  | _ => 0

/-- Engine `b` starts at the present edge (R124, R125, R193). Its first budget window runs since the output merge before the edge
(R195); no word is fetched ahead. -/
def State.engStart (s : State) (b : Nat) (paused : Bool) : State :=
  let left := (s.beam b).cur.count
  let pp := s.ppos b
  let used := s.winLead + s.tstCycles 6 b
  let s := ((s.setWords b []).tstHit 6 b).modEng b fun e =>
    { e with
      hd := (s.beam b).hd, start := s.vnum, lost := 0, k := 0, ts := 0, te := 0, openEnd := false, seg := .none, segG := false,
      segPc := s.get (SCN_PC_PC b), prevP := pp, wob := none, ramp := none, dir := ⟨0, 0, 0⟩, ma := none, buf := [], last := none,
      emitted := e.placed - left, pendS := [], pendC := [], calls := [], loops := [],
      claims := e.claims.filter fun c => c.relAt.isSome, take := none, wait := .none, joined := false, stopped := false,
      halting := false, offAt := false, fillB := none, used := used, full := none, lit := false, first := true, paused := paused,
      holdReq := 0, ready := none }
  let s := s.modBeam b fun r => { r with sent := false }
  let s := ((s.setFlag (SCN_STATUS_RUN b) true).setFlag (SCN_STATUS_HALTED b) false).setWait b 0
  (((s.cleStarted b).calStart b).laserTest b).thHold

/-- SAFE and PARKED clear (R107). -/
def State.beamRestart (s : State) (b : Nat) : State :=
  (s.setFlag (BIO_STATUS_SAFE b) false).setFlag (BIO_STATUS_PARKED b) false

end Sys2Proof.Machine
end

