-- ==== Sys2Proof/Machine/Bus.lean ====
section
/-! DEFINITION. The register space as its paths see it (R562 to R569, R587 to R590): what every offset reads, what a read and a
write of it do, the snapshot, the test unlock, and the event recorder (R542 to R548). -/

namespace Sys2Proof.Machine

/-! ### What an offset reads (R11, R562) -/

/-- The position of a record (R542). -/
def recPos (k : Nat) : Nat := if k < 256 then k else 256 + (k - 256) % 768

/-- The bits of a record (R543). -/
def EvRec.bits (r : EvRec) : Nat :=
  let snaps := r.snaps.foldr (fun w acc => w.toNat + acc * 2 ^ 32) 0
  r.seq % 2 ^ 32 + r.id % 1024 * 2 ^ 32 + r.inst % 64 * 2 ^ 42 + r.rep % 65536 * 2 ^ 48 + r.volley % 2 ^ 64 * 2 ^ 64
    + r.lastv % 2 ^ 32 * 2 ^ 128 + r.arg.toNat * 2 ^ 160 + r.tns % 2 ^ 32 * 2 ^ 192 + r.snaps.length % 16 * 2 ^ 224
    + (if r.loss then 2 ^ 228 else 0) + snaps * 2 ^ 256

/-- The record at a position. -/
def State.record (s : State) (p : Nat) : Option EvRec := tabGet (fun _ => none) s.recs p

/-- Word `i` of the record that EVR_SEL selects (R547); a position never written reads 0. -/
def State.recWord (s : State) (i : Nat) : Word :=
  match s.record (recPos (s.rdN EVR_SEL)) with
  | some r => BitVec.ofNat 32 (r.bits / 2 ^ (32 * i))
  | none => 0

/-- Is any of the functions whose STATE fields these are in FAULT? -/
def State.anyFault (s : State) (fs : List Fld) : Bool := fs.any fun f => s.get f == stFAULT

/-- GLB_FAULT_SUM: bit i stands for row i of R562 (R578). -/
def State.faultSum (s : State) : Word :=
  let each (n : Nat) (f : Nat → Fld) : List Fld := (List.range n).map f
  let rows : List (List Fld) :=
    [[GLB_VOL_STATUS_STATE], [MGT_CMD_STATUS_STATE], [], [], each 12 LANE_STATUS_STATE,
     each 2 NET_STATUS_STATE ++ each 2 NET_PTP_STATUS_STATE, each 4 LNK_STATUS_STATE, each 4 TIM_TB_STATUS_STATE,
     each 2 MEM_M_STATUS_STATE, each 32 DMA_CH_STATUS_STATE, each 16 CMP_STATUS_STATE,
     [ARB_STATUS_STATE] ++ each 64 ARB_POOL_STATUS_STATE, each 32 SCN_STATUS_STATE, each 16 CLE_STATUS_STATE,
     each 32 BIO_STATUS_STATE ++ each 64 BIO_PD_STATUS_STATE, each 8 CAM_CP_STATUS_STATE ++ each 36 CAM_CTX_STATUS_STATE,
     each 8 MOT_AX_STATUS_STATE, each 8 PFB_QE_STATUS_STATE ++ each 4 PFB_EO_STATUS_STATE,
     each 12 LGT_LS_STATUS_STATE ++ each 2 LGT_LW_STATUS_STATE, [], [], []]
  BitVec.ofNat 32 (rows.foldr (fun fs acc => (if s.anyFault fs then 1 else 0) + 2 * acc) 0)

/-- SCNn_STACK follows the engine (R198). -/
def State.stackView (s : State) (b : Nat) : Word :=
  let e := s.eng b
  BitVec.ofNat 32 (e.calls.length + e.loops.length * 2 ^ 8 + e.claims.length * 2 ^ 16 + (if e.take.isSome then 2 ^ 20 else 0))

/-- TST_STATUS: the points that act (R587, R589). -/
def State.tstStatus (s : State) : Word :=
  let on := s.flag TST_STATUS_UNLOCKED
  let act := (List.range 8).foldl (fun acc k => if on && s.flag (TST_PT_CFG_EN k) then acc + 2 ^ (8 + k) else acc) 0
  BitVec.ofNat 32 (act + if on then 1 else 0)

/-- What a register of the GLB, MGT, EVR or TST block reads. -/
def State.viewTop (s : State) (off : Nat) : Word :=
  if off = GLB_FAULT_SUM then s.faultSum
  else if off = MGT_FUSE then s.fuseView
  else if 0x010620 ≤ off ∧ off < 0x010640 then s.jnlView ((off - 0x010620) / 4)
  else if off = EVR_D 0 then s.recWord 0
  else if off = TST_STATUS then s.tstStatus
  else s.rd off

/-- What a register of the LANE, NET, LNK, TIM or MEM block reads. -/
def State.viewNet (s : State) (off : Nat) : Word :=
  let n := off / 0x1000 % 0x10
  if off / 0x10000 = 4 ∧ off % 0x1000 = 0x10 ∧ n < 12 then s.rxEqView n
  else if off / 0x10000 = 5 ∧ n < 2 ∧ 0x500 ≤ off % 0x1000 ∧ (regDesc off).isSome then s.rxqView n ((off % 0x1000 - 0x500) / 4)
  else if off = LNK_ADDR then s.lnkAddrView
  else if off / 0x10000 = 7 ∧ off % 0x100 = 0x10 ∧ off < 0x070400 then BitVec.ofNat 32 (s.tb (off / 0x100 % 16)).ns
  else if off = MEM_M_CAP 0 then s.memCap 0
  else if off = MEM_M_CAP 1 then s.memCap 1
  else s.rd off

/-- What a register of the ARB block reads (R237). -/
def State.viewArb (s : State) (off : Nat) : Word :=
  let r := off - 0x0B0000
  let b := (r - 0x400) / 0x20
  let p := (r - 0x1000) / 0x40
  if off = ARB_SSTATE_DATA then s.sstateData
  else if off = ARB_TILE_QD then s.tileQ
  else if 0x400 ≤ r ∧ b < 32 ∧ r % 0x20 = 0 then s.beamArbStatus b
  else if 0x1000 ≤ r ∧ p < 64 ∧ r % 0x40 = 0x04 then s.poolStatus p
  else if 0x1000 ≤ r ∧ p < 64 ∧ r % 0x40 = 0x18 then BitVec.ofNat 32 (s.slotCount p slFREE + s.slotCount p slHELD * 2 ^ 16)
  else if 0x1000 ≤ r ∧ p < 64 ∧ r % 0x40 = 0x1C then BitVec.ofNat 32 (s.slotCount p slDONE + s.slotCount p slRETIRED * 2 ^ 16)
  else s.rd off

/-- What a register of the SCN, BIO or CAM block reads. -/
def State.viewBeam (s : State) (off : Nat) : Word :=
  if off / 0x40000 = 3 then
    let b := (off - 0x0C0000) / 0x2000
    if off = SCN_STACK b then s.stackView b else s.rd off
  else if off / 0x10000 = 0x11 ∧ off < 0x118000 then
    let b := (off - 0x110000) / 0x400
    if off = BIO_GRID_DATA_LO b then s.gridLo b else if off = BIO_GRID_DATA_HI b then s.gridHi b else s.rd off
  else if 0x122000 ≤ off ∧ off < 0x124400 ∧ off % 0x100 = 0x60 then
    if off < 0x124000 then ((s.ctx ((off - 0x122000) / 0x100)).rcd.getD []).getD 0 0 else 0
  else s.rd off

/-- The word at a byte of a window (R6). -/
def State.windowView (s : State) (off : Nat) : Word :=
  if off < 0x500000 then BitVec.ofNat 32 (leNat (memTake s.lmem off 4))
  else
    let k := (off - 0x500000) / 0x10000
    BitVec.ofNat 32 (leNat ((List.range 4).map fun i => s.traceByte k (off % 0x10000 + i)))

/-- What the word at `off` holds, as a read that changes nothing sees it (R17, R546, R563). -/
def State.view (s : State) (off : Nat) : Word :=
  if off % 4 ≠ 0 then 0
  else if 0x300000 ≤ off ∧ off < 0x600000 then s.windowView off
  else match off / 0x10000 with
    | 0x00 | 0x01 | 0x02 | 0x17 => s.viewTop off
    | 0x04 | 0x05 | 0x06 | 0x07 | 0x08 => s.viewNet off
    | 0x0B => s.viewArb off
    | 0x0C | 0x0D | 0x0E | 0x0F | 0x11 | 0x12 => s.viewBeam off
    | _ => s.rd off

/-! ### Reads (R563, R565) -/

/-- EVR_D0 is read: the selected record goes to the holding copy (R547). -/
def evrD0Read (s : State) : State := forN 16 (fun i t => t.wr (EVR_D i) (s.recWord i)) s

/-- What a read does (R565). -/
def State.readEffect (s : State) (off : Nat) : State :=
  if off = EVR_D 0 then evrD0Read s
  else if off / 0x10000 = 0x11 ∧ off < 0x118000 ∧ off % 0x400 = 0x24 then rdGridHi ((off - 0x110000) / 0x400) s
  else if 0x122000 ≤ off ∧ off < 0x124400 ∧ off % 0x100 = 0x60 then featRead ((off - 0x122000) / 0x100) s
  else if off / 0x10000 = 7 ∧ off % 0x100 = 0x10 ∧ off < 0x070400 then tbNsRead (off / 0x100 % 16) s
  else s

/-- A read of the register space: the word, and its effect; a misaligned one has no effect and gives 0 (R563). Before the fabric
accepts accesses, and where the read times out, it gives all ones (R564, R582). -/
def State.busRead (s : State) (off : Nat) : State × Word :=
  if !s.up then (s, 0xFFFFFFFF)
  else if off % 4 ≠ 0 then (s, 0)
  else if s.dark off then (s.fabTimeout off, 0xFFFFFFFF)
  else ((s.tstHit 9 0).readEffect off, s.view off)

/-- Carry out a read that has an effect of its own. -/
def runRead (f : State → State) (s : State) : Host.Outcome State Fault Refusal :=
  run (fun t => if t.up then f (t.tstHit 9 0) else t) s

/-! ### Writes to the GLB, MGT and TST blocks -/

/-- One take (R568, R569): every 64-bit counter, the Volley number and TB0, as they stand in `old`, the state before what else
happens in its cycle. -/
def State.takeOf (old s : State) : State :=
  let c (sn live : Nat) (t : State) : State := t.wr64 sn (old.rd64 live)
  let s := c GLB_VOL_NUM_SN_LO GLB_VOL_NUM_LO s
  let s := forN 32 (fun b t => c (SCN_ON_CNT_SN_LO b) (SCN_ON_CNT_LO b) (c (SCN_PT_CNT_SN_LO b) (SCN_PT_CNT_LO b) t)) s
  let s := forN 12 (fun l t =>
    c (LANE_PRBS_BITS_SN_LO l) (LANE_PRBS_BITS_LO l) (c (LANE_PRBS_ERR_SN_LO l) (LANE_PRBS_ERR_LO l) t)) s
  let r := old.tb 0
  ((s.wr64 GLB_SNAP_TSEC_LO r.sec).wr GLB_SNAP_TNS (BitVec.ofNat 32 r.ns)).wr GLB_SNAP_SEQ (old.rd GLB_SNAP_SEQ + 1)

/-- A take outside an edge (R568). -/
def State.take (s : State) : State := State.takeOf s s

/-- The takes among what happened in one cycle since `old` make one take, and it copies what stood before that cycle (R568, R569). -/
def State.oneTake (old s : State) : State := if s.rd GLB_SNAP_SEQ = old.rd GLB_SNAP_SEQ then s else State.takeOf old s

/-- A write of GLB_SNAP (R568). -/
def wrSnap (v : Word) (s : State) : State := s.when (bitOf v.toNat 0) State.take

/-- A write of GLB_SWRST (R580): the key schedules the reset. -/
def wrSwrst (v : Word) (s : State) : State := if v = 0x00005E7B#32 then { s with swrst := true } else s

/-- A write of GLB_DBLOG_RD (R62). -/
def wrDblogRd (v : Word) (s : State) : State := wrLogIndex GLB_DBLOG_RD GLB_DBLOG_WR 512 v s

/-- Writes of the GLB registers. -/
def wrGlbReg (off : Nat) (v : Word) (s : State) : State :=
  if off = GLB_VOL_CTRL then wrVolCtrl v s
  else if off = GLB_DBLOG_RD then wrDblogRd v s
  else if off = GLB_SNAP then wrSnap v s
  else if off = GLB_SWRST then wrSwrst v s
  else s.plainWrite off v

/-- A write of MGT_CMD_CTRL (R347): the command function is READY at once, and OFF once EN is clear. -/
def wrCmdCtrl (v : Word) (s : State) : State :=
  let s := s.plainWrite MGT_CMD_CTRL v
  s.set MGT_CMD_STATUS_STATE (if s.flag MGT_CMD_CTRL_EN then stREADY else stOFF)

/-- A write of MGT_CMD_GO (R320): GO submits the frame, unless one is under way. -/
def wrCmdGo (v : Word) (s : State) : State :=
  let s := s.plainWrite MGT_CMD_GO v
  if bitOf v.toNat 0 && !s.flag MGT_CMD_GO_BUSY then { s.setFlag MGT_CMD_GO_BUSY true with goPend := true } else s

/-- Writes of the MGT registers. -/
def wrMgtReg (off : Nat) (v : Word) (s : State) : State :=
  if off < 0x010400 then wrFwReg off v s
  else if off = MGT_CMD_CTRL then wrCmdCtrl v s
  else if off = MGT_CMD_GO then wrCmdGo v s
  else if off = MGT_JNL_MIR_HI then wrMirHi v s
  else s.plainWrite off v

/-- The test unlock ends (R588). -/
def State.tstLock (s : State) : State :=
  if s.flag TST_STATUS_UNLOCKED then
    let s := forN 8 (fun k t => t.setFlag (TST_PT_CFG_EN k) false) (s.setFlag TST_STATUS_UNLOCKED false)
    (s.wr TST_VPHASE 0).raise 0x381 0
  else s

/-- A write of TST_UNLOCK beyond the sequence, which every write passes (R587, R588). -/
def wrTstUnlock (v : Word) (s : State) : State := if v = 0 then s.tstLock else s

/-- Writes of the TST registers (R588, R590): the phase offset keeps to its range. -/
def wrTstReg (off : Nat) (v : Word) (s : State) : State :=
  if off = TST_UNLOCK then wrTstUnlock v s
  else if off = TST_VPHASE then s.wr TST_VPHASE (wordOf (clampI (-5000) 5000 v.toInt))
  else s.plainWrite off v

/-! ### Writes -/

/-- Store a word in a window (R6, R261): a CLE window takes no effect. -/
def State.windowWrite (s : State) (off : Nat) (v : Word) : State :=
  if off < 0x500000 then { s with lmem := memPut s.lmem off (leBytes 4 v.toNat) } else s

/-- The effect of a register write, by block (R562). -/
def State.writeBlock (s : State) (off : Nat) (v : Word) : State :=
  match off / 0x10000 with
  | 0x00 => wrGlbReg off v s
  | 0x01 => wrMgtReg off v s
  | 0x03 => wrCptReg off v s
  | 0x04 => wrLaneReg off v s
  | 0x05 => wrNetReg off v s
  | 0x06 => wrLnkReg off v s
  | 0x07 => wrTimReg off v s
  | 0x08 => wrMemReg off v s
  | 0x09 => wrDmaReg off v s
  | 0x0A => wrCmpReg off v s
  | 0x0B => wrArbReg off v s
  | 0x0C | 0x0D | 0x0E | 0x0F => wrScnReg ((off - 0x0C0000) / 0x2000) (off % 0x2000) off v s
  | 0x10 => wrCleReg off v s
  | 0x11 => if off < 0x118000 then wrBioReg ((off - 0x110000) / 0x400) (off % 0x400) off v s
            else if off % 0x40 = 0 ∧ off < 0x119000 then wrPdCfg ((off - 0x118000) / 0x40) v s
            else s.plainWrite off v
  | 0x12 => wrCamReg off v s
  | 0x13 => wrMotReg off v s
  | 0x14 => wrPfbReg off v s
  | 0x15 => wrLgtReg off v s
  | 0x16 => wrCalReg off v s
  | 0x17 => wrTstReg off v s
  | 0x18 => if off = SAF_ILK_REARM then wrIlkRearm v s else s.plainWrite off v
  | 0x20 | 0x21 => wrCourtMap ((off - 0x200000) / 4) v s
  | _ => s.plainWrite off v

/-- A write of one word to the register space (R563): a misaligned one has no effect, and an offset that no register occupies
takes none (R17); one that times out is discarded (R564). -/
def State.busWrite (s : State) (off : Nat) (v : Word) : State :=
  if !s.up || off % 4 != 0 then s
  else if s.dark off then s.fabTimeout off
  else
    let s := (s.tstHit 9 0).tstWatch off v
    if 0x300000 ≤ off ∧ off < 0x600000 then s.windowWrite off v
    else if (regDesc off).isNone then s
    else s.writeBlock off v

/-- FABRIC_TIMEOUT (R564): an access completes for want of an answer; a read gives all ones, a write is discarded. -/
def fabricTimeout (off : Nat) (write : Bool) (s : State) : State :=
  if s.fabricUp then (s.fabTimeout off).when (!write) fun t => t.emit (.timedOut off) else s

/-! ### The event recorder (R542 to R546) -/

/-- Does the recorder absorb the repeats of this event (R545)? -/
def evAbsorbs (id : Nat) : Bool :=
  [0x042, 0x058, 0x081, 0x100, 0x101, 0x102, 0x103, 0x104, 0x105, 0x106, 0x140, 0x148, 0x14F, 0x150, 0x181, 0x1C0, 0x1C1, 0x1CA,
   0x1CC, 0x1CD, 0x1CE, 0x206, 0x248, 0x340].contains id

/-- The snapshots of a record: those of the lowest enabled trigger whose range holds its identifier (R546). -/
def State.snapshots (s : State) (id : Nat) : List Word :=
  let hit (t : Nat) : Bool := s.flag (EVR_TRIG_EN t) && decide (s.get (EVR_TRIG_ID_LO t) ≤ id ∧ id ≤ s.get (EVR_TRIG_ID_HI t))
  match (List.range 16).find? hit with
  | none => []
  | some t => ((List.range 8).filter fun i => s.flag (EVR_TRIG_ADDR_EN t i)).map fun i =>
      let a := s.get (EVR_TRIG_ADDR_ADDR t i)
      if 0x200000 ≤ a then 0 else s.view a

/-- Put a record at a position. -/
def State.putRecord (s : State) (p : Nat) (r : EvRec) : State := { s with recs := tabSet (fun _ => none) s.recs p (some r) }

/-- A new record (R542, R543, R546). -/
def State.newRecord (s : State) (e : Ev) : State :=
  let k := s.rdN EVR_WR
  let r : EvRec := { seq := k, id := e.id, inst := e.inst, rep := 0, volley := e.volley, lastv := e.volley % 2 ^ 32, arg := e.arg,
                     tns := e.tns, loss := s.evLoss, snaps := s.snapshots e.id }
  State.bumpWrap { s.putRecord (recPos k) r with evLoss := false } EVR_WR

/-- EVENT_RECORD (R544, R545): the recorder takes one entry, and writes or absorbs it. -/
def eventRecord (s : State) : State :=
  match s.evq with
  | [] => s
  | e :: rest =>
    let s := { s with evq := rest }
    let k := s.rdN EVR_WR
    if k = 0xFFFFFFFF then s.bumpSat EVR_DROP
    else match s.record (recPos (k - 1)) with
      | some r =>
        if k ≠ 0 ∧ evAbsorbs e.id ∧ r.id = e.id ∧ r.inst = e.inst ∧ r.rep < 0xFFFF then
          s.putRecord (recPos (k - 1)) { r with rep := r.rep + 1, lastv := e.volley % 2 ^ 32 }
        else s.newRecord e
      | none => s.newRecord e

end Sys2Proof.Machine
end

