-- ==== Sys2Proof/Machine/Batch.lean ====
section
/-! DEFINITION. Batches (R329 to R341): the descriptor and its loader, arming, starting, holding, resuming and aborting, and the
commands for single beams. -/

namespace Sys2Proof.Machine

/-! ### The descriptor (R329 to R331) -/

/-- A field of the descriptor: `n` bytes at byte `a`. -/
def dscN (d : List Byte) (a n : Nat) : Nat := leNat (sub d a n)

/-- BEAMS of a descriptor (R329). -/
def dscBeams (d : List Byte) : List Nat := (List.range 32).filter (bitOf (dscN d 12 4))
/-- POOLS of a descriptor (R329). -/
def dscPools (d : List Byte) : List Nat := (List.range 64).filter (bitOf (dscN d 16 8))

/-- The first byte from `a` to `b - 1` that is not 0. -/
def nonZero (d : List Byte) (a b : Nat) : Option Nat := (List.range (b - a)).findSome? fun i =>
  if d.getD (a + i) 0 = 0 then none else some (a + i)

/-- A fault at byte `a` unless a condition holds. -/
def faultAt (ok : Bool) (a : Nat) : Option Nat := if ok then none else some a

/-- The first fault of the header (R329). -/
def headFault (d : List Byte) : List (Option Nat) :=
  [faultAt (dscN d 0 4 == 0x4B474231) 0, faultAt (dscN d 12 4 != 0) 12, nonZero d 29 64]

/-- The faults of the entry of beam `b` at byte `o` (R330). -/
def beamFault (d : List Byte) (o b : Nat) : List (Option Nat) :=
  let len := dscN d (o + 8) 4
  let dst := dscN d (o + 12) 2
  [faultAt (dscN d o 5 % 64 == 0) o, nonZero d (o + 5) (o + 8),
   faultAt (decide (len ≤ 65536) && len % 8 == 0 && decide (dst + len ≤ 65536)) (o + 8), faultAt (dst % 1024 == 0) (o + 12),
   faultAt (dscN d (o + 14) 1 == b) (o + 14), nonZero d (o + 15) (o + 16), faultAt (dscN d (o + 16) 2 % 8 == 0) (o + 16),
   nonZero d (o + 18) (o + 20), nonZero d (o + 34) (o + 36), faultAt (dscN d (o + 36) 3 != 0) (o + 36),
   nonZero d (o + 39) (o + 40), nonZero d (o + 56) (o + 64)]

/-- The faults of a pool entry at byte `o` (R331). -/
def poolFault (d : List Byte) (o : Nat) : List (Option Nat) :=
  let size := dscN d (o + 8) 2 % 8192
  let loaded := dscN d (o + 10) 2 % 8192
  [faultAt (dscN d o 2 % 4096 == 0) o, faultAt (decide (dscN d (o + 6) 1 < 2)) (o + 6), nonZero d (o + 7) (o + 8),
   faultAt (decide (1 ≤ size ∧ size ≤ 4096)) (o + 8), faultAt (decide (dscN d (o + 9) 1 < 32)) (o + 9),
   faultAt (decide (loaded ≤ size)) (o + 10), faultAt (decide (dscN d (o + 11) 1 < 32)) (o + 11), nonZero d (o + 12) (o + 16)]

/-- The byte offset of the first fault of a descriptor (R329 to R331, R333). -/
def dscFault (d : List Byte) : Option Nat :=
  let bs := dscBeams d
  let ps := dscPools d
  let beams := bs.zipIdx.flatMap fun x => beamFault d (64 + 64 * x.2) x.1
  let pools := ps.zipIdx.flatMap fun x => poolFault d (64 + 64 * bs.length + 16 * x.2)
  (headFault d ++ beams ++ pools).findSome? id

/-! ### The loader (R333) -/

/-- The load fails: earlier steps stay done. -/
def State.loadFail (s : State) (res det : Nat) : State :=
  match s.load with
  | none => s
  | some l =>
    let s := ((State.setBatch { s with load := none } 10).setFlag MGT_CMD_STATUS_LOAD_ERR true).raise 0x346 0
    s.jnlPut l.cmd 2 res det s.vnum

/-- Step 5 (R333). -/
def State.loadEnd (s : State) : State :=
  match s.load with
  | none => s
  | some l =>
    let d := l.desc
    let a := leNat ((frArgs l.cmd.frame).take 5)
    let s := { s with load := none, batchPools := dscN d 16 8, mapBad := false }
    let put (off v : Nat) (t : State) : State := t.wr off (BitVec.ofNat 32 v)
    let s := put MGT_BATCH_MASK (dscN d 12 4) (put MGT_BATCH_LAYER (dscN d 8 4) (put MGT_BATCH_ID (dscN d 4 4) s))
    let s := put MGT_BATCH_SAFE 0 (put MGT_BATCH_FAIL 0 (put MGT_BATCH_DESC_HI (a / 2 ^ 32) (put MGT_BATCH_DESC_LO a s)))
    let s := s.setBatch 2
    s.jnlPut l.cmd 2 rOK 0 s.vnum

/-- Set a pool up (R333 step 4). -/
def State.poolSetUp (s : State) (p : Nat) (d : List Byte) (o : Nat) : State :=
  let w (off v : Nat) (t : State) : State := t.busWrite off (BitVec.ofNat 32 v)
  let keep := dscN d (o + 6) 1 % 2
  let s := w (ARB_POOL_BASE_HI p) (dscN d (o + 4) 1) (w (ARB_POOL_BASE_LO p) (dscN d o 4) s)
  let s := w (ARB_POOL_LOADED p) (dscN d (o + 10) 2 % 8192) (w (ARB_POOL_SIZE p) (dscN d (o + 8) 2 % 8192) s)
  w (ARB_POOL_CTRL p) (1 + 2 * keep + 256 * dscN d (o + 5) 1) s

/-- Step 4 for the pools left, in ascending order, and then step 5; a pool that is not OFF is waited for. -/
def State.loadPools : List Nat → State → State
  | [], s => s.loadEnd
  | p :: rest, s =>
    match s.load with
    | none => s
    | some l =>
      let d := l.desc
      let k := ((dscPools d).filter (fun q => decide (q < p))).length
      let o := 64 + 64 * (dscBeams d).length + 16 * k
      let st := ARB_POOL_STATUS_STATE p
      let same := dscN d (o + 6) 1 % 2 == 1 && s.isReady st && (s.pool p).base == dscN d o 5
        && (s.pool p).size == dscN d (o + 8) 2 % 8192
      let next (t : State) : State := { t with load := some { l with pools := rest, edges := none } }
      if l.edges.isNone && same then State.loadPools rest (next s)
      else
        let s := if l.edges.isNone && !s.isOff st then
            s.busWrite (ARB_POOL_CTRL p) (s.rd (ARB_POOL_CTRL p) &&& ~~~1#32)
          else s
        if s.isOff st then State.loadPools rest (next (s.poolSetUp p d o))
        else { s with load := some { l with pools := p :: rest, edges := some (l.edges.getD 0) } }

/-- The loader's words reach local memory through the fabric (R563): they pass its perturbation point (R589), and the unlock sequence
sees them (R587). -/
def State.imageAccepted (s : State) (off len : Nat) : State :=
  s.when (s.tstArmed || s.flag TST_STATUS_UNLOCKED) fun t => forN (len / 4) (fun i u => u.accepted (off + 4 * i) 0) t

/-- The image and the start state of one beam (R333 step 2); false if its image did not arrive. -/
def State.loadBeam (s : State) (d : List Byte) (o b : Nat) : State × Bool :=
  let len := dscN d (o + 8) 4
  let dst := dscN d (o + 12) 2
  let s := s.wr64 (SCN_PAGE_LO b) 0
  let (s, ok) :=
    if len = 0 then (s, true)
    else
      let (t, st, img) := s.unitRead false (dscN d o 5) len
      if st = .ok then
        let first := dst / 1024
        let t := t.imageAccepted (lmOff b dst) len
        (({ t with lmem := memPut t.lmem (lmOff b dst) img }).pages b first ((dst + len - 1) / 1024 - first + 1), true)
      else (t, false)
  if !ok then (s, false)
  else
    let w (off v : Nat) (t : State) : State := t.busWrite off (BitVec.ofNat 32 v)
    let s := w (SCN_PZ b) (dscN d (o + 28) 4) (w (SCN_PY b) (dscN d (o + 24) 4) (w (SCN_PX b) (dscN d (o + 20) 4)
      (w (SCN_PC b) (dscN d (o + 16) 2) s)))
    let s := w (SCN_SP b) (dscN d (o + 36) 3) (w (SCN_PW b) (dscN d (o + 32) 2) s)
    let s := forN 16 (fun g t => w (SCN_G b g) (if g < 4 then dscN d (o + 40 + 4 * g) 4 else 0) t) s
    (w (SCN_FLAGS b) 0 s, true)

/-- Step 2 over the beams left. -/
def State.loadBeams (d : List Byte) : List (Nat × Nat) → State → State × Bool
  | [], s => (s, true)
  | (b, i) :: rest, s =>
    let (s, ok) := s.loadBeam d (64 + 64 * i) b
    if ok then State.loadBeams d rest s else (s, false)

/-- Steps 1 to 3 (R333). -/
def State.loadRun (s : State) (l : Load) : State :=
  let a := leNat ((frArgs l.cmd.frame).take 8)
  if a % 64 ≠ 0 then s.loadFail rDESC_ERR 0
  else
    let (s, st, head) := s.unitRead true a 64
    if st ≠ .ok then s.loadFail rMEM_ERR 0
    else
      let n := 64 * (dscBeams head).length + 16 * (dscPools head).length
      let (s, st, rest) := s.unitRead true (a + 64) n
      if st ≠ .ok then s.loadFail rMEM_ERR 0
      else
        let d := head ++ rest
        match dscFault d with
        | some o => s.loadFail rDESC_ERR o
        | none =>
          let (s, ok) := State.loadBeams d (dscBeams d).zipIdx s
          if !ok then s.loadFail rMEM_ERR 0
          else
            let ps := dscPools d
            let m := dscN d 24 5
            if m = 0 then State.loadPools ps { s with load := some { l with desc := d, pools := ps } }
            else
              let s := (s.busWrite ARB_MAP_LOAD_LO (BitVec.ofNat 32 m)).busWrite ARB_MAP_LOAD_HI (BitVec.ofNat 32 (m / 2 ^ 32))
              let s := s.busWrite ARB_MAP_LOAD_CTRL 1
              { s with load := some { l with desc := d, map := true, pools := ps } }

/-- BATCH_LOAD_DONE (R333): the loader has read the descriptor and the images; it goes on with the map and the pools, which it
may have to wait for. -/
def batchLoadDone (s : State) : State :=
  match s.load with
  | some l => if l.desc = [] then s.loadRun l else s
  | none => s

/-- MAP_LOAD_DONE (R207, R333, R334): an error concerns the Batch that has been loaded, and ends a load that waits for the copy. -/
def mapDone (got : Nat) (s : State) : State :=
  if !s.flag ARB_MAP_LOAD_CTRL_BUSY then s
  else
    let (s, ok) := State.mapLoadEnd got s
    let s := { s with mapBad := s.mapBad || !ok }
    match s.load with
    | some l =>
      if !l.map then s
      else if !ok then s.loadFail rMEM_ERR 0
      else State.loadPools l.pools { s with load := some { l with map := false } }
    | none => s

/-- A load that waits for a pool, at a Volley edge (R333 step 4): it goes on once the pool is OFF, and fails after two. -/
def State.loadEdge (s : State) : State :=
  match s.load with
  | some l =>
    match l.edges, l.pools with
    | some n, p :: _ =>
      let s := { s with load := some { l with edges := some (n + 1) } }
      if s.isOff (ARB_POOL_STATUS_STATE p) then State.loadPools l.pools s
      else if 2 ≤ n + 1 then s.loadFail rREFUSED 0xFFFFFFFF
      else s
    | _, _ => s
  | none => s

/-! ### Arming and starting (R334, R335) -/

/-- The beams of BEAMS. -/
def State.batchBeams (s : State) : List Nat := (List.range 32).filter s.inBatch

/-- The conditions of R334 that concern no single beam. -/
def State.armOk (s : State) : Bool :=
  s.volReady && s.isReady ARB_STATUS_STATE && !s.flag SAF_ILK_STATUS_FORCE && !s.mapBad
    && ((List.range 64).filter (bitOf s.batchPools)).all fun p => s.isReady (ARB_POOL_STATUS_STATE p)

/-- Is beam `b` ready to start (R334)? -/
def State.beamOk (s : State) (b : Nat) : Bool :=
  s.isReady (BIO_STATUS_STATE b) && s.isReady (SCN_STATUS_STATE b) && !s.running b
    && (!s.flag (BIO_STATUS_SAFE b) || s.flag (BIO_STATUS_PARKED b))

/-- The mask of a list of beams. -/
def maskOf (bs : List Nat) : Nat := bs.foldl (fun m b => m + 2 ^ b) 0

/-- The beams that fail R334. -/
def State.badBeams (s : State) : Nat := maskOf (s.batchBeams.filter fun b => !s.beamOk b)

/-- BATCH_ARM (R334). -/
def State.batchArm (s : State) : State × Reply :=
  let v := s.get MGT_BATCH_STATUS_STATE
  if v ≠ 2 ∧ v ≠ 3 then (s, .of rBAD_STATE)
  else if !s.armOk then (s, .of rREFUSED 0xFFFFFFFF)
  else if s.badBeams ≠ 0 then (s, .of rREFUSED s.badBeams)
  else (s.setBatch 3, .of rOK)

/-- BATCH_START at its edge (R335). -/
def State.batchStart (s : State) : State × Reply :=
  if s.get MGT_BATCH_STATUS_STATE ≠ 3 then (s, .of rBAD_STATE)
  else if !s.armOk || s.badBeams != 0 then
    let m := if s.armOk then s.badBeams else s.rdN MGT_BATCH_MASK
    let s := (s.wr MGT_BATCH_FAIL (BitVec.ofNat 32 m)).setFlag MGT_CMD_STATUS_START_FAIL true
    (s.raise 0x344 0, .of rFAILED m)
  else
    let start (t : State) (b : Nat) : State :=
      (((t.beamRestart b).wr (SCN_SLIP b) 0).set (SCN_DB_RUN_RUN b) 0).engStart b false
    let s := s.batchBeams.foldl start (s.wr64 MGT_BATCH_START_VOL_LO s.vnum)
    (s.setBatch 4, .of rOK)

/-! ### Hold, resume, abort (R336 to R338) -/

/-- BATCH_HOLD at its edge (R336). -/
def State.batchHold (s : State) (mode mx : Nat) : State × Reply :=
  if s.get MGT_BATCH_STATUS_STATE ≠ 4 then (s, .of rBAD_STATE)
  else
    let s := s.batchBeams.foldl (fun t b =>
      if t.running b then t.modEng b fun e => { e with holdReq := mode + 1, holdN := t.vnum, holdMax := mx } else t) s
    ((s.setBatch 5).holdUpdate, .of rOK)

/-- BATCH_RESUME at its edge (R337). -/
def State.batchResume (s : State) : State × Reply :=
  let v := s.get MGT_BATCH_STATUS_STATE
  if v ≠ 5 ∧ v ≠ 6 then (s, .of rBAD_STATE)
  else
    let s := s.batchBeams.foldl (fun t b => t.modEng b fun e => { e with paused := false, holdReq := 0 }) s
    (s.setBatch 4, .of rOK)

/-- BATCH_ABORT (R338). -/
def State.batchAbort (s : State) (mode : Nat) : State × Reply :=
  if s.get MGT_BATCH_STATUS_STATE = 3 then
    ((s.schedLeave (fun c => frOp c.frame == 0x12) rCANCELLED).setBatch 9, .of rOK)
  else if s.batchActive then
    let one (t : State) (b : Nat) : State :=
      if mode = 0 then t.ssRequest b 1
      else if t.running b && !(t.eng b).stopped then t.haltEng b 0xFFFF (max (t.eng b).used t.winLead)
      else if t.running b then t.modEng b fun e => { e with paused := false, holdReq := 0 }
      else t
    (s.batchBeams.foldl one (s.setBatch 9), .of rOK)
  else (s, .of rBAD_STATE)

/-! ### Single beams (R340, R341) -/

/-- SAFE_STOP at its edge (R340): DETAIL holds the beams that were not already in safe stop. -/
def State.safeStopCmd (s : State) (mask : Nat) : State × Reply :=
  let had (b : Nat) : Bool := s.flag (BIO_STATUS_SAFE b) || ((s.beam b).ssPend != 0 && !bitOf s.ssNow b)
  let bs := (List.range 32).filter fun b => bitOf mask b && !had b
  (bs.foldl (fun t b => t.ssRequest b 1) s, .of rOK (maskOf bs))

/-- BEAM_RESTART at its edge (R341). -/
def State.beamRestartCmd (s : State) (b start : Nat) : State × Reply :=
  let v := s.get MGT_BATCH_STATUS_STATE
  if start = 1 ∧ !s.inBatch b then (s, .of rBAD_ARG)
  else if start = 1 ∧ !(s.batchActive || v == 8) then (s, .of rBAD_STATE)
  else if s.flag SAF_ILK_STATUS_FORCE then (s, .of rREFUSED 0xFFFFFFFF)
  else if !s.flag (BIO_STATUS_PARKED b) || !s.isReady (BIO_STATUS_STATE b) then (s, .of rREFUSED (2 ^ b))
  else
    let s := s.beamRestart b
    if start = 1 then
      let s := s.when (s.isReady (SCN_STATUS_STATE b)) fun t => t.engStart b (v == 5 || v == 6)
      (s.when (v == 8) fun t => t.setBatch 4, .of rOK)
    else (s, .of rOK)

/-- BATCH_STATUS (R326): the registers MGT_BATCH_STATUS to MGT_BATCH_DESC_HI. -/
def State.batchStatusData (s : State) : List Byte :=
  (List.range 10).flatMap fun i => leBytes 4 (s.rdN (MGT_BATCH_STATUS + 4 * i))

end Sys2Proof.Machine
end

