-- ==== Sys2Proof/Machine/Commands.lean ====
section
/-! DEFINITION. The command function (R318 to R328, R342 to R345): acceptance, sequence numbers, duplicates, the meaning of every
opcode, timed and immediate commands at an edge, and command packets of Colud Link (R474, R475). -/

namespace Sys2Proof.Machine

/-! ### Opcodes and arguments (R326, R327) -/

/-- Argument word `i`. -/
def argW (f : List Byte) (i : Nat) : Nat := leNat (sub (frArgs f) (4 * i) 4)

/-- Is an opcode one of R326's table? -/
def opKnown (op : Nat) : Bool :=
  decide (1 ≤ op ∧ op ≤ 6) || decide (0x10 ≤ op ∧ op ≤ 0x16) || op == 0x20 || op == 0x21 || decide (0x30 ≤ op ∧ op ≤ 0x32)

/-- Can a command with this opcode be timed (R326)? -/
def opTimed (op : Nat) : Bool := op == 3 || op == 6 || decide (0x12 ≤ op ∧ op ≤ 0x15) || op == 0x20 || op == 0x21

/-- Can it be broadcast (R326)? -/
def opBcast (op : Nat) : Bool := (opTimed op && op != 0x21) || op == 0x32

/-- Does it act at an edge when it is not timed (R327)? -/
def opEdge (op : Nat) : Bool := opTimed op && op != 3 && op != 6

/-- Does it change nothing (R323)? -/
def opReads (op : Nat) : Bool := op == 1 || op == 2 || op == 4 || op == 0x16 || op == 0x31

/-- Are the arguments right in length and value (R326)? -/
def argsOk (f : List Byte) : Bool :=
  let n := frLen f
  let w := argW f
  match frOp f with
  | 0x02 => n == 8 && decide (1 ≤ w 1 ∧ w 1 ≤ 64)
  | 0x03 => decide (8 ≤ n ∧ n ≤ 512) && n % 8 == 0
  | 0x04 => n == 12 && decide (w 1 < 256) && decide (4 ≤ w 2 ∧ w 2 ≤ 960) && w 2 % 4 == 0
  | 0x05 => decide (12 ≤ n ∧ n ≤ 984) && decide (w 1 < 256)
  | 0x10 => n == 8 && decide (w 1 < 256)
  | 0x13 => n == 8 && decide (w 0 ≤ 1) && decide (1 ≤ w 1 ∧ w 1 ≤ 65535)
  | 0x15 => n == 4 && decide (w 0 ≤ 1)
  | 0x20 => n == 4
  | 0x21 => n == 8 && decide (w 0 ≤ 31) && decide (w 1 ≤ 1)
  | 0x30 => n == 8
  | 0x31 => n == 8 && decide (1 ≤ w 1 ∧ w 1 ≤ 30)
  | _ => n == 0

/-- Why a frame is rejected whatever the state is (R326), 0 if it is not. -/
def cmdCheck (f : List Byte) : Nat :=
  let op := frOp f
  if !opKnown op then rBAD_OPCODE
  else if (frTimed f && !opTimed op) || (frBcast f && !opBcast op) || !argsOk f then rBAD_ARG
  else 0

/-! ### What the opcodes do (R326) -/

/-- Words as bytes. -/
def wordsOf (l : List Nat) : List Byte := l.flatMap (leBytes 4)

/-- READ_REG (R326): registers from an address upward, with the effects of the reads. -/
def State.readRegs (s : State) (a : Nat) : Nat → State × List Byte
  | 0 => (s, [])
  | n + 1 =>
    let (t, w) := s.busRead (a % 2 ^ 32)
    let (t, rest) := State.readRegs t (a + 4) n
    (t, leBytes 4 w.toNat ++ rest)

/-- WRITE_REG (R326): pairs written in order. -/
def State.writeRegs (s : State) (f : List Byte) : State :=
  (List.range (frLen f / 8)).foldl (fun t i => t.busWrite (argW f (2 * i)) (BitVec.ofNat 32 (argW f (2 * i + 1)))) s

/-- CANCEL (R327): the queued command with that SOURCE and SEQ leaves the queue. -/
def State.cancelCmd (s : State) (src seq : Nat) : State × Reply :=
  let p (c : QCmd) : Bool := c.src == src && frSeq c.frame == seq
  if s.sched.any p then (s.schedLeave p rCANCELLED, .of rOK) else (s, .of rNOT_FOUND)

/-- JOURNAL_READ (R345). -/
def State.journalData (s : State) (i n : Nat) : List Byte :=
  (List.range n).flatMap fun k => leBytes 32 (s.jnlAt ((i + k) % 2 ^ 32)).toNat

/-- What a command does (R326), BATCH_LOAD apart. -/
def State.doOp (s : State) (f : List Byte) : State × Reply :=
  let w := argW f
  let addr := w 0 + w 1 % 256 * 2 ^ 32
  match frOp f with
  | 0x01 =>
    (s, ⟨rOK, 0, wordsOf [(s.view GLB_IDENT).toNat, s.get LNK_ADDR_ADDR, s.rdN GLB_VOL_NUM_LO, s.rdN GLB_VOL_NUM_HI]⟩)
  | 0x02 => let (t, d) := s.readRegs (w 0) (w 1); (t, ⟨rOK, 0, d⟩)
  | 0x03 => (s.writeRegs f, .of rOK (frLen f / 8))
  | 0x04 =>
    let (t, st, d) := s.unitRead true addr (w 2)
    (t, if st = .ok then ⟨rOK, 0, d⟩ else .of rMEM_ERR)
  | 0x05 =>
    let (t, st) := s.unitWrite true addr ((frArgs f).drop 8)
    (t, .of (if st = .ok then rOK else rMEM_ERR))
  | 0x06 => (s.take, .of rOK)
  | 0x11 => s.batchArm
  | 0x12 => s.batchStart
  | 0x13 => s.batchHold (w 0) (w 1)
  | 0x14 => s.batchResume
  | 0x15 => s.batchAbort (w 0)
  | 0x16 => (s, ⟨rOK, 0, s.batchStatusData⟩)
  | 0x20 => s.safeStopCmd (w 0)
  | 0x21 => s.beamRestartCmd (w 0) (w 1)
  | 0x30 => s.cancelCmd (w 0) (w 1)
  | 0x31 => (s, ⟨rOK, 0, s.journalData (w 0) (w 1)⟩)
  | _ => (s, .of rOK)

/-! ### Acceptance (R322 to R324, R343) -/

/-- Is a result a rejection (R328, R342)? -/
def isReject (r : Nat) : Bool := decide (rBAD_OPCODE ≤ r ∧ r ≤ rNOT_READY)

/-- A journal entry for the outcome, and the response (R325, R343): a rejection carries the Volley at acceptance (R342). -/
def State.answer (s : State) (c : QCmd) (r : Reply) : State :=
  let v := if isReject r.result then c.at_ else s.vnum
  let i := s.rdN MGT_JNL_WR
  (s.jnlPut c 0 r.result r.detail v).respond c r i v

/-- A command acts, and is answered. -/
def State.actNow (s : State) (c : QCmd) : State :=
  let (t, r) := s.doOp c.frame
  t.answer c r

/-- A QUEUED entry and its response (R325, R343). -/
def State.answerQueued (s : State) (c : QCmd) : State :=
  let i := s.rdN MGT_JNL_WR
  (s.jnlPut c 1 rQUEUED 0 (frAt c.frame)).respond c (.of rQUEUED) i (frAt c.frame)

/-- Pairs of the timed WRITE_REG commands for a Volley (R327). -/
def State.pairsAt (s : State) (v : Nat) : Nat :=
  ((s.sched.filter fun c => frOp c.frame == 3 && frAt c.frame == v).map fun c => frLen c.frame / 8).sum

/-- Why a timed command is not queued (R53, R327), 0 if it is: NOT_READY comes first (DEDUCED: assumption 35). -/
def State.schedCheck (s : State) (f : List Byte) : Nat :=
  let a := s.vnum
  let n := frAt f
  if !s.volReady then rNOT_READY
  else if n < a + 2 then rTOO_LATE
  else if a + 4294967295 < n then rTOO_FAR
  else if 64 ≤ s.sched.length then rQUEUE_FULL
  else if frOp f = 3 ∧ 256 < s.pairsAt n + frLen f / 8 then rQUEUE_FULL
  else 0

/-- A timed command is queued or rejected (R53, R54). -/
def State.schedule (s : State) (c : QCmd) : State :=
  let r := s.schedCheck c.frame
  if r ≠ 0 then (s.raise 0x341 0).answer c (.of r)
  else State.answerQueued (State.schedShow { s with sched := s.sched ++ [c] }) c

/-- BATCH_LOAD (R333): it cancels a queued BATCH_START, and the loader starts. -/
def State.batchLoad (s : State) (c : QCmd) : State :=
  let v := s.get MGT_BATCH_STATUS_STATE
  if v = 1 ∨ s.batchActive ∨ s.anyRunning then s.answer c (.of rBAD_STATE)
  else
    let s := s.answerQueued c
    let s := (s.schedLeave (fun x => frOp x.frame == 0x12) rCANCELLED).setBatch 1
    { s with load := some { cmd := c, desc := [], map := false, pools := [], edges := none } }

/-- A frame whose sequence number is new, or a SESSION, is carried out (R326, R327, R338). An immediate command that acts at an edge
is rejected at once where its state conditions do not hold (R332, R341; DEDUCED: assumption 112). -/
def State.execute (s : State) (c : QCmd) : State :=
  let f := c.frame
  let bad := cmdCheck f
  if bad ≠ 0 then s.answer c (.of bad)
  else if frTimed f then s.schedule c
  else if frOp f = 0x15 ∧ s.get MGT_BATCH_STATUS_STATE = 3 then s.actNow c
  else if opEdge (frOp f) then
    let r := (s.doOp f).2
    if isReject r.result then s.answer c r else { s with imm := s.imm ++ [(s.dueIn, c)] }
  else if frOp f = 0x10 then s.batchLoad c
  else s.actNow c

/-- The latest journal entry of a source and a SEQ (R323); broadcasts go by their own sequence (DEDUCED: assumption 32). -/
def State.entryOf (s : State) (c : QCmd) : Option (BitVec 256) :=
  let b := frBcast c.frame
  let age (e : BitVec 256) : Nat := (s.rdN MGT_JNL_WR + 2 ^ 32 - 1 - jnlF e 224 32) % 2 ^ 32
  let hit (e : BitVec 256) : Bool :=
    (b || jnlF e 112 4 == c.src) && (jnlF e 118 1 == 1) == b && jnlF e 64 32 == frSeq c.frame
  s.jnl.foldl (fun acc x =>
    if hit x.2 then match acc with
      | some e => if age x.2 < age e then some x.2 else acc
      | none => some x.2
    else acc) none

/-- A DUPLICATE (R323): it writes no entry. -/
def State.duplicate (s : State) (c : QCmd) : State :=
  let (s, e) := match s.entryOf c with
    | some e => (s, e)
    | none => ({ s with fresh := s.fresh + 1 }, Config.noEntry s.fresh)
  let i := jnlF e 224 32
  let v := jnlF e 0 64
  if opReads (frOp c.frame) && cmdCheck c.frame == 0 then
    let (t, r) := s.doOp c.frame
    t.respond c { r with result := rDUPLICATE } i v
  else
    let d := jnlF e 192 32 / 2 ^ 16 * 2 ^ 16 + jnlF e 160 16
    s.respond c (.of rDUPLICATE d) i v

/-- A frame that passed the checks of R321 is accepted (R322). -/
def State.accept (s : State) (c : QCmd) : State :=
  let s := s.bumpWrap MGT_CMD_ACC_CNT
  let c := { c with at_ := s.vnum }
  let f := c.frame
  let reg := MGT_SEQ (if frBcast f then 8 else c.src)
  let l := s.rdN reg
  let d := (frSeq f + 2 ^ 32 - l) % 2 ^ 32
  if frOp f = 0x32 then (s.wr reg (BitVec.ofNat 32 (frSeq f))).execute c
  else if d = 0 then s.duplicate c
  else if 2 ^ 31 ≤ d then ((s.bumpSat MGT_CMD_STALE_CNT).raise 0x342 0).answer c (.of rSTALE_SEQ l)
  else (s.wr reg (BitVec.ofNat 32 (frSeq f))).execute c

/-! ### Sources and broadcasts (R318 to R321, R474, R475) -/

/-- Copies of a broadcast go to every ACTIVE downstream port; a copy that would cross more than 32 links is dropped (R474; DEDUCED:
assumption 118). -/
def State.copyDown (s : State) (k : LnkPkt) : State :=
  [1, 2, 3].foldl (fun t p => t.when (t.lnkActive p) fun u =>
    if 32 < k.hops.toNat then u.unreach else u.lnkSend p (.pkt k) none) s

/-- A frame arrives from a source (R318, R319, R321): a broadcast from E0, E1 or REG travels the chain. -/
def State.frameIn (s : State) (c : QCmd) : State :=
  let f := c.frame
  if !s.accepts c.src f then s.badFrame.when (c.src == 6) fun t => t.goDone []
  else if frBcast f && s.flag LNK_ADDR_VALID && (decide (c.src < 2) || c.src == 6) then
    let k : LnkPkt :=
      { ty := 3, host := false, hops := 0, dest := 0,
        src := BitVec.ofNat 16 (s.get LNK_ADDR_ADDR), tag := 0, payload := f }
    if s.chainRoot then ((s.accept { c with pkt := some k }).copyDown k).when (c.src == 6) fun t => t.goDone []
    else (s.lnkSend 0 (.pkt k) none).when (c.src == 6) fun t => t.goDone []
  else s.accept c

/-- Is the frame one for this device (R319)? Before Kickoff E0, E1 and REG alone are heard. -/
def State.forMe (s : State) (src : Nat) (f : List Byte) : Bool :=
  src == 6 || (if s.flag LNK_ADDR_VALID then frBcast f || frTarget f == s.get LNK_ADDR_ADDR else decide (src < 2))

/-- The bytes of MGT_CMD_BUF that make a frame (R320). -/
def State.bufFrame (s : State) : List Byte :=
  let b := (List.range 256).flatMap fun i => leBytes 4 (s.rdN (MGT_CMD_BUF i))
  b.take (32 + leNat (sub b 12 2))

/-- A frame submitted through MGT_CMD_GO is dealt with once the command before it has been (R320, R324). -/
def State.serve (s : State) : State :=
  if s.goPend then
    let s := { s with goPend := false }
    s.frameIn { src := 6, frame := s.bufFrame, pkt := none, peer := none }
  else s

/-- The command frame in what arrives from a source, and who sent it (R318). -/
def State.frameOf (s : State) (src : Nat) (x : List Byte) : Option (Option EthPeer × List Byte) :=
  if src < 2 then (s.cmdFrame src x).map fun y => (some y.1, y.2) else some (none, x)

/-- A frame of the command function's table arrives: `op` says which opcodes the row stands for, and `x` is what arrives. -/
def State.cmdRow (s : State) (op : Nat → Bool) (src : Nat) (x : List Byte) : State :=
  let s := s.when (decide (src < 2)) fun t => t.ethFar src x
  match s.frameOf src x with
  | none => s.ethTake src none
  | some (peer, f) =>
    let c : QCmd := { src := src, frame := f, pkt := none, peer := peer }
    if s.accepts src f && (!op (frOp f) || !s.forMe src f) then s
    else if src < 2 then s.ethTake src (some fun t => t.frameIn c)
    else if src = 6 then
      (if s.flag MGT_CMD_GO_BUSY then s else ((s.bufPut (f.take 1024)).setFlag MGT_CMD_GO_BUSY true).frameIn c)
    else s.frameIn c

/-- A command row; what a write of MGT_CMD_GO submits is dealt with at the end (R320). -/
def cmdStep (op : Nat → Bool) (src : Nat) (x : List Byte) (s : State) : State := if s.up then (s.cmdRow op src x).serve else s

/-- Carry out a command row. -/
def runCmd (op : Nat → Bool) (src : Nat) (x : List Byte) (s : State) : Host.Outcome State Fault Refusal := run (cmdStep op src x) s

/-- CMD (R474, R475). -/
def cmdPacket (p : Nat) (blocks : List LnkBlock) (s : State) : State :=
  s.receive p 1 blocks fun k t =>
    if !t.flag LNK_ADDR_VALID then t.unreach.lnkFree (some p) (.pkt k)
    else match t.route k (some p) with
      | .port q => t.forward q k (some p)
      | .none => t.unreach.lnkFree (some p) (.pkt k)
      | .here =>
        let t := t.lnkFree (some p) (.pkt k)
        if t.forMe (2 + p) k.payload then (t.frameIn { src := 2 + p, frame := k.payload, pkt := some k, peer := none }).serve else t

/-- BCAST (R319, R474): up to the root; from there down, and executed on the way. -/
def bcastPacket (p : Nat) (blocks : List LnkBlock) (s : State) : State :=
  s.receive p 3 blocks fun k t =>
    if p ≠ 0 ∧ !t.chainRoot then t.forward 0 k (some p)
    else
      let t := t.frameIn { src := 2 + p, frame := k.payload, pkt := some k, peer := none }
      ((t.copyDown { k with hops := k.hops + 1 }).lnkFree (some p) (.pkt k)).serve

/-! ### Commands at an edge (R52 to R55, R327, R343) -/

/-- One timed command takes effect at the edge of Volley `v`, if it is still queued. -/
def State.timedOne (v : Nat) (s : State) (c : QCmd) : State :=
  if s.sched.contains c then
    let s := State.schedShow { s with sched := s.sched.erase c }
    let (t, r) := s.doOp c.frame
    t.jnlPut c 2 r.result r.detail v
  else s

/-- The timed commands for Volley `v`, in order (R54). -/
def State.timedEdge (v : Nat) (s : State) : State :=
  (s.sched.filter fun c => frAt c.frame == v).foldl (State.timedOne v) s

/-- The immediate commands that fall due at an edge (R54, R55). -/
def State.immEdge (s : State) : State :=
  let due := s.imm.filter fun x => decide (x.1 ≤ 1)
  let s := { s with imm := (s.imm.filter fun x => decide (1 < x.1)).map fun x => (x.1 - 1, x.2) }
  due.foldl (fun t x => t.actNow x.2) s

/-- The commands of the edge of Volley `v`. What they write falls into the cycle in which the engines that they start start: those
writes of R73, R123 and R206 are refused, whatever the order of the commands (DEDUCED: assumption 106). -/
def State.edgeCmds (v : Nat) (s : State) : State :=
  let t := (s.timedEdge v).immEdge
  let m := maskOf ((List.range 32).filter fun b => (t.eng b).first)
  if m = 0 then t else { (State.timedEdge v { s with starting := m }).immEdge with starting := 0 }

/-! ### Edges (R24, R25, R29, R31, R32) -/

/-- The block's own work at the edge that begins Volley `v` (R32), and its layer triggers. -/
def State.edgeWork (v : Nat) (first : Bool) (s : State) : State :=
  forN 4 (State.trigEdge v) ((State.volMeasure first (s.wr64 GLB_VOL_NUM_LO v)).tickWork)

/-- Counters that the work of an edge raises: IDLE of a beam, and the rework records dropped (R223, R233). -/
def edgeCounter (off : Nat) : Bool := off == ARB_RWLOG_DROP || (List.range 32).any fun b => off == ARB_BEAM_IDLE b

/-- The offsets that the timed WRITE_REG commands for Volley `v` write, once each. -/
def State.timedOffs (s : State) (v : Nat) : List Nat :=
  ((s.sched.filter fun c => frOp c.frame == 3 && frAt c.frame == v).flatMap fun c =>
    (List.range (frLen c.frame / 8)).map fun i => argW c.frame (2 * i)).eraseDups

/-- The part of a register that hardware adds to in the cycle of a write: the W1C bits, or all of a counter (R570). -/
def edgeKeep (off : Nat) : Word :=
  if edgeCounter off then 0xFFFFFFFF else match regDesc off with
    | some d => BitVec.ofNat 32 d.w1c
    | none => 0

/-- What the work of the edge adds to the registers that the commands of the edge write: the W1C bits that it sets, and the counts by
which it raises counters (R570). It is the work from those bits and counters at 0. -/
def State.edgeAdds (v : Nat) (first : Bool) (s : State) : List (Nat × Word) :=
  match s.timedOffs v with
  | [] => []
  | offs =>
    let bare := (offs.foldl (fun t o => t.wr o (t.rd o &&& ~~~(edgeKeep o))) s).edgeWork v first
    offs.map fun o => (o, bare.rd o &&& edgeKeep o)

/-- A write and a hardware update of one cycle (R570): a W1C bit that hardware sets reads 1, and a saturating counter holds the
written value plus the increment. -/
def State.edgeAdd (s : State) (x : Nat × Word) : State :=
  if edgeCounter x.1 then s.wr x.1 (BitVec.ofNat 32 (min 0xFFFFFFFF (s.rdN x.1 + x.2.toNat))) else s.wr x.1 (s.rd x.1 ||| x.2)

/-- The edge that begins Volley `v` (R32): the work of the edge, its layer triggers, its commands, and the armed bank switches that
none of these has overtaken (R255). -/
def State.edge (v : Nat) (first : Bool) (s : State) : State :=
  let s := { s with winLead := if first then 400 else leadCycles s.volLen }
  let adds := s.edgeAdds v first
  let s := s.edgeWork v first
  let stop := s.volStopDue
  let arms := (List.range 32).map (s.bankArmed v)
  let s := (State.oneTake s (State.coincide (fun t => adds.foldl State.edgeAdd (t.edgeCmds v)) s)).arbiterRound
  let s := forN 32 (fun b t => t.bankEdge (arms.getD b false) b) s
  let s := s.when stop fun t => { t.ssRequestRunning 0xC with volStop := true }
  (s.batchEdge.volOffCheck.loadEdge).serve

/-- VOLLEY_EDGE (R24, R32). -/
def volleyEdge (s : State) : State := if s.volEdges then State.edge ((s.vnum + 1) % 2 ^ 64) false s else s

/-- LOCAL_TICK (R31): only while the generator makes no edges. -/
def localTick (s : State) : State :=
  if s.volEdges then s
  else
    let s := State.tickWork { s with winLead := 400 }
    let s := (State.oneTake s (State.coincide State.immEdge s)).arbiterRound
    ((forN 32 (State.bankEdge false) s).batchEdge.loadEdge).serve

/-- VOL_LOCK (R25, R28, R29): the generator's first edge. -/
def volLock (s : State) : State :=
  if s.get GLB_VOL_STATUS_STATE = stSTARTING && (s.volLocal || (s.isReady (TIM_TB_STATUS_STATE 0) && s.flag (TIM_TB_STATUS_VALID 0))) then
    let v := if s.volLocal then 0 else s.edgeErr.2
    let s := (s.set GLB_VOL_STATUS_STATE stREADY).wr64 GLB_VOL_NUM_LO v
    let s := s.when (!s.volLocal) fun t => (t.setFlag GLB_VOL_STATUS_LOCK true).raise 0x040 0
    let s := s.schedLeave (fun c => decide (frAt c.frame ≤ v)) rEXPIRED
    State.edge v true (forN 32 (fun b t => t.beamTryReady b) s)
  else s

/-- POINT_SLOT, and what the end of a safe stop lets the generator do (R30, R34). -/
def pointSlotRow (j : Nat) (s : State) : State := (pointSlot j s).volOffCheck

end Sys2Proof.Machine
end

