-- ==== Sys2Proof/Machine/Pins.lean ====
section
/-! DEFINITION. The balls of the package (R596 to R598) and the boundary cells of the test access port (R618). -/

namespace Sys2Proof.Machine

/-- The supply rails that balls carry (R597, R600). -/
inductive Rail where
  | core | io | ana | mphy | srd09 | srd12 | vss | vssLs | lsSns
  deriving DecidableEq, Repr

/-- The items of R598, each with the position of a ball within it. -/
inductive PinItem where
  | beam (b : Nat)
  | ddr (m : Nat)
  | csi (p : Nat)
  | camTrig
  | position
  | lane (l : Nat)
  | refclk156
  | axis (a : Nat)
  | sinkBalls
  | lampWires
  | system
  deriving DecidableEq, Repr

/-- What a ball is: a signal of an item, or a supply. -/
inductive Ball where
  | signal (i : PinItem) (k : Nat)
  | supply (r : Rail)
  deriving DecidableEq, Repr

/-- A ring ball: not in the 31 x 31 core (R597). -/
def inRing (i j : Nat) : Bool := !(decide (13 ≤ i ∧ i ≤ 43) && decide (13 ≤ j ∧ j ≤ 43))

/-- A ring ball that the pattern makes VSS (R597). -/
def patternVss (i j : Nat) : Bool := i % 2 == 0 && j % 2 == 0

/-- How many of `a` to `a + n - 1` are even. -/
def evens (a n : Nat) : Nat := (a + n + 1) / 2 - (a + 1) / 2

/-- Allocated balls in the first `n` places, from `a` on, of a line with index `i`: pattern VSS balls are skipped (R598). -/
def lineCount (i a n : Nat) : Nat := if i % 2 = 0 then n - evens a n else n

/-- The rank of a ball within its region, in the order of R598: `lines` the lines allocated before its own, `a` and `n` the first
place and the length of a line, `k` the ball's place. -/
def ballRank (lines : List Nat) (i a n k : Nat) : Nat := (lines.map fun l => lineCount l a n).sum + lineCount i a (k - a)

/-- Balls of `n` items of `size` balls from item `first` on, then what follows. -/
def items (mk : Nat → PinItem) (first n size : Nat) (rest : Nat → Ball) (r : Nat) : Ball :=
  if r < n * size then .signal (mk (first + r / size)) (r % size) else rest (r - n * size)

/-- A run of supply balls, then what follows. -/
def rails (n : Nat) (x : Rail) (rest : Nat → Ball) (r : Nat) : Ball := if r < n then .supply x else rest (r - n)

/-- The last run of supplies of a region. -/
def rail (x : Rail) (_ : Nat) : Ball := .supply x

/-- The region of a ring ball: 0 north, 1 middle, 2 south by its row; the same by its column (R597). -/
def third (i : Nat) : Nat := if i < 13 then 0 else if i ≤ 43 then 1 else 2

/-- The ball of rank `r` in a region (R597, R598). -/
def regionBall (rowT colT r : Nat) : Ball :=
  match rowT, colT with
  | 0, 1 => items .beam 0 16 14 (rails 30 .io (rail .ana)) r
  | 2, 1 => items .beam 16 16 14 (rails 30 .io (rail .ana)) r
  | 1, 0 => items .ddr 0 1 169 (items (fun _ => .system) 0 1 38 (rails 48 .mphy (rails 12 .io (rail .vss)))) r
  | 1, 2 => items .ddr 1 1 169 (rails 48 .mphy (rail .vss)) r
  | 0, 0 => items .csi 0 4 12 (items (fun _ => .camTrig) 0 1 4 (rails 12 .ana (rails 4 .io (rail .vss)))) r
  | 0, 2 => items .csi 4 4 12 (items (fun _ => .position) 0 1 52 (rail .io)) r
  | 2, 0 => items .lane 0 12 4 (items (fun _ => .refclk156) 0 1 2 (rails 24 .srd09 (rails 16 .srd12 (rail .vss)))) r
  | _, _ => items .axis 0 8 6 (items (fun _ => .sinkBalls) 0 1 24 (items (fun _ => .lampWires) 0 1 2
      (rails 24 .vssLs (rails 2 .lsSns (rail .ana))))) r

/-- First index and length of a third of the rows or columns. -/
def thirdSpan : Nat → Nat × Nat
  | 0 => (1, 12)
  | 1 => (13, 31)
  | _ => (44, 12)

/-- The ball in row `i`, column `j`, both 1 to 55 (R596 to R598): in a north region rows count from A inward, in a south region
from BV inward; west and east regions go by columns, from column 1 and from column 55. -/
def ballAt (i j : Nat) : Ball :=
  if !inRing i j then (if (i + j) % 2 = 0 then .supply .core else .supply .vss)
  else if patternVss i j then .supply .vss
  else
    let (a, n) := thirdSpan (third j)
    let r :=
      if third i = 0 then ballRank ((List.range 12).map (· + 1) |>.filter (· < i)) i a n j
      else if third i = 2 then ballRank ((List.range 12).map (· + 44) |>.filter (i < ·)) i a n j
      else if third j = 0 then ballRank ((List.range 12).map (· + 1) |>.filter (· < j)) j 13 31 i
      else ballRank ((List.range 12).map (· + 44) |>.filter (j < ·)) j 13 31 i
    regionBall (third i) (third j) r

/-- Has the ball a boundary cell: is it a 1.8 V digital ball (R611, R618)? The cells of LI_DACn are there too, and the five balls
of the port itself have none (assumption 40). -/
def hasCell : Ball → Bool
  | .signal (.beam _) k => decide (k ≤ 9)
  | .signal (.csi _) k => decide (10 ≤ k)
  | .signal (.ddr _) k => k == 166
  | .signal .camTrig _ | .signal .position _ | .signal .lampWires _ => true
  | .signal (.axis _) k => decide (k < 4)
  | .signal .system k => decide (k < 22) || k == 27 || k == 28
  | _ => false

/-- The cells of LI_GATEn and LI_DACn only observe (R618). -/
def observeOnly : Ball → Bool
  | .signal (.beam _) k => k == 6 || k == 9
  | _ => false

/-- The ball of a cell: cells are numbered by ball, row by row. -/
def cellBall (c : Nat) : Ball := if c < 3025 then ballAt (c / 55 + 1) (c % 55 + 1) else .supply .vss

/-- Can EXTEST drive this cell's ball? -/
def cellDrives (c : Nat) : Bool := hasCell (cellBall c) && !observeOnly (cellBall c)

end Sys2Proof.Machine
end

