-- ==== Sys2Proof/Machine/Edge.lean ====
section
/-! DEFINITION. The edge of the device: the plain register write and the SPI target port (R563, R616), the test access port
(R618), the device resets (R579 to R583, R603, R610) and the start of the fabric (R582). -/

namespace Sys2Proof.Machine

/-! ### Register accesses from outside (R563, R616) -/

/-- REGISTER_WRITE (R563, R570): one word written on the management path; a frame that it submits is then taken (R320). `same`: it
falls into the cycle of a hardware update (R196, R255, R260). -/
def registerWrite (off : Nat) (v : Word) (same : Bool) (s : State) : State :=
  let f (t : State) : State := t.busWrite off v
  (if same then s.coincide f else f s).serve

/-- Write words of four bytes each at rising offsets (R616). -/
def State.spiWrite (s : State) (off : Nat) : List Byte → State
  | a :: b :: c :: d :: rest =>
    State.spiWrite ((s.busWrite off (BitVec.ofNat 32 (beNat [a, b, c, d]))).serve) ((off + 4) % 2 ^ 24) rest
  | _ => s

/-- Read `n` words at rising offsets: the state and the bytes sent (R616). -/
def State.spiRead (s : State) (off : Nat) : Nat → State × List Byte
  | 0 => (s, [])
  | n + 1 =>
    let (s, w) := s.busRead off
    let (s, bs) := State.spiRead s ((off + 4) % 2 ^ 24) n
    (s, beBytes 4 w.toNat ++ bs)

/-- SPI_TARGET_TRANSACTION (R616): the bytes that came in, and for a read how many words were clocked out. -/
def spiTransaction (mosi : List Byte) (readWords : Nat) (s : State) : State :=
  let cmd := (mosi.getD 0 0).toNat
  let off := beNat ((mosi.drop 1).take 3)
  let data := mosi.drop 4
  if mosi.length < 4 || off % 4 != 0 then s.emit .spiHigh
  else if cmd = 2 then (if data.length % 4 = 0 then s.spiWrite off data else s.emit .spiHigh)
  else if cmd = 3 then
    let (s, bs) := s.spiRead off readWords
    s.emit (.spi (0xA5#8 :: bs))
  else s.emit .spiHigh

/-! ### The test access port (R618) -/

/-- The bits of a number, least significant first. -/
def bitsOf : Nat → Nat → List Bool
  | 0, _ => []
  | n + 1, v => (v % 2 == 1) :: bitsOf n (v / 2)

/-- The level of ALERT_N (R548): low while a pending range is in the mask. -/
def State.alertN (s : State) : Bool := s.rd EVR_ALERT_PEND &&& s.rd EVR_ALERT_MASK == 0#32

/-- What UART_TX drives (R617): high while no firmware runs; while it runs the level is the firmware's, which is outside the block.
UART_RX serves the firmware alone, so what comes in there changes nothing here. -/
def State.uartTx (s : State) : Option Bool := if s.get MGT_FW_STATUS_FSTATE = 1 then none else some true

/-- What EXTEST drives at a ball, if it drives it. -/
def State.extestLevel (s : State) (c : Nat) : Option Bool :=
  if s.tapDrive && cellDrives c then some (tabGet (fun _ => false) s.tapCells c) else none

/-- The level that the state gives the ball of a cell, if it gives one: what EXTEST drives, the laser gates, the interlock inputs,
ALERT_N and UART_TX. -/
def State.ballLevel (s : State) (c : Nat) : Option Bool :=
  match s.extestLevel c with
  | some v => some v
  | none => match cellBall c with
    | .signal (.beam b) 6 => some (s.beam b).gate
    | .signal .system k =>
      if k = 10 then s.uartTx else if 12 ≤ k ∧ k < 16 then some (bitOf s.ilkLvl (k - 12)) else if k = 21 then some s.alertN else none
    | _ => none

/-- What the cells of `pins` capture (R618): the state's levels; of the other balls the levels given. -/
def State.tapCapture (s : State) (pins : List (Nat × Bool)) : List Bool :=
  (pins.filter fun p => hasCell (cellBall p.1)).map fun p => (s.ballLevel p.1).getD p.2

/-- An operation of the test access port (R618). While TRST_N is low nothing acts; an operation other than EXTEST lets the
balls go. -/
def tapOp (op : TapOp) (s : State) : State :=
  match op with
  | .trstLow => { s with tapUp := false, tapDrive := false }
  | .trstHigh => { s with tapUp := true }
  | .bypass bits => if s.tapUp then { s with tapDrive := false }.emit (.tdo (false :: bits)) else s
  | .idcode => if s.tapUp then { s with tapDrive := false }.emit (.tdo (bitsOf 32 0x13248CA3)) else s
  | .sample pins =>
    if s.tapUp then
      let s := { s with tapDrive := false }
      s.emit (.tdo (s.tapCapture pins))
    else s
  | .preload cells =>
    if s.tapUp then
      { s with tapDrive := false,
               tapCells := (cells.filter fun c => cellDrives c.1).foldl (fun t c => tabSet (fun _ => false) t c.1 c.2) s.tapCells }
    else s
  | .extest pins => if s.tapUp then { s with tapDrive := true }.emit (.tdo (s.tapCapture pins)) else s

/-- TEST_ACCESS_PORT (R618): the port has its own clock and reset, and does not reach the register space; it is without power
while the supply detector acts. -/
def testAccess (op : TapOp) (s : State) : Host.Outcome State Fault Refusal := .next (if s.supplyHeld then s else tapOp op s)

/-! ### Resets (R579 to R583, R588, R603, R610) -/

/-- What every device reset leaves: reset values, but for the fuses, the flash and the DRAM devices, which are not the chip's to
reset but for an update that it cuts short (R607), the held resets, the straps, the test port, and the model's own queue, outbox and counter. SAF_ILK_STATUS.LEVEL shows the
levels at the inputs (R113); the levels at the encoder inputs stay too, and a reset brings no clock back (R610). UNLOCKED, where it was set, is reported as cleared (R588). -/
def State.devReset (s : State) (last : Nat) : State :=
  let s := s.updCut
  let t : State :=
    { State.reset with
      pending := s.pending, outbox := s.outbox, fresh := s.fresh, dram := s.dram, poison := s.poison, fw := s.fw,
      keyhash := s.keyhash, fuses := s.fuses, supplyHeld := s.supplyHeld, clockLost := s.clockLost, chainRoot := s.chainRoot,
      bootSel := s.bootSel, tapUp := s.tapUp, tapCells := s.tapCells, tapDrive := s.tapDrive, ilkLvl := s.ilkLvl,
      laneDark := s.laneDark }
  let t := forN 8 (fun q u => u.qePins q (s.qe q).raw.toNat) t
  (t.set GLB_RST_CAUSE_LAST last).set SAF_ILK_STATUS_LEVEL s.ilkLvl

/-- The event of an unlock that the reset cleared (R588). -/
def State.lockedBy (t s : State) : State := t.when (s.flag TST_STATUS_UNLOCKED) fun u => u.raise 0x381 0

/-- PORST_N low and released again (R579, R607): the straps are sampled. SYSRST_N low at the same time changes nothing of it. -/
def porst (bootSel : BitVec 2) (root : Bool) (s : State) : Host.Outcome State Fault Refusal :=
  .next (State.flush (({ s.devReset 0 with bootSel := bootSel.toNat, chainRoot := root } : State).lockedBy s))

/-- What SYSRST_N and GLB_SWRST keep beyond that (R580), the count of them (R583), the cause that the boot ROM shows (R560; for
GLB_SWRST log entry 38), and the event. -/
def State.sysReset (s : State) (last : Nat) : State :=
  let t := { s.devReset last with recs := s.recs, jnl := s.jnl }
  let t := ((t.wr EVR_WR (s.rd EVR_WR)).wr EVR_DROP (s.rd EVR_DROP)).wr MGT_JNL_WR (s.rd MGT_JNL_WR)
  let t := forN 9 (fun i u => u.wr (MGT_SEQ i) (s.rd (MGT_SEQ i))) t
  let t := (t.set GLB_RST_CAUSE_SYS_CNT (min 0xFFFF (s.get GLB_RST_CAUSE_SYS_CNT + 1))).set MGT_FW_STATUS_CAUSE 1
  let t := forN (s.updCut.fuses - s.fuses) (fun _ u => u.raise 0x005 0) t
  (t.raise 0x021 0 (BitVec.ofNat 32 last)).lockedBy s

/-- SYSRST_N low and released again (R580). -/
def sysrst (s : State) : State := s.sysReset 1

/-- SOFTWARE_RESET (R580): 100 us after the write of GLB_SWRST. -/
def softwareReset (s : State) : State := if s.swrst then s.sysReset 2 else s

/-- SUPPLY_DETECTOR_RESET (R603): the reset is held. -/
def supplyReset (s : State) : Host.Outcome State Fault Refusal :=
  .next (if s.supplyHeld then s else State.flush (State.lockedBy { s.devReset 0 with supplyHeld := true } s))

/-- SUPPLY_DETECTOR_RELEASE (R603). -/
def supplyRelease (s : State) : Host.Outcome State Fault Refusal := .next { s with supplyHeld := false }

/-- CLOCK_LOSS (R610): the reset is held. -/
def clockLossReset (s : State) : Host.Outcome State Fault Refusal :=
  .next (if s.clockLost then s else State.flush (State.lockedBy { s.devReset 3 with clockLost := true } s))

/-- REFCLK_25_RESTORED (R610): the clock has been back for 100 us. -/
def clockRestored (s : State) : Host.Outcome State Fault Refusal := .next { s with clockLost := false }

/-- INTERNAL_PLL_LOCK (R582): the fabric accepts accesses; the command function is READY, the time bases are READY, and the
Colud Link ports, whose EN is 1 at reset, start (R468, R577). -/
def pllLock (s : State) : State :=
  if s.fabricUp then s
  else
    let s := ({ s with fabricUp := true } : State).set MGT_CMD_STATUS_STATE stREADY
    let s := forN 4 (fun n t => t.when (t.flag (TIM_TB_CTRL_EN n)) fun u => u.set (TIM_TB_STATUS_STATE n) stREADY) s
    s.lnkBoot.lanesUpdate

end Sys2Proof.Machine
end

