-- ==== Sys2Proof/Machine/RowBeam.lean ====
section
/-! DEFINITION. One meaning for each row of the table: Beam channels, photodiodes and interlocks (R72 to R110). -/

namespace Sys2Proof.Machine

/-- GRID_WRITE (R72): A write of GRID_DATA_HI stores a field-correction node and advances ADDR, if R73 allows it. -/
def execGridWrite (b : Fin 32) (v : Word) (s : State) : Host.Outcome State Fault Refusal :=
  runReg (BIO_GRID_DATA_HI b) v (wrGridHi b v) s

/-- GRID_READ (R72): A read of GRID_DATA_HI returns the node half and advances ADDR. -/
def execGridRead (b : Fin 32) (s : State) : Host.Outcome State Fault Refusal :=
  runRead (rdGridHi b) s

/-- CHANNEL_ENABLE (R87): Setting BIOn_CTRL.EN enters STARTING, and the port streams the park position. -/
def execChannelEnable (b : Fin 32) (v : Word) (s : State) : Host.Outcome State Fault Refusal :=
  runReg (BIO_CTRL b) (v ||| 1) (wrBioCtrl b (v ||| 1)) s

/-- CHANNEL_DISABLE (R87): Clearing BIOn_CTRL.EN completes any safe stop and then enters OFF. -/
def execChannelDisable (b : Fin 32) (v : Word) (s : State) : Host.Outcome State Fault Refusal :=
  runReg (BIO_CTRL b) (v &&& ~~~1#32) (wrBioCtrl b (v &&& ~~~1#32)) s

/-- CHANNEL_START_TIMEOUT (R87): A head that has not answered after 100 Volleys puts the channel into FAULT with HEAD_LOST. -/
def execChannelStartTimeout (b : Fin 32) (s : State) : Host.Outcome State Fault Refusal :=
  run (channelStartTimeout b) s

/-- RX_PHASE_SEARCH_DONE (R82): After 10 slots the receive sample phase is chosen and reported in RX_PHASE. -/
def execRxPhaseSearchDone (b : Fin 32) (phase : Fin 4) (s : State) : Host.Outcome State Fault Refusal :=
  run (rxPhaseSearchDone b phase) s

/-- STAT_WORD (R83): A returned head word is checked, and a valid one updates ACT or the head status. -/
def execStatWord (b : Fin 32) (slot : Fin 10) (w : BitVec 40) (s : State) : Host.Outcome State Fault Refusal :=
  run (statWord b slot w) s

/-- HEAD_LOST (R85): No valid return for 10 slots, or for 4 Volleys in XY2-100 mode, sets HEAD_LOST and clears ACT_VALID. -/
def execHeadLost (b : Fin 32) (s : State) : Host.Outcome State Fault Refusal :=
  run (headLost b) s

/-- LASER_INPUT_CHANGE (R96): A filtered change of LI_RDYn or LI_ALMn updates RDY_LVL or ALM_LVL and is tested against the
running beam. -/
def execLaserInputChange (b : Fin 32) (rdy alm : Bool) (s : State) : Host.Outcome State Fault Refusal :=
  run (laserInputChange b rdy alm) s

/-- PD_ENABLE (R102): Setting BIO_PDn_CFG.EN makes the photodiode channel READY at the next Volley edge. -/
def execPdEnable (n : Fin 64) (v : Word) (s : State) : Host.Outcome State Fault Refusal :=
  runReg (BIO_PD_CFG n) (v ||| 1) (wrPdCfg n (v ||| 1)) s

/-- PD_DISABLE (R102): Clearing BIO_PDn_CFG.EN moves the channel to STOPPING and then to OFF at the next edge, after a final
record marked INV. -/
def execPdDisable (n : Fin 64) (v : Word) (s : State) : Host.Outcome State Fault Refusal :=
  runReg (BIO_PD_CFG n) (v &&& ~~~1#32) (wrPdCfg n (v &&& ~~~1#32)) s

/-- BACK_REFLECTION (R103): COUNT consecutive back-reflection samples at or above LIM force the gate low and put the beam into
safe stop. -/
def execBackReflection (b : Fin 32) (s : State) : Host.Outcome State Fault Refusal :=
  run (backReflection b) s

/-- ILK_OPEN (R110): An interlock opening sets the hardware force, which holds every gate low and every DAC at ground, and safe-
stops running beams. -/
def execIlkOpen (i : Fin 4) (s : State) : Host.Outcome State Fault Refusal :=
  run (ilkOpen i) (s.ilkPin i false)

/-- ILK_REARM (R110): Writing the key to SAF_ILK_REARM while every input is closed releases the interlock force. -/
def execIlkRearm (v : Word) (s : State) : Host.Outcome State Fault Refusal :=
  runReg SAF_ILK_REARM v (wrIlkRearm v) s

/-- PD_SAMPLE (R98): Every 40 CORE cycles after the edge each photodiode channel takes a sample that feeds the Volley sum,
GATED, SAT, BIO_PDn_SAMPLE and the back-reflection run count. -/
def execPdSample (n : Fin 64) (vin err : Int) (s : State) : Host.Outcome State Fault Refusal :=
  run (pdSample n vin err) s

/-- ILK_CLOSE (R110): An interlock input returns high, which updates SAF_ILK_STATUS.LEVEL and, once all four are closed, allows
the rearm. -/
def execIlkClose (i : Fin 4) (s : State) : Host.Outcome State Fault Refusal :=
  run (ilkClose i) (s.ilkPin i true)

end Sys2Proof.Machine
end

