-- ==== Sys2Proof/Machine/RowCamera.lean ====
section
/-! DEFINITION. One meaning for each row of the table: Camera ports, contexts, tables and the archive (R272 to R313). -/

namespace Sys2Proof.Machine

/-- CAM_PORT_ENABLE (R277): Setting CAM_CPn_CTRL.EN enters STARTING and samples LANES, PNSWAP and THS_SETTLE. -/
def execCamPortEnable (n : Fin 8) (v : Word) (s : State) : Host.Outcome State Fault Refusal :=
  runReg (CAM_CP_CTRL n) (v ||| 1) (wrPortCtrl n (v ||| 1)) s

/-- CAM_PORT_READY (R277): Once LP-11 is seen on every enabled lane, the camera port enters READY. -/
def execCamPortReady (n : Fin 8) (s : State) : Host.Outcome State Fault Refusal :=
  run (camPortReady n) s

/-- CAM_PORT_DISABLE (R277): Clearing the port's EN discards packets, closes open frames with SYNC and enters OFF at the next
edge. -/
def execCamPortDisable (n : Fin 8) (v : Word) (s : State) : Host.Outcome State Fault Refusal :=
  runReg (CAM_CP_CTRL n) (v &&& ~~~1#32) (wrPortCtrl n (v &&& ~~~1#32)) s

/-- DPHY_SKEW_CALIBRATION (R272): A D-PHY skew calibration sequence is received and the port calibrates on it. -/
def execDphySkewCalibration (n : Fin 8) (s : State) : Host.Outcome State Fault Refusal :=
  run (dphySkewCalibration n) s

/-- ULTRA_LOW_POWER_STATE (R272): The camera lanes enter or leave ultra-low-power state, and the port stays READY. -/
def execUltraLowPowerState (n : Fin 8) (enter : Bool) (s : State) : Host.Outcome State Fault Refusal :=
  run (ultraLowPowerState n enter) s

/-- FRAME_START (R274): A Frame Start packet opens a frame of the owning context, counts FRAME and reserves an archive slot. -/
def execFrameStart (h : CsiHdr) (s : State) : Host.Outcome State Fault Refusal :=
  run (frameStart h) s

/-- FRAME_END (R274): A Frame End packet closes the frame of the owning context. -/
def execFrameEnd (h : CsiHdr) (s : State) : Host.Outcome State Fault Refusal :=
  run (frameEnd h) s

/-- PIXEL_LINE (R283): A RAW10 or RAW12 line packet is received into a line place of its port, or discarded. -/
def execPixelLine (h : CsiHdr) (payload : List Byte) (crc : BitVec 16) (s : State) : Host.Outcome State Fault Refusal :=
  run (pixelLine h payload crc) s

/-- LINE_START (R274): A Line Start packet is accepted and ignored. -/
def execLineStart (h : CsiHdr) (s : State) : Host.Outcome State Fault Refusal :=
  run (lineStart h) s

/-- LINE_END (R274): A Line End packet is accepted and ignored. -/
def execLineEnd (h : CsiHdr) (s : State) : Host.Outcome State Fault Refusal :=
  run (lineEnd h) s

/-- GENERIC_SHORT (R274): A generic short packet is accepted and ignored. -/
def execGenericShort (h : CsiHdr) (s : State) : Host.Outcome State Fault Refusal :=
  run (genericShort h) s

/-- EMBEDDED_DATA (R274): An embedded data packet is discarded without a count. -/
def execEmbeddedData (pkt : LongPkt) (s : State) : Host.Outcome State Fault Refusal :=
  run (embeddedData pkt.hdr pkt.payload pkt.crc) s

/-- CAM_UNKNOWN (R312): A packet of an unknown type, or on an unowned virtual channel, is discarded and counted. -/
def execCamUnknown (pkt : LongPkt) (s : State) : Host.Outcome State Fault Refusal :=
  run (camUnknown pkt.hdr pkt.payload pkt.crc) s

/-- CAM_PHY_ERR (R312): A D-PHY start-of-transmission or skew error discards the burst and marks open frames HDR. -/
def execCamPhyErr (n : Fin 8) (s : State) : Host.Outcome State Fault Refusal :=
  run (camPhyErr n) s

/-- FRAME_TIMEOUT (R312): No Frame End within FTO Volleys of a Frame Start closes the frame with SYNC. -/
def execFrameTimeout (c : Fin 36) (s : State) : Host.Outcome State Fault Refusal :=
  run (frameTimeout c) s

/-- LINE_PICK (R284): When the pipeline input is free, the oldest complete line of the chosen port enters the pixel pipeline. -/
def execLinePick (s : State) : Host.Outcome State Fault Refusal :=
  run linePick s

/-- RECORD_COMPLETE (R298): 64 cycles after the frame's last line and its Frame End, the record replaces the context's latest
record. -/
def execRecordComplete (c : Fin 36) (s : State) : Host.Outcome State Fault Refusal :=
  run (recordComplete c) s

/-- ARCHIVE_RECORD_WRITTEN (R305): The statistics record of a reserved archive slot is written, and ARC_WR advances. -/
def execArchiveRecordWritten (m : Met (Fin 4)) (s : State) : Host.Outcome State Fault Refusal :=
  runSeen m.seen (archiveRecordWritten m.val) s

/-- ARC_RD_WRITE (R305): A write of CAM_LYm_ARC_RD frees archive slots. -/
def execArcRdWrite (m : Fin 4) (v : Word) (s : State) : Host.Outcome State Fault Refusal :=
  runReg (CAM_LY_ARC_RD m) v (wrArcRd m v) s

/-- CTX_ENABLE (R281): Setting CAM_CTXn_CTRL.EN enters STARTING and commits generation 1, or enters FAULT. -/
def execCtxEnable (c : Fin 36) (v : Word) (s : State) : Host.Outcome State Fault Refusal :=
  runReg (CAM_CTX_CTRL c) (v ||| 1) (wrCtxCtrl c (v ||| 1)) s

/-- CTX_DISABLE (R281): Clearing the context's EN enters STOPPING, then OFF at the next edge, and discards any open frame. -/
def execCtxDisable (c : Fin 36) (v : Word) (s : State) : Host.Outcome State Fault Refusal :=
  runReg (CAM_CTX_CTRL c) (v &&& ~~~1#32) (wrCtxCtrl c (v &&& ~~~1#32)) s

/-- CTX_COMMIT (R307): Writing CAM_CTXn_CTRL.COMMIT commits the shadow settings as a generation at the next edge. -/
def execCtxCommit (c : Fin 36) (v : Word) (s : State) : Host.Outcome State Fault Refusal :=
  runReg (CAM_CTX_CTRL c) (v ||| 0x10000) (wrCtxCtrl c (v ||| 0x10000)) s

/-- CCI_WRITE_DONE (R308): A sensor I2C write of a generation ends, and the next item starts or the commit instant is reached.
-/
def execCciWriteDone (n : Fin 8) (ack : Bool) (s : State) : Host.Outcome State Fault Refusal :=
  run (cciWriteDone n ack) s

/-- CCI_TIMEOUT (R311): A sensor write not finished within 10 times its nominal time ends the generation's writes as a failure.
-/
def execCciTimeout (n : Fin 8) (s : State) : Host.Outcome State Fault Refusal :=
  run (cciTimeout n) s

/-- FEAT_READ (R299): A read of CAM_CTXn_FEAT0 copies the whole latest record into a holding copy. -/
def execFeatRead (c : Fin 36) (s : State) : Host.Outcome State Fault Refusal :=
  runRead (featRead c) s

/-- TABLE_WRITE (R294): A write to a pyrometry table stores the entry unless a live context selects that table. -/
def execTableWrite (t : Fin 4) (i : Fin 2048) (v : Word) (s : State) : Host.Outcome State Fault Refusal :=
  runReg (CAM_TABLE t i) v (wrTable t i v) s

/-- TRIGGER_PULSE_END (R301): After TW µs the layer trigger output falls. -/
def execTriggerPulseEnd (m : Fin 4) (s : State) : Host.Outcome State Fault Refusal :=
  run (triggerPulseEnd m) s

/-- STROBE_REQUEST_RISE (R302): DLY after a trigger, the strobe request of the context rises, and STROBE sinks switch on. -/
def execStrobeRequestRise (m : Fin 4) (s : State) : Host.Outcome State Fault Refusal :=
  run (strobeRequestRise m) s

/-- STROBE_REQUEST_FALL (R302): LEN after its rise, the strobe request falls, and STROBE sinks switch off. -/
def execStrobeRequestFall (m : Fin 4) (s : State) : Host.Outcome State Fault Refusal :=
  run (strobeRequestFall m) s

end Sys2Proof.Machine
end

