-- ==== Sys2Proof/Machine/RowClock.lean ====
section
/-! DEFINITION. One meaning for each row of the table: the time bases, PTP and link time (R498 to R513). -/

namespace Sys2Proof.Machine

/-- PTP_FRAME (R510): A received PTP frame enters the receive queue with its timestamp. -/
def execPtpFrame (e : Fin 2) (frame : List Byte) (fec : Int) (s : State) : Host.Outcome State Fault Refusal :=
  run (ptpFrame e frame fec) s

/-- PTP_SEND (R512): Writing NETn_PTP_TXCTL queues the PTP frame in TXBUF for transmission. -/
def execPtpSend (e : Fin 2) (v : Word) (s : State) : Host.Outcome State Fault Refusal :=
  runReg (NET_PTP_TXCTL e) v (wrTxCtl e v) s

/-- PTP_DEPARTURE (R512): A PTP frame leaves, with one-step fields inserted and its timestamp queued if requested. -/
def execPtpDeparture (e : Fin 2) (fec : Int) (s : State) : Host.Outcome State Fault Refusal :=
  run (ptpDeparture e fec) s

/-- TXTS_POP (R513): Writing TXTS_POP removes the oldest transmit timestamp. -/
def execTxtsPop (e : Fin 2) (v : Word) (s : State) : Host.Outcome State Fault Refusal :=
  runReg (NET_TXTS_POP e) v (wrTxtsPop e v) s

/-- RXQ_POP (R513): Writing RXQ_POP removes the oldest receive queue entry. -/
def execRxqPop (e : Fin 2) (v : Word) (s : State) : Host.Outcome State Fault Refusal :=
  runReg (NET_RXQ_POP e) v (wrRxqPop e v) s

/-- TB_ENABLE (R499): Setting TIM_TBn_CTRL.EN makes the base READY and advancing. -/
def execTbEnable (n : Fin 4) (v : Word) (s : State) : Host.Outcome State Fault Refusal :=
  runReg (TIM_TB_CTRL n) (v ||| 1) (wrTbCtrl n (v ||| 1)) s

/-- TB_DISABLE (R499): Clearing TIM_TBn_CTRL.EN holds the base and clears VALID. -/
def execTbDisable (n : Fin 4) (v : Word) (s : State) : Host.Outcome State Fault Refusal :=
  runReg (TIM_TB_CTRL n) (v &&& ~~~1#32) (wrTbCtrl n (v &&& ~~~1#32)) s

/-- TB_NS_READ (R500): A read of TIM_TBn_NS copies the seconds and the fraction into holding registers. -/
def execTbNsRead (n : Fin 4) (s : State) : Host.Outcome State Fault Refusal :=
  runRead (tbNsRead n) s

/-- TIM_CAP (R500): Writing TIM_CAP.TAKE captures all four bases in one cycle. -/
def execTimCap (v : Word) (s : State) : Host.Outcome State Fault Refusal :=
  runReg TIM_CAP (v ||| 1) (wrTimCap (v ||| 1)) s

/-- SET (R501): Time base command that loads seconds and nanoseconds. -/
def execSet (n : Fin 4) (v : Word) (s : State) : Host.Outcome State Fault Refusal :=
  runReg (TIM_TB_CMD n) (v ||| 1) (wrTbCmd n (v ||| 1)) s

/-- ADJ (R501): Time base command that adds a signed step. -/
def execAdj (n : Fin 4) (v : Word) (s : State) : Host.Outcome State Fault Refusal :=
  runReg (TIM_TB_CMD n) (v ||| 2) (wrTbCmd n (v ||| 2)) s

/-- MEAS_SAMPLE (R504): A write of MEAS_HI delivers an offset sample to the servo. -/
def execMeasSample (n : Fin 4) (v : Word) (s : State) : Host.Outcome State Fault Refusal :=
  runReg (TIM_TB_MEAS_HI n) v (measSample n v) s

/-- SERVO_SAMPLE (R504): The servo applies an offset sample by a PI update, a step or a slew. -/
def execServoSample (n : Same (Fin 4)) (s : State) : Host.Outcome State Fault Refusal :=
  run (servoSample n.val n.same) s

/-- BASE_OFFSET_CAPTURE (R503): With SRC = BASE, once per millisecond the offset to base m is captured as a sample. -/
def execBaseOffsetCapture (n : Fin 4) (s : State) : Host.Outcome State Fault Refusal :=
  run (baseOffsetCapture n) s

/-- TB_HOLDOVER (R506): No sample for HOLD_TO puts the base into holdover. -/
def execTbHoldover (n : Fin 4) (s : State) : Host.Outcome State Fault Refusal :=
  run (tbHoldover n) s

/-- TIME_EXCHANGE (R507): Every PERIOD Volleys a device sends a TIME request on its UP port. -/
def execTimeExchange (s : State) : Host.Outcome State Fault Refusal :=
  run timeExchange s

/-- TIME (R507): A TIME request is answered with t2 and t3, or a TIME response yields the offset and delay. -/
def execTime (p : Fin 4) (crcOk : Bool) (response : Bool) (t2 t3 : Int) (s : State) : Host.Outcome State Fault Refusal :=
  run (timePacket p crcOk response t2 t3) s

/-- LINK_TIME_BAD (R508): An exchange with no response within 10 µs, or with a negative delay, is discarded. -/
def execLinkTimeBad (s : State) : Host.Outcome State Fault Refusal :=
  run linkTimeBadEv s

end Sys2Proof.Machine
end

