-- ==== Sys2Proof/Machine/RowCommand.lean ====
section
/-! DEFINITION. One meaning for each row of the table: the command function, Batches and the journal (R317 to R346). -/

namespace Sys2Proof.Machine

/-- PING (R326): Command that returns identity, chain address and Volley number. -/
def execPing (src : Fin 7) (frame : List Byte) (s : State) : Host.Outcome State Fault Refusal :=
  runCmd (fun o => o == 0x01) src frame s

/-- READ_REG (R326): Command that returns registers. -/
def execReadReg (src : Fin 7) (frame : List Byte) (s : State) : Host.Outcome State Fault Refusal :=
  runCmd (fun o => o == 0x02) src frame s

/-- WRITE_REG (R326): Command that writes register pairs, at once or at a Volley. -/
def execWriteReg (src : Fin 7) (frame : List Byte) (s : State) : Host.Outcome State Fault Refusal :=
  runCmd (fun o => o == 0x03) src frame s

/-- READ_MEM (R326): Command that reads DRAM bytes under class K. -/
def execReadMem (src : Fin 7) (frame : Met (List Byte)) (s : State) : Host.Outcome State Fault Refusal :=
  runSeen frame.seen (cmdStep (fun o => o == 0x04) src frame.val) s

/-- WRITE_MEM (R326): Command that writes DRAM bytes under class K. -/
def execWriteMem (src : Fin 7) (frame : Met (List Byte)) (s : State) : Host.Outcome State Fault Refusal :=
  runSeen frame.seen (cmdStep (fun o => o == 0x05) src frame.val) s

/-- SNAP (R568): Command that takes a snapshot, at once or at a Volley edge. -/
def execSnap (src : Fin 7) (frame : List Byte) (s : State) : Host.Outcome State Fault Refusal :=
  runCmd (fun o => o == 0x06) src frame s

/-- BATCH_LOAD (R333): Command that loads a Batch descriptor, program images, the Court Map and pools. -/
def execBatchLoad (src : Fin 7) (frame : List Byte) (s : State) : Host.Outcome State Fault Refusal :=
  runCmd (fun o => o == 0x10) src frame s

/-- BATCH_LOAD_DONE (R333): The Batch load completes with state LOADED, or ends in LOAD_ERR. -/
def execBatchLoadDone (seen : Seen) (s : State) : Host.Outcome State Fault Refusal :=
  runSeen seen batchLoadDone s

/-- BATCH_ARM (R334): Command that checks readiness and arms the Batch. -/
def execBatchArm (src : Fin 7) (frame : List Byte) (s : State) : Host.Outcome State Fault Refusal :=
  runCmd (fun o => o == 0x11) src frame s

/-- BATCH_START (R335): Command that starts every beam of the Batch at its edge. -/
def execBatchStart (src : Fin 7) (frame : List Byte) (s : State) : Host.Outcome State Fault Refusal :=
  runCmd (fun o => o == 0x12) src frame s

/-- BATCH_HOLD (R336): Command that pauses the Batch's beams, at once or when they are dark. -/
def execBatchHold (src : Fin 7) (frame : List Byte) (s : State) : Host.Outcome State Fault Refusal :=
  runCmd (fun o => o == 0x13) src frame s

/-- BATCH_RESUME (R337): Command that resumes the paused beams. -/
def execBatchResume (src : Fin 7) (frame : List Byte) (s : State) : Host.Outcome State Fault Refusal :=
  runCmd (fun o => o == 0x14) src frame s

/-- BATCH_ABORT (R338): Command that aborts the Batch by safe stop or by drain. -/
def execBatchAbort (src : Fin 7) (frame : List Byte) (s : State) : Host.Outcome State Fault Refusal :=
  runCmd (fun o => o == 0x15) src frame s

/-- BATCH_STATUS (R326): Command that returns the Batch registers. -/
def execBatchStatus (src : Fin 7) (frame : List Byte) (s : State) : Host.Outcome State Fault Refusal :=
  runCmd (fun o => o == 0x16) src frame s

/-- SAFE_STOP (R340): Command that puts the beams of its mask into safe stop. -/
def execSafeStop (src : Fin 7) (frame : List Byte) (s : State) : Host.Outcome State Fault Refusal :=
  runCmd (fun o => o == 0x20) src frame s

/-- BEAM_RESTART (R341): Command that clears SAFE and PARKED and can start the engine. -/
def execBeamRestart (src : Fin 7) (frame : List Byte) (s : State) : Host.Outcome State Fault Refusal :=
  runCmd (fun o => o == 0x21) src frame s

/-- CANCEL (R327): Command that removes a queued timed command. -/
def execCancel (src : Fin 7) (frame : List Byte) (s : State) : Host.Outcome State Fault Refusal :=
  runCmd (fun o => o == 0x30) src frame s

/-- JOURNAL_READ (R345): Command that returns journal entries. -/
def execJournalRead (src : Fin 7) (frame : List Byte) (s : State) : Host.Outcome State Fault Refusal :=
  runCmd (fun o => o == 0x31) src frame s

/-- SESSION (R322): Command that resets the sequence register of its source. -/
def execSession (src : Fin 7) (frame : List Byte) (s : State) : Host.Outcome State Fault Refusal :=
  runCmd (fun o => o == 0x32) src frame s

/-- BAD_OPCODE (R326): A frame with an unassigned opcode is rejected and journaled. -/
def execBadOpcode (src : Fin 7) (frame : List Byte) (s : State) : Host.Outcome State Fault Refusal :=
  runCmd (fun o => !opKnown o) src frame s

/-- MGT_CMD_GO (R320): Writing MGT_CMD_GO.GO submits the frame in MGT_CMD_BUF through the REG source. -/
def execMgtCmdGo (v : Word) (s : State) : Host.Outcome State Fault Refusal :=
  runReg MGT_CMD_GO (v ||| 1) (fun t => (wrCmdGo (v ||| 1) t).serve) s

/-- JOURNAL_MIRROR_ENABLE (R344): Setting MGT_JNL_MIR_HI.EN starts mirroring from MGT_JNL_WR. -/
def execJournalMirrorEnable (v : Word) (s : State) : Host.Outcome State Fault Refusal :=
  runReg MGT_JNL_MIR_HI (v ||| 0x80000000) (wrMirHi (v ||| 0x80000000)) s

/-- JOURNAL_MIRROR_WRITE (R344): A journal entry is written to its mirror position in DRAM. -/
def execJournalMirrorWrite (seen : Seen) (s : State) : Host.Outcome State Fault Refusal :=
  runSeen seen journalMirrorWrite s

end Sys2Proof.Machine
end

