-- ==== Sys2Proof/Machine/RowCourt.lean ====
section
/-! DEFINITION. One meaning for each row of the table: the Court and the midcourt pools (R203 to R237). -/

namespace Sys2Proof.Machine

/-- COURT_MAP_WRITE (R205): A write to the Court Map window stores a tile entry, if R206 allows it, and flags invalid entries.
-/
def execCourtMapWrite (i : Fin 32768) (v : Word) (s : State) : Host.Outcome State Fault Refusal :=
  runReg (0x200000 + 4 * i) v (wrCourtMap i v) s

/-- MAP_LOAD (R207): Writing ARB_MAP_LOAD_CTRL.GO starts a copy of the Court Map from DRAM. -/
def execMapLoad (v : Word) (s : State) : Host.Outcome State Fault Refusal :=
  runReg ARB_MAP_LOAD_CTRL (v ||| 1) (wrMapLoadCtrl (v ||| 1)) s

/-- MAP_LOAD_DONE (R207): The Court Map copy ends and sets DONE, or sets ERR on a failed read. -/
def execMapLoadDone (got : Met (Fin 8)) (s : State) : Host.Outcome State Fault Refusal :=
  runSeen got.seen (mapDone got.val) s

/-- ARB_ENABLE (R237): Setting ARB_CTRL.EN makes the arbiter READY at the next edge while the generator is READY. -/
def execArbEnable (v : Word) (s : State) : Host.Outcome State Fault Refusal :=
  runReg ARB_CTRL (v ||| 1) (wrArbCtrl (v ||| 1)) s

/-- ARB_DISABLE (R622): Clearing ARB_CTRL.EN turns the arbiter OFF, and rounds grant nothing from then on. -/
def execArbDisable (v : Word) (s : State) : Host.Outcome State Fault Refusal :=
  runReg ARB_CTRL (v &&& ~~~1#32) (wrArbCtrl (v &&& ~~~1#32)) s

/-- ROUND_PUBLISH (R213): At V+1.5 µs grants, take results and barrier releases become visible, and waiting CLAIMT, PULL.W and
SYNC resume. -/
def execRoundPublish (cyc : BitVec 12) (s : State) : Host.Outcome State Fault Refusal :=
  run (roundPublish cyc) s

/-- GRANT_REVOKED (R223): A beam idle for ARB_REVOKE rounds loses its grants, and its held slots change as R232 states. -/
def execGrantRevoked (b : Fin 32) (s : State) : Host.Outcome State Fault Refusal :=
  run (grantRevoked b) s

/-- POOL_STAGE_READ_DONE (R227): A staging read of a pool slot completes, and the slot is staged or retired. -/
def execPoolStageReadDone (p : Fin 64) (slot : Fin 4096) (seen : Seen) (s : State) : Host.Outcome State Fault Refusal :=
  runSeen seen (poolStageReadDone p slot) s

/-- POOL_ENABLE (R231): Setting ARB_POOLn_CTRL.EN samples BASE, SIZE and KEEP and enters STARTING, or FAULT. -/
def execPoolEnable (p : Fin 64) (v : Word) (s : State) : Host.Outcome State Fault Refusal :=
  runReg (ARB_POOL_CTRL p) (v ||| 1) (wrPoolCtrl p (v ||| 1)) s

/-- POOL_DISABLE (R231): Clearing the pool's EN enters STOPPING until no slot is HELD. -/
def execPoolDisable (p : Fin 64) (v : Word) (s : State) : Host.Outcome State Fault Refusal :=
  runReg (ARB_POOL_CTRL p) (v &&& ~~~1#32) (wrPoolCtrl p (v &&& ~~~1#32)) s

/-- POOL_LOADED_WRITE (R225): A write of ARB_POOLn_LOADED sets, or only raises, the count of loaded slots. -/
def execPoolLoadedWrite (p : Fin 64) (v : Word) (s : State) : Host.Outcome State Fault Refusal :=
  runReg (ARB_POOL_LOADED p) v (wrPoolLoaded p v) s

/-- RWLOG_RD_WRITE (R233): A write of ARB_RWLOG_RD frees rework records. -/
def execRwlogRdWrite (v : Word) (s : State) : Host.Outcome State Fault Refusal :=
  runReg ARB_RWLOG_RD v (wrLogIndex ARB_RWLOG_RD ARB_RWLOG_WR 256 v) s

end Sys2Proof.Machine
end

