-- ==== Sys2Proof/Machine/RowDevice.lean ====
section
/-! DEFINITION. One meaning for each row of the table: the device's edge: register accesses, the snapshot, the test unlock, resets and the test port (R563 to R590, R603 to R618). -/

namespace Sys2Proof.Machine

/-- TAKE (R568): Writing GLB_SNAP.TAKE copies every 64-bit counter, the Volley number and TB0 into their snapshot registers. -/
def execTake (v : Word) (s : State) : Host.Outcome State Fault Refusal :=
  runReg GLB_SNAP (v ||| 1) (wrSnap (v ||| 1)) s

/-- FABRIC_TIMEOUT (R564): A register access not completed within GLB_FAB_TO completes with all ones, or is discarded. -/
def execFabricTimeout (off : BitVec 24) (write : Bool) (s : State) : Host.Outcome State Fault Refusal :=
  run (fabricTimeout off.toNat write) s

/-- SPI_TARGET_TRANSACTION (R616): A transaction on the SPI target port reads or writes register words, or is discarded. -/
def execSpiTargetTransaction (mosi : List Byte) (readWords : Nat) (s : State) : Host.Outcome State Fault Refusal :=
  run (spiTransaction mosi readWords) s

/-- REGISTER_WRITE (R570): A write to a register with no row of its own stores its fields, subject to the access type and any
write condition. -/
def execRegisterWrite (off : BitVec 24) (v : Same Word) (s : State) : Host.Outcome State Fault Refusal :=
  run (registerWrite off.toNat v.val v.same) s

/-- GLB_SWRST (R580): Writing the key to GLB_SWRST schedules a system reset 100 µs later. -/
def execGlbSwrst (v : Word) (s : State) : Host.Outcome State Fault Refusal :=
  runReg GLB_SWRST v (wrSwrst v) s

/-- SOFTWARE_RESET (R580): 100 µs after the GLB_SWRST write, the system reset acts as SYSRST_N does. -/
def execSoftwareReset (s : State) : Host.Outcome State Fault Refusal :=
  run softwareReset s

/-- PORST_N (R579): The power-on reset resets everything but the fuses and samples the straps at release. -/
def execPorstN (bootSel : BitVec 2) (chainRoot : Bool) (s : State) : Host.Outcome State Fault Refusal :=
  porst bootSel chainRoot s

/-- SYSRST_N (R580): The system reset resets everything except the records, the journal, the SEQ registers and the straps. -/
def execSysrstN (s : State) : Host.Outcome State Fault Refusal :=
  run sysrst s

/-- SUPPLY_DETECTOR_RESET (R603): VDD_CORE or VDD_IO below threshold holds a reset that acts as PORST_N. -/
def execSupplyDetectorReset (s : State) : Host.Outcome State Fault Refusal :=
  supplyReset s

/-- CLOCK_LOSS (R610): An absent or off-frequency REFCLK_25 causes a reset that acts as PORST_N. -/
def execClockLoss (s : State) : Host.Outcome State Fault Refusal :=
  clockLossReset s

/-- REFCLK_156_LOSS (R610): A stopped REFCLK_156 makes every enabled lane lose lock and return to STARTING. -/
def execRefclk156Loss (s : State) : Host.Outcome State Fault Refusal :=
  run refclk156Loss s

/-- TST_UNLOCK (R587): Writes to TST_UNLOCK progress, take or clear the test unlock sequence. -/
def execTstUnlock (v : Word) (s : State) : Host.Outcome State Fault Refusal :=
  runReg TST_UNLOCK v (wrTstUnlock v) s

/-- INTERNAL_PLL_LOCK (R582): After a reset release the internal PLLs lock, the register fabric and SPI target port accept
accesses, the command function and time bases become READY, and the boot ROM starts. -/
def execInternalPllLock (s : State) : Host.Outcome State Fault Refusal :=
  run pllLock s

/-- REFCLK_25_RESTORED (R610): REFCLK_25 has been back within tolerance for 100 µs, and the clock-loss reset is released. -/
def execRefclk25Restored (s : State) : Host.Outcome State Fault Refusal :=
  clockRestored s

/-- SUPPLY_DETECTOR_RELEASE (R603): VDD_CORE and VDD_IO return above the detector thresholds, and the reset held by the supply
detector is released. -/
def execSupplyDetectorRelease (s : State) : Host.Outcome State Fault Refusal :=
  supplyRelease s

/-- TEST_ACCESS_PORT (R618): An IEEE 1149.1 operation on TCK, TMS, TDI and TRST_N performs BYPASS, IDCODE, SAMPLE/PRELOAD or
EXTEST on the boundary cells, or holds the port in reset. -/
def execTestAccessPort (op : TapOp) (s : State) : Host.Outcome State Fault Refusal :=
  testAccess op s

end Sys2Proof.Machine
end

