-- ==== Sys2Proof/Machine/RowDma.lean ====
section
/-! DEFINITION. One meaning for each row of the table: DMA and the codecs (R423 to R452, R586). -/

namespace Sys2Proof.Machine

/-- DMA_ENABLE (R423): Setting DMA_CHn_CTRL.EN makes the channel READY. -/
def execDmaEnable (c : Fin 32) (v : Word) (s : State) : Host.Outcome State Fault Refusal :=
  runReg (DMA_CH_CTRL c) (v ||| 1) (wrDmaCtrl c (v ||| 1)) s

/-- DMA_DISABLE (R423): Clearing DMA_CHn_CTRL.EN aborts the chain and enters OFF. -/
def execDmaDisable (c : Fin 32) (v : Word) (s : State) : Host.Outcome State Fault Refusal :=
  runReg (DMA_CH_CTRL c) (v &&& ~~~1#32) (wrDmaCtrl c (v &&& ~~~1#32)) s

/-- DOORBELL (R429): Writing DMA_CHn_DOOR.RING starts, marks pending, or re-reads the chain, according to CSTATE. -/
def execDoorbell (c : Fin 32) (v : Word) (s : State) : Host.Outcome State Fault Refusal :=
  runReg (DMA_CH_DOOR c) (v ||| 1) (wrDmaDoor c (v ||| 1)) s

/-- ABORT (R432): Writing DMA_CHn_CMD.ABORT stops the channel and returns it to IDLE. -/
def execAbort (c : Fin 32) (v : Word) (s : State) : Host.Outcome State Fault Refusal :=
  runReg (DMA_CH_CMD c) (v ||| 1) (wrDmaCmd c (v ||| 1)) s

/-- DESC_FETCH_DONE (R426): A fetched descriptor is checked and started, or the channel halts with DESC_ERR. -/
def execDescFetchDone (c : Fin 32) (seen : Seen) (s : State) : Host.Outcome State Fault Refusal :=
  runSeen seen (descFetchDone c) s

/-- BURST_ISSUE (R435): When a slot is free, a burst is issued from the highest-priority ready channel in round-robin order. -/
def execBurstIssue (s : State) : Host.Outcome State Fault Refusal :=
  run burstIssue s

/-- BURST_COMPLETE (R438): A burst read or write completes, successfully or with a failure. -/
def execBurstComplete (c : Fin 32) (seen : Seen) (s : State) : Host.Outcome State Fault Refusal :=
  runSeen seen (burstComplete c) s

/-- ACCESS_RETRY (R438): After RGAP µs the failed access is repeated. -/
def execAccessRetry (c : Fin 32) (s : State) : Host.Outcome State Fault Refusal :=
  run (accessRetry c) s

/-- DESC_COMPLETE (R430): A descriptor completes, performs its PAGE and LOADED actions, and moves on, parks or re-reads. -/
def execDescComplete (c : Fin 32) (s : State) : Host.Outcome State Fault Refusal :=
  run (descComplete c) s

/-- CODEC_ENABLE (R440): Setting CMP_n_CTRL.EN makes the codec READY. -/
def execCodecEnable (n : Fin 16) (v : Word) (s : State) : Host.Outcome State Fault Refusal :=
  runReg (CMP_CTRL n) (v ||| 1) (wrCmpCtrl n (v ||| 1)) s

/-- CODEC_DISABLE (R440): Clearing CMP_n_CTRL.EN ends ownership and discards the stream. -/
def execCodecDisable (n : Fin 16) (v : Word) (s : State) : Host.Outcome State Fault Refusal :=
  runReg (CMP_CTRL n) (v &&& ~~~1#32) (wrCmpCtrl n (v &&& ~~~1#32)) s

/-- CODEC_RESET (R440): Writing CMP_n_CMD.RESET ends ownership and discards the stream, unless the owner is RUNNING. -/
def execCodecReset (n : Fin 16) (v : Word) (s : State) : Host.Outcome State Fault Refusal :=
  runReg (CMP_CMD n) (v ||| 1) (wrCmpCmd n (v ||| 1)) s

/-- DECOMPRESS_BLOCK (R445): A decompressor decodes one block and checks its header, codes and trailer. -/
def execDecompressBlock (n : Fin 16) (seen : Seen) (s : State) : Host.Outcome State Fault Refusal :=
  runSeen seen (decompressBlock n) s

/-- COMPRESS_BLOCK_END (R447): A compressor ends a block, writes its trailer and, on C3, its index record. -/
def execCompressBlockEnd (n : Fin 16) (seen : Seen) (s : State) : Host.Outcome State Fault Refusal :=
  runSeen seen (compressBlockEnd n) s

/-- CODEC_REVOKED (R586): A codec whose owning channel has been HALTED for 10 ms loses its owner. -/
def execCodecRevoked (n : Fin 16) (s : State) : Host.Outcome State Fault Refusal :=
  run (codecRevoked n) s

end Sys2Proof.Machine
end

