-- ==== Sys2Proof/Machine/RowFlow.lean ====
section
/-! DEFINITION. One meaning for each row of the table: Flow, data, synchronisation and set-point instructions (R160 to R193). -/

namespace Sys2Proof.Machine

/-- WAITV (R173): Idles the beam with gate-low points until a Volley boundary or a given Volley. -/
def execWaitv (b : Fin 32) (n : Fin 5) (s : State) : Host.Outcome State Fault Refusal :=
  run (fun t => t.issue b 0x10 none n.val (execWaitvIns b)) s

/-- CLAIM (R176): Adds a region to the claim set with an urgency. -/
def execClaim (b : Fin 32) (n : Fin 5) (s : State) : Host.Outcome State Fault Refusal :=
  run (fun t => t.issue b 0x11 none n.val (execClaimIns b)) s

/-- CLAIMT (R177): Waits up to h round results for a claimed region to be granted. -/
def execClaimt (b : Fin 32) (n : Fin 5) (s : State) : Host.Outcome State Fault Refusal :=
  run (fun t => t.issue b 0x12 none n.val (execClaimtIns b)) s

/-- RELEASE (R178): Removes one region from the claim set. -/
def execRelease (b : Fin 32) (n : Fin 5) (s : State) : Host.Outcome State Fault Refusal :=
  run (fun t => t.issue b 0x13 (some 0) n.val (execReleaseIns b)) s

/-- RELEASE_ALL (R178): Empties the claim set. -/
def execReleaseAll (b : Fin 32) (n : Fin 5) (s : State) : Host.Outcome State Fault Refusal :=
  run (fun t => t.issue b 0x13 (some 1) n.val (execReleaseAllIns b)) s

/-- PULL_P (R179): Posts one take from a midcourt pool. -/
def execPullP (b : Fin 32) (n : Fin 5) (s : State) : Host.Outcome State Fault Refusal :=
  run (fun t => t.issue b 0x14 (some 0) n.val (execPullPIns b)) s

/-- PULL_W (R180): Waits for the outstanding take and returns its slot or result. -/
def execPullW (b : Fin 32) (n : Fin 5) (s : State) : Host.Outcome State Fault Refusal :=
  run (fun t => t.issue b 0x14 (some 1) n.val (execPullWIns b)) s

/-- PASSPT (R181): Declares a held slot's vector exposed. -/
def execPasspt (b : Fin 32) (n : Fin 5) (s : State) : Host.Outcome State Fault Refusal :=
  run (fun t => t.issue b 0x15 none n.val (execPassptIns b)) s

/-- SYNC (R183): Arrives at a barrier and fills gate-low points until it is released. -/
def execSync (b : Fin 32) (n : Fin 5) (s : State) : Host.Outcome State Fault Refusal :=
  run (fun t => t.issue b 0x18 (some 0) n.val (execSyncIns b)) s

/-- SYNC_B (R184): Arrives at a barrier and waits without placing points. -/
def execSyncB (b : Fin 32) (n : Fin 5) (s : State) : Host.Outcome State Fault Refusal :=
  run (fun t => t.issue b 0x18 (some 1) n.val (execSyncBIns b)) s

/-- CALL (R166): Pushes the return address and branches. -/
def execCall (b : Fin 32) (n : Fin 5) (s : State) : Host.Outcome State Fault Refusal :=
  run (fun t => t.issue b 0x20 none n.val (execCallIns b)) s

/-- RET (R166): Pops the call stack into PC. -/
def execRet (b : Fin 32) (n : Fin 5) (s : State) : Host.Outcome State Fault Refusal :=
  run (fun t => t.issue b 0x21 none n.val (execRetIns b)) s

/-- LOOP (R167): Pushes a loop entry, or skips the body when the count is 0. -/
def execLoop (b : Fin 32) (n : Fin 5) (s : State) : Host.Outcome State Fault Refusal :=
  run (fun t => t.issue b 0x22 none n.val (execLoopIns b)) s

/-- ENDL (R167): Decrements the loop count and either repeats the body or pops the entry. -/
def execEndl (b : Fin 32) (n : Fin 5) (s : State) : Host.Outcome State Fault Refusal :=
  run (fun t => t.issue b 0x23 none n.val (execEndlIns b)) s

/-- BR (R165): An unconditional branch. -/
def execBr (b : Fin 32) (n : Fin 5) (s : State) : Host.Outcome State Fault Refusal :=
  run (fun t => t.issue b 0x24 none n.val (execBrIns b)) s

/-- BRC (R164): A conditional branch on the flags. -/
def execBrc (b : Fin 32) (n : Fin 5) (s : State) : Host.Outcome State Fault Refusal :=
  run (fun t => t.issue b 0x25 none n.val (execBrcIns b)) s

/-- LDI (R168): Loads a 32-bit immediate into a register. -/
def execLdi (b : Fin 32) (n : Fin 5) (s : State) : Host.Outcome State Fault Refusal :=
  run (fun t => t.issue b 0x28 none n.val (execLdiIns b)) s

/-- ADD (R168): Adds modulo 2^32 and sets the flags. -/
def execAdd (b : Fin 32) (n : Fin 5) (s : State) : Host.Outcome State Fault Refusal :=
  run (fun t => t.issue b 0x29 none n.val (execAddIns b)) s

/-- SUB (R168): Subtracts modulo 2^32 and sets the flags. -/
def execSub (b : Fin 32) (n : Fin 5) (s : State) : Host.Outcome State Fault Refusal :=
  run (fun t => t.issue b 0x2A none n.val (execSubIns b)) s

/-- AND (R168): Bitwise AND that sets the flags. -/
def execAnd (b : Fin 32) (n : Fin 5) (s : State) : Host.Outcome State Fault Refusal :=
  run (fun t => t.issue b 0x2B none n.val (execAndIns b)) s

/-- OR (R168): Bitwise OR that sets the flags. -/
def execOr (b : Fin 32) (n : Fin 5) (s : State) : Host.Outcome State Fault Refusal :=
  run (fun t => t.issue b 0x2C none n.val (execOrIns b)) s

/-- SHL (R169): Shifts a register left. -/
def execShl (b : Fin 32) (n : Fin 5) (s : State) : Host.Outcome State Fault Refusal :=
  run (fun t => t.issue b 0x2D none n.val (execShlIns b)) s

/-- SHR (R169): Shifts a register right, logically or arithmetically. -/
def execShr (b : Fin 32) (n : Fin 5) (s : State) : Host.Outcome State Fault Refusal :=
  run (fun t => t.issue b 0x2E none n.val (execShrIns b)) s

/-- CMP (R163): Compares two values and sets only the flags. -/
def execCmp (b : Fin 32) (n : Fin 5) (s : State) : Host.Outcome State Fault Refusal :=
  run (fun t => t.issue b 0x2F none n.val (execCmpIns b)) s

/-- LD (R170): Loads a 32-bit word from local memory. -/
def execLd (b : Fin 32) (n : Fin 5) (s : State) : Host.Outcome State Fault Refusal :=
  run (fun t => t.issue b 0x30 none n.val (execLdIns b)) s

/-- ST (R170): Stores a 32-bit word to local memory. -/
def execSt (b : Fin 32) (n : Fin 5) (s : State) : Host.Outcome State Fault Refusal :=
  run (fun t => t.issue b 0x31 none n.val (execStIns b)) s

/-- SETP (R186): Sets the beam's inner or outer loop set point, which travels with the next point. -/
def execSetp (b : Fin 32) (n : Fin 5) (s : State) : Host.Outcome State Fault Refusal :=
  run (fun t => t.issue b 0x34 none n.val (execSetpIns b)) s

/-- CAMW (R187): Sets the melt-pool camera window origin, which is committed with the next point. -/
def execCamw (b : Fin 32) (n : Fin 5) (s : State) : Host.Outcome State Fault Refusal :=
  run (fun t => t.issue b 0x35 none n.val (execCamwIns b)) s

/-- TAG (R188): Writes SCNn_TAG and can record an event. -/
def execTag (b : Fin 32) (n : Fin 5) (s : State) : Host.Outcome State Fault Refusal :=
  run (fun t => t.issue b 0x38 none n.val (execTagIns b)) s

/-- TRAP (R189): Traps with cause SOFTWARE. -/
def execTrap (b : Fin 32) (n : Fin 5) (s : State) : Host.Outcome State Fault Refusal :=
  run (fun t => t.issue b 0x39 none n.val (execTrapIns b)) s

/-- HALT (R190): Stops issue, fills the Volley with gate-low repeats and empties the claim set. -/
def execHalt (b : Fin 32) (n : Waited (Fin 5)) (s : State) : Host.Outcome State Fault Refusal :=
  run (fun t => t.issue b 0x3A none n.val.val (execHaltIns b n.cycles)) s

end Sys2Proof.Machine
end

