-- ==== Sys2Proof/Machine/RowLighting.lean ====
section
/-! DEFINITION. One meaning for each row of the table: Current sinks and lamp wires (R517 to R531). -/

namespace Sys2Proof.Machine

/-- SINK_ENABLE (R521): Setting LGT_LSn_CTRL.EN makes the sink READY at the next common period start. -/
def execSinkEnable (n : Fin 12) (v : Word) (s : State) : Host.Outcome State Fault Refusal :=
  runReg (LGT_LS_CTRL n) (v ||| 1) (wrLsCtrl n (v ||| 1)) s

/-- SINK_DISABLE (R521): Clearing the sink's EN switches it off at once and enters OFF. -/
def execSinkDisable (n : Fin 12) (v : Word) (s : State) : Host.Outcome State Fault Refusal :=
  runReg (LGT_LS_CTRL n) (v &&& ~~~1#32) (wrLsCtrl n (v &&& ~~~1#32)) s

/-- COMMON_PERIOD_START (R520): At each common PWM period start, the active sinks are numbered and their offsets assigned. -/
def execCommonPeriodStart (s : State) : Host.Outcome State Fault Refusal :=
  run commonPeriodStart s

/-- SINK_PERIOD_START (R518): At its own period start a PWM sink switches on for its on-time and takes new ICODE and DUTY. -/
def execSinkPeriodStart (n : Fin 12) (s : State) : Host.Outcome State Fault Refusal :=
  run (sinkPeriodStart n) s

/-- SINK_ON_TIME_END (R518): The on-time of a PWM period ends and the sink switches off. -/
def execSinkOnTimeEnd (n : Fin 12) (s : State) : Host.Outcome State Fault Refusal :=
  run (sinkOnTimeEnd n) s

/-- STROBE_LONG (R523): A strobe request longer than SMAX switches the sink off and sets SLONG. -/
def execStrobeLong (n : Fin 12) (s : State) : Host.Outcome State Fault Refusal :=
  run (strobeLong n) s

/-- LS_TSD (R524): The sink comparator trips at 140 °C, switches every sink off and puts them into FAULT. -/
def execLsTsd (s : State) : Host.Outcome State Fault Refusal :=
  run lsTsd s

/-- TSD_RELEASE (R525): Writing the key to LGT_TSD_REL while HOT = 0 clears TSD. -/
def execTsdRelease (v : Word) (s : State) : Host.Outcome State Fault Refusal :=
  runReg LGT_TSD_REL v (wrTsdRel v) s

/-- LW_ENABLE (R531): Setting LGT_LWn_CTRL.EN makes the lamp-wire output READY. -/
def execLwEnable (n : Fin 2) (v : Word) (s : State) : Host.Outcome State Fault Refusal :=
  runReg (LGT_LW_CTRL n) (v ||| 1) (wrLwCtrl n (v ||| 1)) s

/-- LW_DISABLE (R531): Clearing the output's EN cuts any frame at the end of its bit and enters OFF. -/
def execLwDisable (n : Fin 2) (v : Word) (s : State) : Host.Outcome State Fault Refusal :=
  runReg (LGT_LW_CTRL n) (v &&& ~~~1#32) (wrLwCtrl n (v &&& ~~~1#32)) s

/-- LW_GO (R530): Writing LGT_LWn_CTRL.GO sends the buffered shares as one frame. -/
def execLwGo (n : Fin 2) (v : Word) (s : State) : Host.Outcome State Fault Refusal :=
  runReg (LGT_LW_CTRL n) (v ||| 2) (wrLwCtrl n (v ||| 2)) s

/-- LW_SYNC (R530): Writing LGT_LWn_CTRL.SYNC sends a SYNC frame. -/
def execLwSync (n : Fin 2) (v : Word) (s : State) : Host.Outcome State Fault Refusal :=
  runReg (LGT_LW_CTRL n) (v ||| 4) (wrLwCtrl n (v ||| 4)) s

/-- LGT_LW_SYNC (R530): A write of LGT_LW_SYNC sends SYNC frames on the selected outputs in the same cycle. -/
def execLgtLwSync (v : Word) (s : State) : Host.Outcome State Fault Refusal :=
  runReg LGT_LW_SYNC v (wrLwSync v) s

/-- LW_DONE (R530): A lamp-wire frame completes and SENT_CNT rises. -/
def execLwDone (n : Fin 2) (s : State) : Host.Outcome State Fault Refusal :=
  run (lwDone n) s

/-- SINK_ARRAY_HOT (R525): The sink array temperature crosses 125 °C and LGT_STATUS.HOT is set or cleared. -/
def execSinkArrayHot (hot : Bool) (s : State) : Host.Outcome State Fault Refusal :=
  run (sinkArrayHot hot) s

end Sys2Proof.Machine
end

