-- ==== Sys2Proof/Machine/RowLoop.lean ====
section
/-! DEFINITION. One meaning for each row of the table: the Control-Law Engines and the traces (R36, R49, R50, R239 to R267). -/

namespace Sys2Proof.Machine

/-- LATCH_INSTANT (R241): At V+0.2 µs photodiode records, ACT values and the melt-pool snapshot are delivered, and each READY
CLE samples its inputs. -/
def execLatchInstant (s : State) : Host.Outcome State Fault Refusal :=
  run latchInstant s

/-- CLE_COMMIT (R246): A CLE completes its inner and outer loops, its following-error check and its trace sample, and commits
its corrections. -/
def execCleCommit (k : Fin 16) (s : State) : Host.Outcome State Fault Refusal :=
  run (cleCommit k) s

/-- CLE_COMMIT_DEADLINE (R49): At V+4.0 µs the computation of any CLE that has not committed ends. -/
def execCleCommitDeadline (s : State) : Host.Outcome State Fault Refusal :=
  run cleCommitDeadline s

/-- CLE_LATE_LIMIT (R50): A run of consecutive late Volleys above CLE_LIMIT puts both beams of the CLE into safe stop. -/
def execCleLateLimit (k : Fin 16) (s : State) : Host.Outcome State Fault Refusal :=
  run (cleLateLimit k) s

/-- CORRECTION_SWITCH (R36): At V+5.0 µs the committed corrections become active at the laser multipliers. -/
def execCorrectionSwitch (s : State) : Host.Outcome State Fault Refusal :=
  run correctionSwitch s

/-- FOLLOWING_ERROR (R259): When FE_RUN reaches TIME, the beam enters safe stop and FE_TRIP is set. -/
def execFollowingError (b : Fin 32) (s : State) : Host.Outcome State Fault Refusal :=
  run (followingError b) s

/-- TRACE_DONE (R266): After 4,095 − PRE samples have followed the trigger, the trace becomes DONE. -/
def execTraceDone (b : Fin 32) (s : State) : Host.Outcome State Fault Refusal :=
  run (traceDone b) s

/-- CLE_ENABLE (R240): Setting CLEn_CTRL.EN makes the CLE READY at the next edge. -/
def execCleEnable (k : Fin 16) (v : Word) (s : State) : Host.Outcome State Fault Refusal :=
  runReg (CLE_CTRL k) (v ||| 1) (wrCleCtrl k (v ||| 1)) s

/-- CLE_DISABLE (R240): Clearing CLEn_CTRL.EN enters STOPPING, then OFF at the next edge, after which M = 0x8000. -/
def execCleDisable (k : Fin 16) (v : Word) (s : State) : Host.Outcome State Fault Refusal :=
  runReg (CLE_CTRL k) (v &&& ~~~1#32) (wrCleCtrl k (v &&& ~~~1#32)) s

/-- INT_RESET (R243): A write of CLEn_Bj_INT_RESET zeroes the selected integrators at the next latch that commits. -/
def execIntReset (b : Fin 32) (v : Word) (s : State) : Host.Outcome State Fault Refusal :=
  runReg (CLE_B_INT_RESET b) v (fun t => wrIntReset b v (t.wrVol b)) s

/-- BANK_VALUE_WRITE (R254): A LO write of a 48-bit bank value is held, and the HI write stores both halves. -/
def execBankValueWrite (b : Fin 32) (bank : Fin 2) (reg : Fin 16) (v : Word) (s : State) : Host.Outcome State Fault Refusal :=
  runReg (CLE_BK_KP b bank + 4 * reg) v (fun t => wrBankValue b bank reg v (t.wrVol b)) s

/-- BANK_WRITE (R255): A write of CLEn_Bj_BANK changes the active bank or arms a switch at SWAT. -/
def execBankWrite (b : Fin 32) (v : Same Word) (s : State) : Host.Outcome State Fault Refusal :=
  runReg (CLE_B_BANK b) v.val (fun t => wrBankRow b v.val v.same t) s

/-- BKLOAD (R257): Writing BKLOAD_CTRL.GO starts a copy of a coefficient bank from DRAM into the staged bank. -/
def execBkload (b : Fin 32) (v : Word) (s : State) : Host.Outcome State Fault Refusal :=
  runReg (CLE_B_BKLOAD_CTRL b) (v ||| 1) (fun t => wrBkload b (v ||| 1) (t.wrVol b)) s

/-- BKLOAD_DONE (R257): The bank copy ends and sets DONE, or sets ERR on a failed read. -/
def execBkloadDone (b : Fin 32) (got : Met (Fin 16)) (s : State) : Host.Outcome State Fault Refusal :=
  runSeen got.seen (bkloadDone b got.val) s

/-- TRACE_ARM (R265): Writing TRC_CTRL.ARM resets the trace indices and enters ARMED. -/
def execTraceArm (b : Fin 32) (v : Word) (s : State) : Host.Outcome State Fault Refusal :=
  runReg (CLE_B_TRC_CTRL b) (v ||| 1) (fun t => wrTrcCtrl b (v ||| 1) (t.wrVol b)) s

/-- TRACE_FORCE (R265): Writing TRC_CTRL.FORCE while ARMED acts as a trigger. -/
def execTraceForce (b : Fin 32) (v : Word) (s : State) : Host.Outcome State Fault Refusal :=
  runReg (CLE_B_TRC_CTRL b) (v ||| 2) (fun t => wrTrcCtrl b (v ||| 2) (t.wrVol b)) s

/-- TRACE_STOP (R265): Writing TRC_CTRL.STOP enters IDLE and keeps the buffer. -/
def execTraceStop (b : Fin 32) (v : Word) (s : State) : Host.Outcome State Fault Refusal :=
  runReg (CLE_B_TRC_CTRL b) (v ||| 4) (fun t => wrTrcCtrl b (v ||| 4) (t.wrVol b)) s

end Sys2Proof.Machine
end

