-- ==== Sys2Proof/Machine/RowManage.lean ====
section
/-! DEFINITION. One meaning for each row of the table: Management, firmware, events, thermal control and Proof (R535 to R557). -/

namespace Sys2Proof.Machine

/-- BOOT_DONE (R538): The boot ROM finishes slot selection and boots firmware or none. -/
def execBootDone (s : State) : Host.Outcome State Fault Refusal :=
  run bootDone s

/-- IMAGE (R540): Update operation that checks an image and writes it to the idle slot as TRIAL. -/
def execImage (v : Word) (s : State) : Host.Outcome State Fault Refusal :=
  runReg MGT_UPD_CTRL (v &&& ~~~0x30#32 ||| 1) (wrUpdCtrl (v &&& ~~~0x30#32 ||| 1)) s

/-- CONFIRM (R540): Update operation that confirms a TRYING slot and advances the fuse counter. -/
def execConfirm (v : Word) (s : State) : Host.Outcome State Fault Refusal :=
  runReg MGT_UPD_CTRL (v &&& ~~~0x30#32 ||| 0x11) (wrUpdCtrl (v &&& ~~~0x30#32 ||| 0x11)) s

/-- KEY (R540): Update operation that blows the key hash into blank fuses. -/
def execKey (v : Word) (s : State) : Host.Outcome State Fault Refusal :=
  runReg MGT_UPD_CTRL (v &&& ~~~0x30#32 ||| 0x21) (wrUpdCtrl (v &&& ~~~0x30#32 ||| 0x21)) s

/-- UPDATE_DONE (R540): An update operation ends with its RESULT and sets DONE. -/
def execUpdateDone (seen : Seen) (flashOk : Bool) (s : State) : Host.Outcome State Fault Refusal :=
  runSeen seen (updateDone flashOk) s

/-- WDT_KICK (R541): Writing the key to MGT_WDT_KICK restarts the watchdog timer. -/
def execWdtKick (v : Word) (s : State) : Host.Outcome State Fault Refusal :=
  runReg MGT_WDT_KICK v (wrWdtKick v) s

/-- WDT_EXPIRE (R541): The watchdog expires and resets only the management processor. -/
def execWdtExpire (s : State) : Host.Outcome State Fault Refusal :=
  run wdtExpire s

/-- EVENT_RECORD (R545): The recorder takes one queued event and writes a new record, with snapshots, or absorbs it as a repeat.
-/
def execEventRecord (s : State) : Host.Outcome State Fault Refusal :=
  run eventRecord s

/-- EVR_D0_READ (R547): A read of EVR_D0 copies the selected record into a holding copy. -/
def execEvrD0Read (s : State) : Host.Outcome State Fault Refusal :=
  runRead evrD0Read s

/-- THERMAL_SAMPLE (R551): At each sensor sample Tmax is taken and the thermal level and sample rate are updated. -/
def execThermalSample (t : List Int) (s : State) : Host.Outcome State Fault Refusal :=
  run (thermalSample t) s

/-- TS_BROKEN (R550): A sensor out of range, failing conversion, or unchanged for 256 samples is marked broken. -/
def execTsBroken (i : Fin 12) (s : State) : Host.Outcome State Fault Refusal :=
  run (tsBroken i) s

/-- TS_BROKEN_CLEAR (R550): A W1C write of CPT_TS_BROKEN clears the bits of sensors that are no longer broken. -/
def execTsBrokenClear (v : Word) (healthy : BitVec 12) (s : State) : Host.Outcome State Fault Refusal :=
  runReg CPT_TS_BROKEN v (wrTsBroken v healthy) s

/-- THROTTLE_GATE (R553): The throttle gate toggles between open for ON µs and closed for OFF µs. -/
def execThrottleGate (s : State) : Host.Outcome State Fault Refusal :=
  run throttleGate s

/-- VM_SAMPLE (R554): At each 10 kHz sample the voltage monitors are checked against their limits. -/
def execVmSample (mv : List (BitVec 16)) (s : State) : Host.Outcome State Fault Refusal :=
  run (vmSample mv) s

/-- PROOF (R555): Writing CAL_CTRL.GO starts the selected Proof steps. -/
def execProof (v : Word) (s : State) : Host.Outcome State Fault Refusal :=
  runReg CAL_CTRL (v ||| 1) (wrCalCtrl (v ||| 1)) s

/-- CAL_ABORT (R555): Writing CAL_CTRL.ABORT ends Proof after the item in progress. -/
def execCalAbort (v : Word) (s : State) : Host.Outcome State Fault Refusal :=
  runReg CAL_CTRL (v ||| 2) (wrCalCtrl (v ||| 2)) s

/-- PROOF_ITEM_DONE (R556): A Proof step finishes an item, and the next item or step starts. -/
def execProofItemDone (seen : Seen) (vals : List Int) (s : State) : Host.Outcome State Fault Refusal :=
  runSeen seen (proofItemDone vals) s

end Sys2Proof.Machine
end

