-- ==== Sys2Proof/Machine/RowMemory.lean ====
section
/-! DEFINITION. One meaning for each row of the table: the DRAM channels (R390 to R419). -/

namespace Sys2Proof.Machine

/-- MEM_CHANNEL_ENABLE (R390): Setting MEM_Mn_CTRL.EN starts initialisation and training, or enters FAULT on a bad
configuration. -/
def execMemChannelEnable (m : Fin 2) (v : Word) (s : State) : Host.Outcome State Fault Refusal :=
  runReg (MEM_M_CTRL m) (v ||| 1) (wrMemCtrl m (v ||| 1)) s

/-- MEM_CHANNEL_READY (R390): Training completes and the channel enters READY with every LOST bit set, or enters FAULT. -/
def execMemChannelReady (m : Fin 2) (trained : Bool) (s : State) : Host.Outcome State Fault Refusal :=
  run (memChannelReady m trained) s

/-- MEM_CHANNEL_DISABLE (R390): Clearing MEM_Mn_CTRL.EN drains the queues and enters OFF. -/
def execMemChannelDisable (m : Fin 2) (v : Word) (s : State) : Host.Outcome State Fault Refusal :=
  runReg (MEM_M_CTRL m) (v &&& ~~~1#32) (wrMemCtrl m (v &&& ~~~1#32)) s

/-- DRAM_REQUEST (R397): A requester's DRAM request is accepted into a class queue and mapped block by block. -/
def execDramRequest (r : DramReq) (s : State) : Host.Outcome State Fault Refusal :=
  run (dramRequest r) s

/-- DRAM_READ_COMPLETE (R402): A DRAM read returns its data with its check outcome. -/
def execDramReadComplete (m : Fin 2) (col : Column) (s : State) : Host.Outcome State Fault Refusal :=
  run (dramReadComplete m col.classK col.nth col.chk) s

/-- RET_REVOKE (R399): A return path that accepts no data for MEM_RET_TO is revoked and its waiting reads complete REVOKED. -/
def execRetRevoke (requester : Nat) (s : State) : Host.Outcome State Fault Refusal :=
  run (retRevoke requester) s

/-- MEM_FREEZE_RELEASE (R404): Writing the key to MEM_FREEZE_REL clears FROZEN. -/
def execMemFreezeRelease (v : Word) (s : State) : Host.Outcome State Fault Refusal :=
  runReg MEM_FREEZE_REL v (wrFreezeRel v) s

/-- MIGRATION_BLOCK_COPY (R407): The migration mover copies one block of the failing rank to the spare. -/
def execMigrationBlockCopy (m : Fin 2) (chk : RdCheck) (s : State) : Host.Outcome State Fault Refusal :=
  run (migrationBlockCopy m chk) s

/-- REFRESH (R410): At each refresh interval the ranks are refreshed. -/
def execRefresh (m : Fin 2) (s : State) : Host.Outcome State Fault Refusal :=
  run (refreshRank m) s

/-- MR4_READ (R410): Every 1 ms MR4 of every rank is read and HOT is updated. -/
def execMr4Read (m : Fin 2) (hot : Bool) (s : State) : Host.Outcome State Fault Refusal :=
  run (mr4Read m hot) s

/-- ACG_TABLE_CLEAR (R416): Every 32 ms every activate-count table empties. -/
def execAcgTableClear (m : Fin 2) (s : State) : Host.Outcome State Fault Refusal :=
  run (acgTableClear m) s

/-- LOST_CLEAR (R411): Writing 1 to a LOST bit clears it, unless hardware sets it in the same cycle. -/
def execLostClear (m : Fin 2) (v : Word) (s : State) : Host.Outcome State Fault Refusal :=
  runReg (MEM_M_LOST m) v (wrLost m v) s

/-- SELF_REFRESH_ENTER (R412): Writing SR.ENTER drains the queues, programs partial-array self-refresh and enters self-refresh.
-/
def execSelfRefreshEnter (m : Fin 2) (v : Word) (s : State) : Host.Outcome State Fault Refusal :=
  runReg (MEM_M_SR m) (v ||| 1) (wrMemSr m (v ||| 1)) s

/-- SELF_REFRESH_EXIT (R412): Writing SR.EXIT, or the first request, leaves self-refresh and sets LOST on the eighths not kept.
-/
def execSelfRefreshExit (m : Fin 2) (v : Word) (s : State) : Host.Outcome State Fault Refusal :=
  runReg (MEM_M_SR m) (v ||| 2) (wrMemSr m (v ||| 2)) s

/-- INIT (R413): Writing MEM_Mn_INIT.GO starts a zero fill of the selected eighths. -/
def execInit (m : Fin 2) (v : Word) (s : State) : Host.Outcome State Fault Refusal :=
  runReg (MEM_M_INIT m) (v ||| 1) (wrMemInit m (v ||| 1)) s

/-- INIT_DONE (R413): The zero fill ends, its LOST bits clear and DONE is set. -/
def execInitDone (m : Fin 2) (s : State) : Host.Outcome State Fault Refusal :=
  run (initDone m) s

/-- RETRAIN (R414): Every PERIOD ms one rank's delays are retrained in a pause of at most 1.2 µs. -/
def execRetrain (m : Fin 2) (beyond : Bool) (s : State) : Host.Outcome State Fault Refusal :=
  run (retrain m beyond) s

/-- FULL_TRAINING (R415): Writing MEM_Mn_TRAIN.GO starts full training of every rank in steps. -/
def execFullTraining (m : Fin 2) (v : Word) (s : State) : Host.Outcome State Fault Refusal :=
  runReg (MEM_M_TRAIN m) (v ||| 1) (wrMemTrain m (v ||| 1)) s

/-- TRAIN_DONE (R415): Full training completes, and DONE, or ERR for a failed rank, is set. -/
def execTrainDone (m : Fin 2) (failed : Bool) (s : State) : Host.Outcome State Fault Refusal :=
  run (trainDone m failed) s

/-- SCRUB_READ (R418): Patrol scrub reads the next block and corrects or poisons it. -/
def execScrubRead (m : Fin 2) (chk : RdCheck) (s : State) : Host.Outcome State Fault Refusal :=
  run (scrubRead m chk) s

/-- DIAG_READ (R419): Writing MEM_DIAG_CTRL.GO starts a raw read of a block. -/
def execDiagRead (v : Word) (s : State) : Host.Outcome State Fault Refusal :=
  runReg MEM_DIAG_CTRL (v ||| 1) (wrDiagCtrl (v ||| 1)) s

/-- DIAG_READ_DONE (R419): The raw data and check bits are in place, and DONE is set. -/
def execDiagReadDone (flip : BitVec 512) (chk : BitVec 128) (s : State) : Host.Outcome State Fault Refusal :=
  run (diagReadDone flip chk) s

end Sys2Proof.Machine
end

