-- ==== Sys2Proof/Machine/RowMotor.lean ====
section
/-! DEFINITION. One meaning for each row of the table: the stepper axes, limit inputs and encoders (R349 to R382). -/

namespace Sys2Proof.Machine

/-- AXIS_ENABLE (R349): Setting MOT_AXn_CTRL.EN makes the axis READY at the next edge, holding its coils. -/
def execAxisEnable (a : Fin 8) (v : Word) (s : State) : Host.Outcome State Fault Refusal :=
  runReg (MOT_AX_CTRL a) (v ||| 1) (wrAxCtrl a (v ||| 1)) s

/-- AXIS_DISABLE (R349): Clearing the axis's EN stops it hard and enters OFF at the next edge. -/
def execAxisDisable (a : Fin 8) (v : Word) (s : State) : Host.Outcome State Fault Refusal :=
  runReg (MOT_AX_CTRL a) (v &&& ~~~1#32) (wrAxCtrl a (v &&& ~~~1#32)) s

/-- GO (R354): Axis command that moves to TARGET along a trapezoid, or replans a move in progress. -/
def execGo (a : Fin 8) (s : State) : Host.Outcome State Fault Refusal :=
  run (axisGo a) s

/-- RUN_POS (R352): Axis command that runs towards + at VMAX until stopped. -/
def execRunPos (a : Fin 8) (s : State) : Host.Outcome State Fault Refusal :=
  run (axisRunPos a) s

/-- RUN_NEG (R352): Axis command that runs towards − at VMAX until stopped. -/
def execRunNeg (a : Fin 8) (s : State) : Host.Outcome State Fault Refusal :=
  run (axisRunNeg a) s

/-- STOP_SOFT (R356): Axis command that decelerates to rest at DMAX. -/
def execStopSoft (a : Fin 8) (s : State) : Host.Outcome State Fault Refusal :=
  run (axisStopSoft a) s

/-- STOP_HARD (R356): Axis command that sets the speed to 0 at its tick. -/
def execStopHard (a : Fin 8) (s : State) : Host.Outcome State Fault Refusal :=
  run (axisStopHard a) s

/-- RESUME (R356): Axis command that, in STOPPED, continues to the same target. -/
def execResume (a : Fin 8) (s : State) : Host.Outcome State Fault Refusal :=
  run (axisResume a) s

/-- HOME (R370): Axis command that runs the homing sequence. -/
def execHome (a : Fin 8) (s : State) : Host.Outcome State Fault Refusal :=
  run (axisHome a) s

/-- PROFILE_TICK (R354): Every 1.0 µs the profile generator advances speed and position and evaluates full-step boundaries and
homing phases. -/
def execProfileTick (a : Fin 8) (adcA adcB : BitVec 12) (s : State) : Host.Outcome State Fault Refusal :=
  run (profileTick a adcA.toNat adcB.toNat) s

/-- AXIS_PWM_PERIOD (R359): At each coil PWM period start, the coils are driven in quiet or strong mode and the mode changes. -/
def execAxisPwmPeriod (a : Fin 8) (s : State) : Host.Outcome State Fault Refusal :=
  run (axisPwmPeriod a) s

/-- STANDSTILL_CURRENT_STEP (R363): After HOLD_DLY at speed 0, SCALE falls by 1 each millisecond towards IHOLD. -/
def execStandstillCurrentStep (a : Fin 8) (s : State) : Host.Outcome State Fault Refusal :=
  run (standstillCurrentStep a) s

/-- AX_STALL (R366): STALL.N consecutive stall steps make a stall, which can stop the axis. -/
def execAxStall (a : Fin 8) (s : State) : Host.Outcome State Fault Refusal :=
  run (axStall a) s

/-- AX_OVERCURRENT (R367): Two consecutive samples above OC_LIM turn all outputs off and put the axis into FAULT. -/
def execAxOvercurrent (a : Fin 8) (s : State) : Host.Outcome State Fault Refusal :=
  run (axOvercurrent a) s

/-- LIMIT_INPUT_CHANGE (R368): A filtered limit or home input changes level. -/
def execLimitInputChange (i : Fin 16) (level : Bool) (s : State) : Host.Outcome State Fault Refusal :=
  run (limitInputChange i level) s

/-- QE_ENABLE (R380): Setting PFB_QEn_CFG.EN makes the quadrature input READY at the next edge. -/
def execQeEnable (q : Fin 8) (raw : BitVec 3) (v : Word) (s : State) : Host.Outcome State Fault Refusal :=
  runReg (PFB_QE_CFG q) (v ||| 1) (wrQeCfg q raw (v ||| 1)) s

/-- QE_COUNT (R374): A filtered A or B change counts POS up or down. -/
def execQeCount (q : Fin 8) (a b : Steady Bool) (dt : Nat) (s : State) : Host.Outcome State Fault Refusal :=
  run (qeCount q a.val b.val a.held b.held dt) s

/-- QE_REJECT (R373): A raw change that reverts before the filter accepts it is rejected. -/
def execQeReject (q : Fin 8) (line : Steady (Fin 3)) (s : State) : Host.Outcome State Fault Refusal :=
  run (qeReject q line.val line.held) s

/-- QE_OVERSPEED (R376): 8 consecutive rejected changes of one line set OVERSPEED. -/
def execQeOverspeed (q : Fin 8) (line : Fin 2) (s : State) : Host.Outcome State Fault Refusal :=
  run (qeOverspeed q line) s

/-- QE_INDEX (R378): An index event latches IDX_POS and checks, or rezeroes, POS. -/
def execQeIndex (q : Fin 8) (level : Steady Bool) (s : State) : Host.Outcome State Fault Refusal :=
  run (qeIndex q level.val level.held) s

/-- QE_STUCK (R379): A line active for STUCK_T without a break is flagged stuck. -/
def execQeStuck (q : Fin 8) (line : Fin 3) (s : State) : Host.Outcome State Fault Refusal :=
  run (qeStuck q line) s

/-- QE_SPEED_TIMEOUT (R377): After 2^24 cycles without a count, SPEED reads 0. -/
def execQeSpeedTimeout (q : Fin 8) (s : State) : Host.Outcome State Fault Refusal :=
  run (qeSpeedTimeout q) s

/-- EO_ENABLE (R381): Setting PFB_EOn_CFG.EN makes the encoder output READY at the next edge. -/
def execEoEnable (e : Fin 4) (v : Word) (s : State) : Host.Outcome State Fault Refusal :=
  runReg (PFB_EO_CFG e) (v ||| 1) (wrEoCfg e (v ||| 1)) s

/-- EO_STEP (R382): The encoder emulation output makes one quadrature change towards its target count. -/
def execEoStep (e : Fin 4) (s : State) : Host.Outcome State Fault Refusal :=
  run (eoStep e) s

/-- COIL_DRIVE_END (R361): Within a coil's PWM period the drive ends, at the first non-blanked sense sample that reaches the
target in strong mode or after the computed cycles in quiet mode, and decay follows, with MIXED fast decay ending after FAST_T.
-/
def execCoilDriveEnd (a : Fin 8) (coilB : Bool) (s : State) : Host.Outcome State Fault Refusal :=
  run (coilDriveEnd a coilB) s

end Sys2Proof.Machine
end

