-- ==== Sys2Proof/Machine/RowScan.lean ====
section
/-! DEFINITION. One meaning for each row of the table: the Scan Engines: their enables, pages and points, and the instructions of Aimapor (R114 to R198, R620). -/

namespace Sys2Proof.Machine

/-- SCN_ENABLE (R620): Setting SCNn_CTRL.EN makes the Scan Engine function READY in the next cycle. -/
def execScnEnable (b : Fin 32) (v : Word) (s : State) : Host.Outcome State Fault Refusal :=
  runReg (SCN_CTRL b) (v ||| 1) (wrScnCtrl b 0 (v ||| 1)) s

/-- SCN_DISABLE (R620): Clearing SCNn_CTRL.EN stops the engine as HALT #0xFFFF would, then enters OFF and clears the present
bits. -/
def execScnDisable (b : Fin 32) (v : Waited Word) (s : State) : Host.Outcome State Fault Refusal :=
  runReg (SCN_CTRL b) (v.val &&& ~~~1#32) (wrScnCtrl b v.cycles (v.val &&& ~~~1#32)) s

/-- PAGE_SET (R118): A write to SCNn_PAGE_SET sets present bits, and engines waiting on those pages resume. -/
def execPageSet (b : Fin 32) (v : Word) (s : State) : Host.Outcome State Fault Refusal :=
  runReg (SCN_PAGE_SET b) v (wrPageSet b v) s

/-- PAGE_CLR (R118): A write to SCNn_PAGE_CLR clears present bits and discards instruction words fetched from those pages. -/
def execPageClr (b : Fin 32) (v : Word) (s : State) : Host.Outcome State Fault Refusal :=
  runReg (SCN_PAGE_CLR b) v (wrPageClr b v) s

/-- POINT_COMPUTE (R130): The engine computes the next point of the owning instruction and places it in the buffer once the
buffer has room. -/
def execPointCompute (b : Fin 32) (waited : Nat) (s : State) : Host.Outcome State Fault Refusal :=
  run (pointCompute b waited) s

/-- MOVE (R141): A gate-low jerk-limited jump to the target. -/
def execMove (b : Fin 32) (n : Fin 5) (s : State) : Host.Outcome State Fault Refusal :=
  run (fun t => t.issue b 0x01 none n.val (execMoveIns b)) s

/-- MARK (R142): A gate-high straight segment at speed SP. -/
def execMark (b : Fin 32) (n : Fin 5) (s : State) : Host.Outcome State Fault Refusal :=
  run (fun t => t.issue b 0x02 none n.val (execMarkIns b)) s

/-- ARC (R145): A gate-high circular arc at speed SP. -/
def execArc (b : Fin 32) (n : Fin 5) (s : State) : Host.Outcome State Fault Refusal :=
  run (fun t => t.issue b 0x03 none n.val (execArcIns b)) s

/-- SKY_IN (R148): A skywriting run-in, evaluated against the following MARK or ARC. -/
def execSkyIn (b : Fin 32) (n : Fin 5) (s : State) : Host.Outcome State Fault Refusal :=
  run (fun t => t.issue b 0x04 (some 0) n.val (execSkyInIns b)) s

/-- SKY_OUT (R149): A skywriting run-out after a MARK or ARC. -/
def execSkyOut (b : Fin 32) (n : Fin 5) (s : State) : Host.Outcome State Fault Refusal :=
  run (fun t => t.issue b 0x04 (some 1) n.val (execSkyOutIns b)) s

/-- WOB (R151): Sets or turns off the wobble of later gate-high points. -/
def execWob (b : Fin 32) (n : Fin 5) (s : State) : Host.Outcome State Fault Refusal :=
  run (fun t => t.issue b 0x05 none n.val (execWobIns b)) s

/-- POWER (R153): Sets PW and ends any running ramp. -/
def execPower (b : Fin 32) (n : Fin 5) (s : State) : Host.Outcome State Fault Refusal :=
  run (fun t => t.issue b 0x06 none n.val (execPowerIns b)) s

/-- RAMP (R154): Ramps the power over path time. -/
def execRamp (b : Fin 32) (n : Fin 5) (s : State) : Host.Outcome State Fault Refusal :=
  run (fun t => t.issue b 0x07 none n.val (execRampIns b)) s

/-- SPEED (R155): Sets the marking speed SP. -/
def execSpeed (b : Fin 32) (n : Fin 5) (s : State) : Host.Outcome State Fault Refusal :=
  run (fun t => t.issue b 0x08 none n.val (execSpeedIns b)) s

/-- DWELL (R156): Holds the program position for a path time, with the gate low or high. -/
def execDwell (b : Fin 32) (n : Fin 5) (s : State) : Host.Outcome State Fault Refusal :=
  run (fun t => t.issue b 0x09 none n.val (execDwellIns b)) s

/-- SYNC_TIMEOUT (R185): A barrier that has not released within H round results withdraws the arrival and sets SYNC_TO. -/
def execSyncTimeout (b : Fin 32) (s : State) : Host.Outcome State Fault Refusal :=
  run (syncTimeout b) s

/-- TAKE_BYTES_WRITTEN (R179): By V+2.5 µs the 32 bytes of a granted take are written to the engine's local memory, and a PULL.W
waiting for them resumes. -/
def execTakeBytesWritten (b : Fin 32) (s : State) : Host.Outcome State Fault Refusal :=
  run (takeBytesWritten b) s

/-- ILLEGAL_INSTRUCTION (R133): An engine issues a word with an unassigned opcode, an unlisted M or a non-zero unused field, and
traps with ILLEGAL_INSTRUCTION before it has any effect. -/
def execIllegalInstruction (b : Fin 32) (n : Fin 5) (s : State) : Host.Outcome State Fault Refusal :=
  run (illegalInstruction b n.val) s

end Sys2Proof.Machine
end

