-- ==== Sys2Proof/Machine/RowSerial.lean ====
section
/-! DEFINITION. One meaning for each row of the table: Lanes, Colud Link and Ethernet (R456 to R493). -/

namespace Sys2Proof.Machine

/-- LANE_ENABLE (R457): Enabling a lane starts PLL lock in STARTING. -/
def execLaneEnable (l : Fin 12) (v : Word) (s : State) : Host.Outcome State Fault Refusal :=
  runLaneReg (LANE_CTRL l) (v ||| 1) (wrLaneCtrl l (v ||| 1)) s

/-- LANE_READY (R457): The transmit PLL locks and the lane enters READY, or its port enters FAULT on a rate mismatch. -/
def execLaneReady (l : Fin 12) (s : State) : Host.Outcome State Fault Refusal :=
  run (laneReady l) s

/-- LANE_DISABLE (R457): A lane with neither its own EN nor its port's EN enters OFF. -/
def execLaneDisable (l : Fin 12) (v : Word) (s : State) : Host.Outcome State Fault Refusal :=
  runLaneReg (LANE_CTRL l) (v &&& ~~~1#32) (wrLaneCtrl l (v &&& ~~~1#32)) s

/-- LANE_LOS (R459): The onset of loss of signal sets LOS. -/
def execLaneLos (l : Fin 12) (s : State) : Host.Outcome State Fault Refusal :=
  run (laneLos l) s

/-- LANE_LOL (R459): The onset of loss of lock sets LOL. -/
def execLaneLol (l : Fin 12) (s : State) : Host.Outcome State Fault Refusal :=
  run (laneLol l) s

/-- BLOCK_LOCK (R460): 64 consecutive valid sync headers set BLOCK. -/
def execBlockLock (l : Fin 12) (headers : List Bool) (s : State) : Host.Outcome State Fault Refusal :=
  run (blockLock l headers) s

/-- LANE_BLOCK_LOSS (R460): 16 invalid headers in 64 blocks clear BLOCK and restart the hunt. -/
def execLaneBlockLoss (l : Fin 12) (headers : List Bool) (s : State) : Host.Outcome State Fault Refusal :=
  run (laneBlockLoss l headers) s

/-- SLIP (R461): Writing LANEn_SLIP moves the block boundary by one bit. -/
def execSlip (l : Fin 12) (v : Word) (s : State) : Host.Outcome State Fault Refusal :=
  runLaneReg (LANE_SLIP l) (v ||| 1) (wrSlip l (v ||| 1)) s

/-- EYE_SWEEP (R463): Every 1 ms the eye monitor updates LANEn_EYE. -/
def execEyeSweep (l : Fin 12) (w : BitVec 6) (h : BitVec 10) (s : State) : Host.Outcome State Fault Refusal :=
  run (eyeSweep l w.toNat h.toNat) s

/-- PRBS_SYNC (R464): 64 consecutive matching bits set the checker's SYNC. -/
def execPrbsSync (x : LaneBits) (s : State) : Host.Outcome State Fault Refusal :=
  run (prbsSync x.lane x.bits x.own) s

/-- PRBS_SYNC_LOSS (R464): More than 32 of 64 bits differing clears SYNC and reseeds the checker. -/
def execPrbsSyncLoss (l : Fin 12) (bits : List Bool) (own : Nat) (s : State) : Host.Outcome State Fault Refusal :=
  run (prbsSyncLoss l bits own) s

/-- INJ (R465): Writing PRBS_CTRL.INJ inverts one transmitted bit of the generator. -/
def execInj (l : Fin 12) (v : Word) (s : State) : Host.Outcome State Fault Refusal :=
  runLaneReg (LANE_PRBS_CTRL l) (v ||| 0x100) (wrPrbsCtrl l (v ||| 0x100)) s

/-- LINK_ENABLE (R468): Setting LNKn_CTRL.EN starts training at DETECT. -/
def execLinkEnable (p : Fin 4) (v : Word) (s : State) : Host.Outcome State Fault Refusal :=
  runReg (LNK_CTRL p) (v ||| 1) (wrLnkCtrl p (v ||| 1)) s

/-- LINK_DISABLE (R469): Clearing LNKn_CTRL.EN sets the link state to DISABLED. -/
def execLinkDisable (p : Fin 4) (v : Word) (s : State) : Host.Outcome State Fault Refusal :=
  runReg (LNK_CTRL p) (v &&& ~~~1#32) (wrLnkCtrl p (v &&& ~~~1#32)) s

/-- DETECT_DONE (R469): After every lane has had signal and lock for 1 ms, the port leaves DETECT for TRAIN. -/
def execDetectDone (p : Fin 4) (s : State) : Host.Outcome State Fault Refusal :=
  run (detectDone p) s

/-- TRAIN_ADAPT_DONE (R469): After 2 ms of adaptation the port sends ready if every eye meets EYE_MIN. -/
def execTrainAdaptDone (p : Fin 4) (s : State) : Host.Outcome State Fault Refusal :=
  run (trainAdaptDone p) s

/-- TRAIN (R469): A TRAIN block from the peer is received, and a ready handshake moves the port to LOCK. -/
def execTrain (p : Fin 4) (ready : Bool) (s : State) : Host.Outcome State Fault Refusal :=
  run (trainBlock p ready) s

/-- LOCK_DONE (R469): Once every lane has block lock, its lane number and a skew within limits, the port enters CAPX. -/
def execLockDone (p : Fin 4) (s : State) : Host.Outcome State Fault Refusal :=
  run (lockDone p) s

/-- LINK_TRAIN_FAIL (R469): A training state limit expires and the port returns to DETECT. -/
def execLinkTrainFail (p : Fin 4) (s : State) : Host.Outcome State Fault Refusal :=
  run (linkTrainFail p) s

/-- CAP (R471): A capability packet is received and the pairing sets the link role and width. -/
def execCap (p : Fin 4) (crcOk : Bool) (c : CapInfo) (s : State) : Host.Outcome State Fault Refusal :=
  run (capPacket p crcOk c) s

/-- LINK_DOWN (R470): A lane fault, or 100 µs without blocks, returns an ACTIVE port to DETECT and discards its packets. -/
def execLinkDown (p : Fin 4) (s : State) : Host.Outcome State Fault Refusal :=
  run (linkDown p) s

/-- CREDIT (R476): A CREDIT block returns receive credits by class. -/
def execCredit (p : Fin 4) (t n : Nat) (s : State) : Host.Outcome State Fault Refusal :=
  run (creditBlock p t n) s

/-- CREDIT_DROP (R477): A class N packet that has waited LNK_CRED_TO for credits is dropped. -/
def execCreditDrop (p : Fin 4) (s : State) : Host.Outcome State Fault Refusal :=
  run (creditDrop p) s

/-- CMD (R475): A Colud Link command packet is routed, or delivered locally as a command frame. -/
def execCmd (p : Fin 4) (blocks : List LnkBlock) (s : State) : Host.Outcome State Fault Refusal :=
  run (cmdPacket p blocks) s

/-- RSP (R474): A response packet is routed, or sent back to its Ethernet source through the forwarding entry. -/
def execRsp (p : Fin 4) (blocks : List LnkBlock) (s : State) : Host.Outcome State Fault Refusal :=
  run (rspPacket p blocks) s

/-- BCAST (R474): A broadcast packet travels to the root, and each device executes it and copies it downstream. -/
def execBcast (p : Fin 4) (blocks : List LnkBlock) (s : State) : Host.Outcome State Fault Refusal :=
  run (bcastPacket p blocks) s

/-- EVENT (R474): An attach or detach report is routed to the root and recorded there. -/
def execEvent (p : Fin 4) (blocks : List LnkBlock) (s : State) : Host.Outcome State Fault Refusal :=
  run (eventPacket p blocks) s

/-- ETH_CMD_FORWARD (R479): A frame from E0 or E1 for another TARGET is forwarded down the chain with a forwarding entry. -/
def execEthCmdForward (e : Fin 2) (fec : Fec) (frame : List Byte) (s : State) : Host.Outcome State Fault Refusal :=
  run (ethCmdForward e fec frame) s

/-- FWD_ENTRY_TIMEOUT (R479): A forwarding entry without a response for LNK_FWD_TO is freed. -/
def execFwdEntryTimeout (i : Fin 64) (s : State) : Host.Outcome State Fault Refusal :=
  run (fwdEntryTimeout i) s

/-- KICKOFF (R480): Writing LNK_KICK_CTRL.GO on the root starts the count phase of Kickoff. -/
def execKickoff (v : Word) (s : State) : Host.Outcome State Fault Refusal :=
  runReg LNK_KICK_CTRL (v ||| 1) (wrKickCtrl (v ||| 1)) s

/-- KICK_COUNT (R481): A count packet is forwarded downstream with a reduced budget, or its reply is summed upward. -/
def execKickCount (p : Fin 4) (crcOk : Bool) (reply : Bool) (n : Nat) (s : State) : Host.Outcome State Fault Refusal :=
  run (kickCountPkt p crcOk reply n) s

/-- KICK_BUDGET_EXPIRY (R481): A port that has not replied within its budget counts 0 and is marked UNASSIGNED. -/
def execKickBudgetExpiry (p : Fin 4) (s : State) : Host.Outcome State Fault Refusal :=
  run (kickBudgetExpiry p) s

/-- KICK_ASSIGN (R482): An assign packet sets the device address and distributes ranges to its ports. -/
def execKickAssign (p : Fin 4) (crcOk : Bool) (base : BitVec 16) (size : Nat) (s : State) : Host.Outcome State Fault Refusal :=
  run (kickAssignPkt p crcOk base.toNat size) s

/-- ETH_PORT_ENABLE (R487): Setting NETn_CTRL.EN enters READY with its lane, or FAULT on a bad MAC or FEC. -/
def execEthPortEnable (e : Fin 2) (v : Word) (s : State) : Host.Outcome State Fault Refusal :=
  runReg (NET_CTRL e) (v ||| 1) (wrNetCtrl e (v ||| 1)) s

/-- ETH_LINK_UP (R487): The PCS reaches block lock without hi_ber, and LINK rises. -/
def execEthLinkUp (e : PortFec) (s : State) : Host.Outcome State Fault Refusal :=
  run (ethLinkUp e.port e.fec) s

/-- ETH_LINK_DOWN (R487): LINK falls, and LINK_DOWN is set. -/
def execEthLinkDown (e : PortFec) (s : State) : Host.Outcome State Fault Refusal :=
  run (ethLinkDown e.port e.fec) s

/-- ARP_REQUEST (R488): An ARP request for the port's IPv4 address is answered. -/
def execArpRequest (e : Fin 2) (frame : List Byte) (s : State) : Host.Outcome State Fault Refusal :=
  run (arpRequest e frame) s

/-- ICMP_ECHO_REQUEST (R488): An ICMPv4 or ICMPv6 echo request is answered. -/
def execIcmpEchoRequest (e : Fin 2) (frame : List Byte) (s : State) : Host.Outcome State Fault Refusal :=
  run (icmpEchoRequest e frame) s

/-- NEIGHBOUR_SOLICITATION (R488): A neighbour solicitation for the port's IPv6 address is answered. -/
def execNeighbourSolicitation (e : Fin 2) (frame : List Byte) (s : State) : Host.Outcome State Fault Refusal :=
  run (neighbourSolicitation e frame) s

/-- ETH_FRAME_DROP (R488): An unsupported or bad Ethernet frame is dropped and counted. -/
def execEthFrameDrop (e : PortFec) (badFcs : Bool) (s : State) : Host.Outcome State Fault Refusal :=
  run (ethFrameDrop e.port badFcs e.fec) s

/-- LANE_SIGNAL_RETURN (R459): The received amplitude returns above LOS_CFG.THR and STATUS.SIG becomes 1. -/
def execLaneSignalReturn (l : Fin 12) (s : State) : Host.Outcome State Fault Refusal :=
  run (laneSignalReturn l) s

/-- LANE_CDR_LOCK (R459): Clock recovery regains lock within 300 ppm and STATUS.CDR becomes 1. -/
def execLaneCdrLock (l : Fin 12) (s : State) : Host.Outcome State Fault Refusal :=
  run (laneCdrLock l) s

/-- IDLE (R470): A Colud Link IDLE control block is received, which restarts the 100 µs liveness timer of an ACTIVE port. -/
def execIdle (p : Fin 4) (s : State) : Host.Outcome State Fault Refusal :=
  run (idleBlock p) s

/-- ALIGN (R467): An ALIGN block is received on a lane, giving its lane number and deskew marker for lane ordering and deskew.
-/
def execAlign (l : Fin 12) (x : AlignAt) (s : State) : Host.Outcome State Fault Refusal :=
  run (alignBlock l x.num x.at_) s

end Sys2Proof.Machine
end

