-- ==== Sys2Proof/Machine/RowVolley.lean ====
section
/-! DEFINITION. One meaning for each row of the table: the Volley and the output stage (R25 to R62, R105, R336). -/

namespace Sys2Proof.Machine

/-- VOLLEY_EDGE (R32): At each Volley edge the Volley number rises by 1 and the edge work of every Volley-timed function is
done. -/
def execVolleyEdge (s : State) : Host.Outcome State Fault Refusal :=
  run volleyEdge s

/-- LOCAL_TICK (R31): While the generator makes no edges, a local 10,000 ns tick serves as the edge of every Volley-timed
function. -/
def execLocalTick (s : State) : Host.Outcome State Fault Refusal :=
  run localTick s

/-- VOL_ENABLE (R25): Setting GLB_VOL_CTRL.EN enters STARTING, which waits for a valid TB0 or, with SRC = LOCAL, for its first
local edge. -/
def execVolEnable (v : Word) (s : State) : Host.Outcome State Fault Refusal :=
  runReg GLB_VOL_CTRL (v ||| 1) (wrVolCtrl (v ||| 1)) s

/-- VOL_LOCK (R25): Once TB0 is valid, the generator places its first edge, loads the Volley number, enters READY and sets LOCK.
-/
def execVolLock (s : State) : Host.Outcome State Fault Refusal :=
  run volLock s

/-- VOL_DISABLE (R30): Clearing GLB_VOL_CTRL.EN safe-stops every running beam, and the generator passes through STOPPING to OFF,
cancelling queued timed commands. -/
def execVolDisable (v : Word) (s : State) : Host.Outcome State Fault Refusal :=
  runReg GLB_VOL_CTRL (v &&& ~~~1#32) (wrVolCtrl (v &&& ~~~1#32)) s

/-- RELOCK (R28): Writing RELOCK while LOCK = 0 and no engine runs returns the generator to STARTING and expires overtaken timed
commands. -/
def execRelock (v : Word) (s : State) : Host.Outcome State Fault Refusal :=
  runReg GLB_VOL_CTRL (v ||| 4) (wrVolCtrl (v ||| 4)) s

/-- POINT_SLOT (R34): At each 1.0 µs slot instant a point leaves the scan port, and the laser DAC and gate update. -/
def execPointSlot (j : Fin 10) (s : State) : Host.Outcome State Fault Refusal :=
  run (pointSlotRow j) s

/-- POINT_DEADLINE (R39): At V+9.0 µs the point buffer of every running engine is tested, and the engine's budget window ends.
-/
def execPointDeadline (win : Nat) (s : State) : Host.Outcome State Fault Refusal :=
  run (pointDeadline win) s

/-- DEAD_BALL_LIMIT (R43): A run of consecutive dead balls above DB_LIMIT puts the beam into safe stop. -/
def execDeadBallLimit (b : Fin 32) (s : State) : Host.Outcome State Fault Refusal :=
  run (deadBallLimit b) s

/-- OUTPUT_MERGE (R32): From V+9.0 µs to V+9.8 µs the output stage takes the buffers, applies field correction and the Court
check, and builds the next Volley's frames. -/
def execOutputMerge (s : State) : Host.Outcome State Fault Refusal :=
  run outputMerge s

/-- HOLD_DARK_TIMEOUT (R336): When no dark merge has come by Volley N + MAX − 1, a DARK-mode hold pauses the beam anyway. -/
def execHoldDarkTimeout (b : Fin 32) (s : State) : Host.Outcome State Fault Refusal :=
  run (holdDarkTimeout b) s

/-- DBLOG_RD_WRITE (R62): A write of GLB_DBLOG_RD frees dead-ball records, and a write outside the permitted range is ignored.
-/
def execDblogRdWrite (v : Word) (s : State) : Host.Outcome State Fault Refusal :=
  runReg GLB_DBLOG_RD v (wrDblogRd v) s

/-- SAFE_STOP_SEQUENCE (R105): At the first DAC update instant after a cause, the gate goes low, the engine halts and parking
begins. -/
def execSafeStopSequence (b : Fin 32) (s : State) : Host.Outcome State Fault Refusal :=
  run (fun t => t.ssBegin b) s

end Sys2Proof.Machine
end

