-- ==== Sys2Proof/Machine/Dispatch.lean ====
section
/-! DEFINITION. The meaning of every command: one arm per constructor of Instr. -/

namespace Sys2Proof.Machine

/-- What a command does to everything but the queue. -/
def exec (i : Instr) (s : State) : Host.Outcome State Fault Refusal :=
  match i with
  | .volleyEdge => Sys2Proof.Machine.execVolleyEdge s
  | .localTick => Sys2Proof.Machine.execLocalTick s
  | .volEnable v => Sys2Proof.Machine.execVolEnable v s
  | .volLock => Sys2Proof.Machine.execVolLock s
  | .volDisable v => Sys2Proof.Machine.execVolDisable v s
  | .relock v => Sys2Proof.Machine.execRelock v s
  | .pointSlot j => Sys2Proof.Machine.execPointSlot j s
  | .pointDeadline win => Sys2Proof.Machine.execPointDeadline win s
  | .deadBallLimit b => Sys2Proof.Machine.execDeadBallLimit b s
  | .outputMerge => Sys2Proof.Machine.execOutputMerge s
  | .holdDarkTimeout b => Sys2Proof.Machine.execHoldDarkTimeout b s
  | .latchInstant => Sys2Proof.Machine.execLatchInstant s
  | .cleCommit k => Sys2Proof.Machine.execCleCommit k s
  | .cleCommitDeadline => Sys2Proof.Machine.execCleCommitDeadline s
  | .cleLateLimit k => Sys2Proof.Machine.execCleLateLimit k s
  | .correctionSwitch => Sys2Proof.Machine.execCorrectionSwitch s
  | .followingError b => Sys2Proof.Machine.execFollowingError b s
  | .traceDone b => Sys2Proof.Machine.execTraceDone b s
  | .dblogRdWrite v => Sys2Proof.Machine.execDblogRdWrite v s
  | .gridWrite b v => Sys2Proof.Machine.execGridWrite b v s
  | .gridRead b => Sys2Proof.Machine.execGridRead b s
  | .channelEnable b v => Sys2Proof.Machine.execChannelEnable b v s
  | .channelDisable b v => Sys2Proof.Machine.execChannelDisable b v s
  | .channelStartTimeout b => Sys2Proof.Machine.execChannelStartTimeout b s
  | .rxPhaseSearchDone b phase => Sys2Proof.Machine.execRxPhaseSearchDone b phase s
  | .statWord b slot w => Sys2Proof.Machine.execStatWord b slot w s
  | .headLost b => Sys2Proof.Machine.execHeadLost b s
  | .laserInputChange b rdy alm => Sys2Proof.Machine.execLaserInputChange b rdy alm s
  | .pdEnable n v => Sys2Proof.Machine.execPdEnable n v s
  | .pdDisable n v => Sys2Proof.Machine.execPdDisable n v s
  | .backReflection b => Sys2Proof.Machine.execBackReflection b s
  | .safeStopSequence b => Sys2Proof.Machine.execSafeStopSequence b s
  | .ilkOpen n => Sys2Proof.Machine.execIlkOpen n s
  | .ilkRearm v => Sys2Proof.Machine.execIlkRearm v s
  | .scnEnable b v => Sys2Proof.Machine.execScnEnable b v s
  | .scnDisable b v => Sys2Proof.Machine.execScnDisable b v s
  | .pageSet b v => Sys2Proof.Machine.execPageSet b v s
  | .pageClr b v => Sys2Proof.Machine.execPageClr b v s
  | .pointCompute b waited => Sys2Proof.Machine.execPointCompute b waited s
  | .move b n => Sys2Proof.Machine.execMove b n s
  | .mark b n => Sys2Proof.Machine.execMark b n s
  | .arc b n => Sys2Proof.Machine.execArc b n s
  | .skyIn b n => Sys2Proof.Machine.execSkyIn b n s
  | .skyOut b n => Sys2Proof.Machine.execSkyOut b n s
  | .wob b n => Sys2Proof.Machine.execWob b n s
  | .power b n => Sys2Proof.Machine.execPower b n s
  | .ramp b n => Sys2Proof.Machine.execRamp b n s
  | .speed b n => Sys2Proof.Machine.execSpeed b n s
  | .dwell b n => Sys2Proof.Machine.execDwell b n s
  | .waitv b n => Sys2Proof.Machine.execWaitv b n s
  | .claim b n => Sys2Proof.Machine.execClaim b n s
  | .claimt b n => Sys2Proof.Machine.execClaimt b n s
  | .release b n => Sys2Proof.Machine.execRelease b n s
  | .releaseAll b n => Sys2Proof.Machine.execReleaseAll b n s
  | .pullP b n => Sys2Proof.Machine.execPullP b n s
  | .pullW b n => Sys2Proof.Machine.execPullW b n s
  | .passpt b n => Sys2Proof.Machine.execPasspt b n s
  | .sync b n => Sys2Proof.Machine.execSync b n s
  | .syncB b n => Sys2Proof.Machine.execSyncB b n s
  | .syncTimeout b => Sys2Proof.Machine.execSyncTimeout b s
  | .call b n => Sys2Proof.Machine.execCall b n s
  | .ret b n => Sys2Proof.Machine.execRet b n s
  | .loop b n => Sys2Proof.Machine.execLoop b n s
  | .endl b n => Sys2Proof.Machine.execEndl b n s
  | .br b n => Sys2Proof.Machine.execBr b n s
  | .brc b n => Sys2Proof.Machine.execBrc b n s
  | .ldi b n => Sys2Proof.Machine.execLdi b n s
  | .add b n => Sys2Proof.Machine.execAdd b n s
  | .sub b n => Sys2Proof.Machine.execSub b n s
  | .and b n => Sys2Proof.Machine.execAnd b n s
  | .or b n => Sys2Proof.Machine.execOr b n s
  | .shl b n => Sys2Proof.Machine.execShl b n s
  | .shr b n => Sys2Proof.Machine.execShr b n s
  | .cmp b n => Sys2Proof.Machine.execCmp b n s
  | .ld b n => Sys2Proof.Machine.execLd b n s
  | .st b n => Sys2Proof.Machine.execSt b n s
  | .setp b n => Sys2Proof.Machine.execSetp b n s
  | .camw b n => Sys2Proof.Machine.execCamw b n s
  | .tag b n => Sys2Proof.Machine.execTag b n s
  | .trap b n => Sys2Proof.Machine.execTrap b n s
  | .halt b n => Sys2Proof.Machine.execHalt b n s
  | .courtMapWrite n v => Sys2Proof.Machine.execCourtMapWrite n v s
  | .mapLoad v => Sys2Proof.Machine.execMapLoad v s
  | .mapLoadDone got => Sys2Proof.Machine.execMapLoadDone got s
  | .arbEnable v => Sys2Proof.Machine.execArbEnable v s
  | .arbDisable v => Sys2Proof.Machine.execArbDisable v s
  | .roundPublish cyc => Sys2Proof.Machine.execRoundPublish cyc s
  | .grantRevoked b => Sys2Proof.Machine.execGrantRevoked b s
  | .poolStageReadDone p slot seen => Sys2Proof.Machine.execPoolStageReadDone p slot seen s
  | .poolEnable p v => Sys2Proof.Machine.execPoolEnable p v s
  | .poolDisable p v => Sys2Proof.Machine.execPoolDisable p v s
  | .poolLoadedWrite p v => Sys2Proof.Machine.execPoolLoadedWrite p v s
  | .rwlogRdWrite v => Sys2Proof.Machine.execRwlogRdWrite v s
  | .cleEnable k v => Sys2Proof.Machine.execCleEnable k v s
  | .cleDisable k v => Sys2Proof.Machine.execCleDisable k v s
  | .intReset b v => Sys2Proof.Machine.execIntReset b v s
  | .bankValueWrite b bank reg v => Sys2Proof.Machine.execBankValueWrite b bank reg v s
  | .bankWrite b v => Sys2Proof.Machine.execBankWrite b v s
  | .bkload b v => Sys2Proof.Machine.execBkload b v s
  | .bkloadDone b got => Sys2Proof.Machine.execBkloadDone b got s
  | .traceArm b v => Sys2Proof.Machine.execTraceArm b v s
  | .traceForce b v => Sys2Proof.Machine.execTraceForce b v s
  | .traceStop b v => Sys2Proof.Machine.execTraceStop b v s
  | .camPortEnable n v => Sys2Proof.Machine.execCamPortEnable n v s
  | .camPortReady n => Sys2Proof.Machine.execCamPortReady n s
  | .camPortDisable n v => Sys2Proof.Machine.execCamPortDisable n v s
  | .dphySkewCalibration n => Sys2Proof.Machine.execDphySkewCalibration n s
  | .ultraLowPowerState n enter => Sys2Proof.Machine.execUltraLowPowerState n enter s
  | .frameStart h => Sys2Proof.Machine.execFrameStart h s
  | .frameEnd h => Sys2Proof.Machine.execFrameEnd h s
  | .pixelLine h payload crc => Sys2Proof.Machine.execPixelLine h payload crc s
  | .lineStart h => Sys2Proof.Machine.execLineStart h s
  | .lineEnd h => Sys2Proof.Machine.execLineEnd h s
  | .genericShort h => Sys2Proof.Machine.execGenericShort h s
  | .embeddedData pkt => Sys2Proof.Machine.execEmbeddedData pkt s
  | .camUnknown pkt => Sys2Proof.Machine.execCamUnknown pkt s
  | .camPhyErr n => Sys2Proof.Machine.execCamPhyErr n s
  | .frameTimeout c => Sys2Proof.Machine.execFrameTimeout c s
  | .linePick => Sys2Proof.Machine.execLinePick s
  | .recordComplete c => Sys2Proof.Machine.execRecordComplete c s
  | .archiveRecordWritten m => Sys2Proof.Machine.execArchiveRecordWritten m s
  | .arcRdWrite m v => Sys2Proof.Machine.execArcRdWrite m v s
  | .ctxEnable c v => Sys2Proof.Machine.execCtxEnable c v s
  | .ctxDisable c v => Sys2Proof.Machine.execCtxDisable c v s
  | .ctxCommit c v => Sys2Proof.Machine.execCtxCommit c v s
  | .cciWriteDone n ack => Sys2Proof.Machine.execCciWriteDone n ack s
  | .cciTimeout n => Sys2Proof.Machine.execCciTimeout n s
  | .featRead c => Sys2Proof.Machine.execFeatRead c s
  | .tableWrite t n v => Sys2Proof.Machine.execTableWrite t n v s
  | .triggerPulseEnd m => Sys2Proof.Machine.execTriggerPulseEnd m s
  | .strobeRequestRise m => Sys2Proof.Machine.execStrobeRequestRise m s
  | .strobeRequestFall m => Sys2Proof.Machine.execStrobeRequestFall m s
  | .ping src frame => Sys2Proof.Machine.execPing src frame s
  | .readReg src frame => Sys2Proof.Machine.execReadReg src frame s
  | .writeReg src frame => Sys2Proof.Machine.execWriteReg src frame s
  | .readMem src frame => Sys2Proof.Machine.execReadMem src frame s
  | .writeMem src frame => Sys2Proof.Machine.execWriteMem src frame s
  | .snap src frame => Sys2Proof.Machine.execSnap src frame s
  | .batchLoad src frame => Sys2Proof.Machine.execBatchLoad src frame s
  | .batchLoadDone seen => Sys2Proof.Machine.execBatchLoadDone seen s
  | .batchArm src frame => Sys2Proof.Machine.execBatchArm src frame s
  | .batchStart src frame => Sys2Proof.Machine.execBatchStart src frame s
  | .batchHold src frame => Sys2Proof.Machine.execBatchHold src frame s
  | .batchResume src frame => Sys2Proof.Machine.execBatchResume src frame s
  | .batchAbort src frame => Sys2Proof.Machine.execBatchAbort src frame s
  | .batchStatus src frame => Sys2Proof.Machine.execBatchStatus src frame s
  | .safeStop src frame => Sys2Proof.Machine.execSafeStop src frame s
  | .beamRestart src frame => Sys2Proof.Machine.execBeamRestart src frame s
  | .cancel src frame => Sys2Proof.Machine.execCancel src frame s
  | .journalRead src frame => Sys2Proof.Machine.execJournalRead src frame s
  | .session src frame => Sys2Proof.Machine.execSession src frame s
  | .badOpcode src frame => Sys2Proof.Machine.execBadOpcode src frame s
  | .mgtCmdGo v => Sys2Proof.Machine.execMgtCmdGo v s
  | .journalMirrorEnable v => Sys2Proof.Machine.execJournalMirrorEnable v s
  | .journalMirrorWrite seen => Sys2Proof.Machine.execJournalMirrorWrite seen s
  | .axisEnable a v => Sys2Proof.Machine.execAxisEnable a v s
  | .axisDisable a v => Sys2Proof.Machine.execAxisDisable a v s
  | .go a => Sys2Proof.Machine.execGo a s
  | .runPos a => Sys2Proof.Machine.execRunPos a s
  | .runNeg a => Sys2Proof.Machine.execRunNeg a s
  | .stopSoft a => Sys2Proof.Machine.execStopSoft a s
  | .stopHard a => Sys2Proof.Machine.execStopHard a s
  | .resume a => Sys2Proof.Machine.execResume a s
  | .home a => Sys2Proof.Machine.execHome a s
  | .profileTick a adcA adcB => Sys2Proof.Machine.execProfileTick a adcA adcB s
  | .axisPwmPeriod a => Sys2Proof.Machine.execAxisPwmPeriod a s
  | .standstillCurrentStep a => Sys2Proof.Machine.execStandstillCurrentStep a s
  | .axStall a => Sys2Proof.Machine.execAxStall a s
  | .axOvercurrent a => Sys2Proof.Machine.execAxOvercurrent a s
  | .limitInputChange n level => Sys2Proof.Machine.execLimitInputChange n level s
  | .qeEnable q raw v => Sys2Proof.Machine.execQeEnable q raw v s
  | .qeCount q a b dt => Sys2Proof.Machine.execQeCount q a b dt s
  | .qeReject q line => Sys2Proof.Machine.execQeReject q line s
  | .qeOverspeed q line => Sys2Proof.Machine.execQeOverspeed q line s
  | .qeIndex q level => Sys2Proof.Machine.execQeIndex q level s
  | .qeStuck q line => Sys2Proof.Machine.execQeStuck q line s
  | .qeSpeedTimeout q => Sys2Proof.Machine.execQeSpeedTimeout q s
  | .eoEnable e v => Sys2Proof.Machine.execEoEnable e v s
  | .eoStep e => Sys2Proof.Machine.execEoStep e s
  | .memChannelEnable m v => Sys2Proof.Machine.execMemChannelEnable m v s
  | .memChannelReady m trained => Sys2Proof.Machine.execMemChannelReady m trained s
  | .memChannelDisable m v => Sys2Proof.Machine.execMemChannelDisable m v s
  | .dramRequest r => Sys2Proof.Machine.execDramRequest r s
  | .dramReadComplete m col => Sys2Proof.Machine.execDramReadComplete m col s
  | .retRevoke requester => Sys2Proof.Machine.execRetRevoke requester s
  | .memFreezeRelease v => Sys2Proof.Machine.execMemFreezeRelease v s
  | .migrationBlockCopy m chk => Sys2Proof.Machine.execMigrationBlockCopy m chk s
  | .refresh m => Sys2Proof.Machine.execRefresh m s
  | .mr4Read m hot => Sys2Proof.Machine.execMr4Read m hot s
  | .acgTableClear m => Sys2Proof.Machine.execAcgTableClear m s
  | .lostClear m v => Sys2Proof.Machine.execLostClear m v s
  | .selfRefreshEnter m v => Sys2Proof.Machine.execSelfRefreshEnter m v s
  | .selfRefreshExit m v => Sys2Proof.Machine.execSelfRefreshExit m v s
  | .init m v => Sys2Proof.Machine.execInit m v s
  | .initDone m => Sys2Proof.Machine.execInitDone m s
  | .retrain m beyond => Sys2Proof.Machine.execRetrain m beyond s
  | .fullTraining m v => Sys2Proof.Machine.execFullTraining m v s
  | .trainDone m failed => Sys2Proof.Machine.execTrainDone m failed s
  | .scrubRead m chk => Sys2Proof.Machine.execScrubRead m chk s
  | .diagRead v => Sys2Proof.Machine.execDiagRead v s
  | .diagReadDone flip chk => Sys2Proof.Machine.execDiagReadDone flip chk s
  | .dmaEnable c v => Sys2Proof.Machine.execDmaEnable c v s
  | .dmaDisable c v => Sys2Proof.Machine.execDmaDisable c v s
  | .doorbell c v => Sys2Proof.Machine.execDoorbell c v s
  | .abort c v => Sys2Proof.Machine.execAbort c v s
  | .descFetchDone c seen => Sys2Proof.Machine.execDescFetchDone c seen s
  | .burstIssue => Sys2Proof.Machine.execBurstIssue s
  | .burstComplete c seen => Sys2Proof.Machine.execBurstComplete c seen s
  | .accessRetry c => Sys2Proof.Machine.execAccessRetry c s
  | .descComplete c => Sys2Proof.Machine.execDescComplete c s
  | .codecEnable n v => Sys2Proof.Machine.execCodecEnable n v s
  | .codecDisable n v => Sys2Proof.Machine.execCodecDisable n v s
  | .codecReset n v => Sys2Proof.Machine.execCodecReset n v s
  | .decompressBlock n seen => Sys2Proof.Machine.execDecompressBlock n seen s
  | .compressBlockEnd n seen => Sys2Proof.Machine.execCompressBlockEnd n seen s
  | .codecRevoked n => Sys2Proof.Machine.execCodecRevoked n s
  | .laneEnable l v => Sys2Proof.Machine.execLaneEnable l v s
  | .laneReady l => Sys2Proof.Machine.execLaneReady l s
  | .laneDisable l v => Sys2Proof.Machine.execLaneDisable l v s
  | .laneLos l => Sys2Proof.Machine.execLaneLos l s
  | .laneLol l => Sys2Proof.Machine.execLaneLol l s
  | .blockLock l headers => Sys2Proof.Machine.execBlockLock l headers s
  | .laneBlockLoss l headers => Sys2Proof.Machine.execLaneBlockLoss l headers s
  | .slip l v => Sys2Proof.Machine.execSlip l v s
  | .eyeSweep l w h => Sys2Proof.Machine.execEyeSweep l w h s
  | .prbsSync x => Sys2Proof.Machine.execPrbsSync x s
  | .prbsSyncLoss l bits own => Sys2Proof.Machine.execPrbsSyncLoss l bits own s
  | .inj l v => Sys2Proof.Machine.execInj l v s
  | .linkEnable p v => Sys2Proof.Machine.execLinkEnable p v s
  | .linkDisable p v => Sys2Proof.Machine.execLinkDisable p v s
  | .detectDone p => Sys2Proof.Machine.execDetectDone p s
  | .trainAdaptDone p => Sys2Proof.Machine.execTrainAdaptDone p s
  | .train p ready => Sys2Proof.Machine.execTrain p ready s
  | .lockDone p => Sys2Proof.Machine.execLockDone p s
  | .linkTrainFail p => Sys2Proof.Machine.execLinkTrainFail p s
  | .cap p crcOk c => Sys2Proof.Machine.execCap p crcOk c s
  | .linkDown p => Sys2Proof.Machine.execLinkDown p s
  | .credit p t n => Sys2Proof.Machine.execCredit p t n s
  | .creditDrop p => Sys2Proof.Machine.execCreditDrop p s
  | .cmd p blocks => Sys2Proof.Machine.execCmd p blocks s
  | .rsp p blocks => Sys2Proof.Machine.execRsp p blocks s
  | .bcast p blocks => Sys2Proof.Machine.execBcast p blocks s
  | .event p blocks => Sys2Proof.Machine.execEvent p blocks s
  | .ethCmdForward e fec frame => Sys2Proof.Machine.execEthCmdForward e fec frame s
  | .fwdEntryTimeout n => Sys2Proof.Machine.execFwdEntryTimeout n s
  | .kickoff v => Sys2Proof.Machine.execKickoff v s
  | .kickCount p crcOk reply n => Sys2Proof.Machine.execKickCount p crcOk reply n s
  | .kickBudgetExpiry p => Sys2Proof.Machine.execKickBudgetExpiry p s
  | .kickAssign p crcOk base size => Sys2Proof.Machine.execKickAssign p crcOk base size s
  | .ethPortEnable e v => Sys2Proof.Machine.execEthPortEnable e v s
  | .ethLinkUp e => Sys2Proof.Machine.execEthLinkUp e s
  | .ethLinkDown e => Sys2Proof.Machine.execEthLinkDown e s
  | .arpRequest e frame => Sys2Proof.Machine.execArpRequest e frame s
  | .icmpEchoRequest e frame => Sys2Proof.Machine.execIcmpEchoRequest e frame s
  | .neighbourSolicitation e frame => Sys2Proof.Machine.execNeighbourSolicitation e frame s
  | .ptpFrame e frame fec => Sys2Proof.Machine.execPtpFrame e frame fec s
  | .ethFrameDrop e badFcs => Sys2Proof.Machine.execEthFrameDrop e badFcs s
  | .ptpSend e v => Sys2Proof.Machine.execPtpSend e v s
  | .ptpDeparture e fec => Sys2Proof.Machine.execPtpDeparture e fec s
  | .txtsPop e v => Sys2Proof.Machine.execTxtsPop e v s
  | .rxqPop e v => Sys2Proof.Machine.execRxqPop e v s
  | .tbEnable n v => Sys2Proof.Machine.execTbEnable n v s
  | .tbDisable n v => Sys2Proof.Machine.execTbDisable n v s
  | .tbNsRead n => Sys2Proof.Machine.execTbNsRead n s
  | .timCap v => Sys2Proof.Machine.execTimCap v s
  | .set n v => Sys2Proof.Machine.execSet n v s
  | .adj n v => Sys2Proof.Machine.execAdj n v s
  | .measSample n v => Sys2Proof.Machine.execMeasSample n v s
  | .servoSample n => Sys2Proof.Machine.execServoSample n s
  | .baseOffsetCapture n => Sys2Proof.Machine.execBaseOffsetCapture n s
  | .tbHoldover n => Sys2Proof.Machine.execTbHoldover n s
  | .timeExchange => Sys2Proof.Machine.execTimeExchange s
  | .time p crcOk response t2 t3 => Sys2Proof.Machine.execTime p crcOk response t2 t3 s
  | .linkTimeBad => Sys2Proof.Machine.execLinkTimeBad s
  | .sinkEnable n v => Sys2Proof.Machine.execSinkEnable n v s
  | .sinkDisable n v => Sys2Proof.Machine.execSinkDisable n v s
  | .commonPeriodStart => Sys2Proof.Machine.execCommonPeriodStart s
  | .sinkPeriodStart n => Sys2Proof.Machine.execSinkPeriodStart n s
  | .sinkOnTimeEnd n => Sys2Proof.Machine.execSinkOnTimeEnd n s
  | .strobeLong n => Sys2Proof.Machine.execStrobeLong n s
  | .lsTsd => Sys2Proof.Machine.execLsTsd s
  | .tsdRelease v => Sys2Proof.Machine.execTsdRelease v s
  | .lwEnable n v => Sys2Proof.Machine.execLwEnable n v s
  | .lwDisable n v => Sys2Proof.Machine.execLwDisable n v s
  | .lwGo n v => Sys2Proof.Machine.execLwGo n v s
  | .lwSync n v => Sys2Proof.Machine.execLwSync n v s
  | .lgtLwSync v => Sys2Proof.Machine.execLgtLwSync v s
  | .lwDone n => Sys2Proof.Machine.execLwDone n s
  | .bootDone => Sys2Proof.Machine.execBootDone s
  | .image v => Sys2Proof.Machine.execImage v s
  | .confirm v => Sys2Proof.Machine.execConfirm v s
  | .key v => Sys2Proof.Machine.execKey v s
  | .updateDone seen flashOk => Sys2Proof.Machine.execUpdateDone seen flashOk s
  | .wdtKick v => Sys2Proof.Machine.execWdtKick v s
  | .wdtExpire => Sys2Proof.Machine.execWdtExpire s
  | .eventRecord => Sys2Proof.Machine.execEventRecord s
  | .evrD0Read => Sys2Proof.Machine.execEvrD0Read s
  | .thermalSample t => Sys2Proof.Machine.execThermalSample t s
  | .tsBroken n => Sys2Proof.Machine.execTsBroken n s
  | .tsBrokenClear v healthy => Sys2Proof.Machine.execTsBrokenClear v healthy s
  | .throttleGate => Sys2Proof.Machine.execThrottleGate s
  | .vmSample mv => Sys2Proof.Machine.execVmSample mv s
  | .proof v => Sys2Proof.Machine.execProof v s
  | .calAbort v => Sys2Proof.Machine.execCalAbort v s
  | .proofItemDone seen vals => Sys2Proof.Machine.execProofItemDone seen vals s
  | .take v => Sys2Proof.Machine.execTake v s
  | .fabricTimeout off write => Sys2Proof.Machine.execFabricTimeout off write s
  | .spiTargetTransaction mosi readWords => Sys2Proof.Machine.execSpiTargetTransaction mosi readWords s
  | .registerWrite off v => Sys2Proof.Machine.execRegisterWrite off v s
  | .glbSwrst v => Sys2Proof.Machine.execGlbSwrst v s
  | .softwareReset => Sys2Proof.Machine.execSoftwareReset s
  | .porstN bootSel chainRoot => Sys2Proof.Machine.execPorstN bootSel chainRoot s
  | .sysrstN => Sys2Proof.Machine.execSysrstN s
  | .supplyDetectorReset => Sys2Proof.Machine.execSupplyDetectorReset s
  | .clockLoss => Sys2Proof.Machine.execClockLoss s
  | .refclk156Loss => Sys2Proof.Machine.execRefclk156Loss s
  | .tstUnlock v => Sys2Proof.Machine.execTstUnlock v s
  | .pdSample n vin err => Sys2Proof.Machine.execPdSample n vin err s
  | .ilkClose n => Sys2Proof.Machine.execIlkClose n s
  | .coilDriveEnd a coilB => Sys2Proof.Machine.execCoilDriveEnd a coilB s
  | .laneSignalReturn l => Sys2Proof.Machine.execLaneSignalReturn l s
  | .laneCdrLock l => Sys2Proof.Machine.execLaneCdrLock l s
  | .idle p => Sys2Proof.Machine.execIdle p s
  | .align l x => Sys2Proof.Machine.execAlign l x s
  | .takeBytesWritten b => Sys2Proof.Machine.execTakeBytesWritten b s
  | .illegalInstruction b n => Sys2Proof.Machine.execIllegalInstruction b n s
  | .sinkArrayHot hot => Sys2Proof.Machine.execSinkArrayHot hot s
  | .internalPllLock => Sys2Proof.Machine.execInternalPllLock s
  | .refclk25Restored => Sys2Proof.Machine.execRefclk25Restored s
  | .supplyDetectorRelease => Sys2Proof.Machine.execSupplyDetectorRelease s
  | .testAccessPort op => Sys2Proof.Machine.execTestAccessPort op s

end Sys2Proof.Machine
end

