-- ==== Sys2Proof/Machine/Step.lean ====
section
/-! DEFINITION. One step of the block: the command at the front of the queue, or a TIME cycle when none waits. -/

namespace Sys2Proof.Machine

/-- One step. An empty queue lets one TIME cycle of 4 ns pass (R498; DESIGN CHOICE, assumption 24), which a held reset stops. -/
def step (s : State) : Host.Outcome State Fault Refusal :=
  match s.pending with
  | [] => run State.timeCycle s
  | c :: rest => exec c { s with pending := rest }

/-- The command that a word spells by the table's bits goes to the front of the queue; the table gives no row bits. -/
def State.withFetchWord (s : State) (nbits w : Nat) : State :=
  match decodeTableWord nbits w with
  | some c => { s with pending := c :: s.pending }
  | none => s

end Sys2Proof.Machine
end

