-- ==== Sys2Proof/Safety.lean ====
section
/-! DEFINITION. What a run of the block keeps, in the terms that claims use. -/

namespace Sys2Proof.Machine

/-- The block went on: a step answered a next state. -/
def goesOn (o : Host.Outcome State Fault Refusal) : Prop := ∃ t, o = .next t

/-- Every memory is in its canonical form: equal memories are equal data. -/
def State.memOk (s : State) : Bool := Memory.wf s.lmem && Memory.wf s.dram && Memory.wf s.trace

/-- The registers are in their canonical form. -/
def State.regsOk (s : State) : Bool := tabWf regReset s.regs

/-- No event is left over: what a step recorded is in the recorder's queue when the step ends (R544). -/
def State.flushed (s : State) : Bool := s.evNew.isEmpty

/-- The recorder's queue keeps to its 64 entries (R544). -/
def State.queueOk (s : State) : Bool := decide (s.evq.length ≤ 64)

/-- The laser of a beam emits nothing: its gate is low and its DAC is at code 0 (R581). -/
def State.laserOff (s : State) (b : Nat) : Bool := !(s.beam b).gate && (s.beam b).dac == 0

/-- Every laser is off and the interlock force is active, as a device reset leaves it (R581). -/
def State.safe (s : State) : Bool := s.flag SAF_ILK_STATUS_FORCE && (List.range 32).all s.laserOff

/-- The registers outside a list of offsets are those of `s`: the frame of a meaning that writes those registers. -/
def sameRegs (l : List Nat) (s t : State) : Prop := ∀ off, off ∉ l → t.rd off = s.rd off

/-- The registers that recording an event can change: the alert bits (R548) and the count of dropped events (R544). -/
def evRegs : List Nat := [EVR_ALERT_PEND, EVR_DROP]

/-- The registers that every accepted register write can change: those of events, and of the test points and their unlock
sequence (R587, R589). -/
def wrRegs : List Nat :=
  [EVR_ALERT_PEND, EVR_DROP, TST_STATUS, TST_PT_CNT 0, TST_PT_CNT 1, TST_PT_CNT 2, TST_PT_CNT 3, TST_PT_CNT 4, TST_PT_CNT 5,
   TST_PT_CNT 6, TST_PT_CNT 7]

/-- The parts of the state beside the registers, the recorder's queue, the unlock sequence, the count of free values, and what
lasts no longer than a step (State.seen, State.ssNow, State.inEdge). -/
inductive Part where
  | pending | lmem | dram | supplyHeld | clockLost | fabricUp | beams | pds | grids | engs | pools | slotSt
  | cool | bars | outbox | poison | mchs | diagAt | late | ports | ctxs | mpLast | lyLast | pipeBusy | cleb
  | cles | trace | latchPast | axes | limLvl | qes | eos | dmas | dmaPtr | codecs | tbs | exch | lanes | lnks
  | kick | fwd | nets | chainRoot | bootSel | sinks | lamps | fw | keyhash | fuses | upd | wdt | recs
  | thBelow | vms | cal | jnl | sched | imm | load | goPend | swrst | batchPools | mapBad | volLocal | volLen
  | volStop | tapUp | tapCells | tapDrive | fetched | ilkLvl | winLead | pipeOver | laneDark
  | dramWait | linkVols | mapFrom
  deriving DecidableEq, Repr

/-- Two states agree on a part. -/
def Part.same (s t : State) : Part → Prop
  | pending => t.pending = s.pending
  | lmem => t.lmem = s.lmem
  | dram => t.dram = s.dram
  | supplyHeld => t.supplyHeld = s.supplyHeld
  | clockLost => t.clockLost = s.clockLost
  | fabricUp => t.fabricUp = s.fabricUp
  | beams => t.beams = s.beams
  | pds => t.pds = s.pds
  | grids => t.grids = s.grids
  | engs => t.engs = s.engs
  | pools => t.pools = s.pools
  | slotSt => t.slotSt = s.slotSt
  | cool => t.cool = s.cool
  | bars => t.bars = s.bars
  | outbox => t.outbox = s.outbox
  | poison => t.poison = s.poison
  | mchs => t.mchs = s.mchs
  | diagAt => t.diagAt = s.diagAt
  | late => t.late = s.late
  | ports => t.ports = s.ports
  | ctxs => t.ctxs = s.ctxs
  | mpLast => t.mpLast = s.mpLast
  | lyLast => t.lyLast = s.lyLast
  | pipeBusy => t.pipeBusy = s.pipeBusy
  | cleb => t.cleb = s.cleb
  | cles => t.cles = s.cles
  | trace => t.trace = s.trace
  | latchPast => t.latchPast = s.latchPast
  | axes => t.axes = s.axes
  | limLvl => t.limLvl = s.limLvl
  | qes => t.qes = s.qes
  | eos => t.eos = s.eos
  | dmas => t.dmas = s.dmas
  | dmaPtr => t.dmaPtr = s.dmaPtr
  | codecs => t.codecs = s.codecs
  | tbs => t.tbs = s.tbs
  | exch => t.exch = s.exch
  | lanes => t.lanes = s.lanes
  | lnks => t.lnks = s.lnks
  | kick => t.kick = s.kick
  | fwd => t.fwd = s.fwd
  | nets => t.nets = s.nets
  | chainRoot => t.chainRoot = s.chainRoot
  | bootSel => t.bootSel = s.bootSel
  | sinks => t.sinks = s.sinks
  | lamps => t.lamps = s.lamps
  | fw => t.fw = s.fw
  | keyhash => t.keyhash = s.keyhash
  | fuses => t.fuses = s.fuses
  | upd => t.upd = s.upd
  | wdt => t.wdt = s.wdt
  | recs => t.recs = s.recs
  | thBelow => t.thBelow = s.thBelow
  | vms => t.vms = s.vms
  | cal => t.cal = s.cal
  | jnl => t.jnl = s.jnl
  | sched => t.sched = s.sched
  | imm => t.imm = s.imm
  | load => t.load = s.load
  | goPend => t.goPend = s.goPend
  | swrst => t.swrst = s.swrst
  | batchPools => t.batchPools = s.batchPools
  | mapBad => t.mapBad = s.mapBad
  | volLocal => t.volLocal = s.volLocal
  | volLen => t.volLen = s.volLen
  | volStop => t.volStop = s.volStop
  | tapUp => t.tapUp = s.tapUp
  | tapCells => t.tapCells = s.tapCells
  | tapDrive => t.tapDrive = s.tapDrive
  | fetched => t.fetched = s.fetched
  | ilkLvl => t.ilkLvl = s.ilkLvl
  | winLead => t.winLead = s.winLead
  | pipeOver => t.pipeOver = s.pipeOver
  | laneDark => t.laneDark = s.laneDark
  | dramWait => t.dramWait = s.dramWait
  | linkVols => t.linkVols = s.linkVols
  | mapFrom => t.mapFrom = s.mapFrom

/-- Nothing has changed between `s` and `t` but the parts of a list and what `Part` leaves out: with `sameRegs` for the registers,
the frame of a meaning. -/
def sameBut (l : List Part) (s t : State) : Prop := ∀ p, p ∉ l → p.same s t

/-- An event has been recorded between `s` and `t`: the alert bit of its range is set (R548), and it stands in the recorder's
queue behind what stood there, or the loss is marked (R544). -/
def recorded (s t : State) (id inst : Nat) : Prop :=
  bitOf (t.rdN EVR_ALERT_PEND) (alertRow id) = true ∧
    ((∃ e ∈ t.evq.drop s.evq.length, e.id = id ∧ e.inst = inst) ∨ t.evLoss = true)

/-- The bits of a field. -/
def fldMask (f : Fld) : Word := ((1#32 <<< f.w) - 1#32) <<< f.lo

/-- The bits of the fields of a list, which are fields of one register. -/
def fldsMask : List Fld → Word
  | [] => 0
  | f :: fs => fldMask f ||| fldsMask fs

/-- A register keeps every bit outside some fields of it. -/
def sameBeside (off : Nat) (fs : List Fld) (s t : State) : Prop := t.rd off &&& ~~~fldsMask fs = s.rd off &&& ~~~fldsMask fs

/-- A counter that saturates at 0xFFFF_FFFF, one higher. -/
def satInc (v : Word) : Word := if v = 0xFFFFFFFF#32 then v else v + 1

/-- The state of a function after its EN bit is written (R574, R575): `old` and `en` are the bit before and after, `st` the state
before, `on` what the function enters from OFF, and `off` what it enters from STARTING or READY. -/
def lifeNext (old en : Bool) (st on off : Nat) : Nat :=
  if old = en then st
  else if en then (if st = 0 then on else if st = 3 then 5 else st)
  else (if st = 1 ∨ st = 2 then off else if st = 5 then 3 else if st = 4 then 0 else st)

/-- Engine `b` issues the word `x` as an instruction of opcode `op`, of form `m` where the row is one form: the device works, the
engine may issue (R130), the word at the PC was fetched ahead or stands in a page that is present (R119, R120), and it is
legal (R133). -/
def State.issues (s : State) (b op : Nat) (m : Option Nat) (x : BitVec 64) : Prop :=
  s.alive = true ∧ s.mayIssue b = true ∧ s.wordAt b (s.get (SCN_PC_PC b)) = some x ∧
    iOp x = op ∧ (∀ k, m = some k → iM x = k) ∧ illegalWord x = false

/-- The state in which an instruction that engine `b` issues acts: `s`, with the words fetched ahead of it, `n` or more (R120). -/
def State.primed (s : State) (b n : Nat) : State := s.prefetch b (s.get (SCN_PC_PC b)) n

/-- The registers that the issue of an instruction by engine `b` writes beside its result: the PC, and the wait code in
SCNn_STATUS. -/
def pcRegs (b : Nat) : List Nat := [EVR_ALERT_PEND, EVR_DROP, SCN_PC b, SCN_STATUS b]

/-- Does a beam other than `b` hold the region `w` (R208)? -/
def State.othersHold (s : State) (b w : Nat) : Prop := ∃ o, o < 32 ∧ o ≠ b ∧ w ∈ s.heldRegions o

/-- Is a tile held by a beam other than `b`, or reserved for one in this round (R209, R216)? -/
def State.othersTile (s : State) (resv : List (Nat × Nat)) (b : Nat) (h : Nat × Nat) : Prop :=
  ∃ w, (s.othersHold b w ∨ ∃ o, o ≠ b ∧ (w, o) ∈ resv) ∧ covers w h = true

/-- The items 3 to 7 of R209 that a tile fails for beam `b`, given the reservations of the round. -/
def State.failsItem (s : State) (resv : List (Nat × Nat)) (b : Nat) (x : Nat × Nat) : Nat → Prop
  | 3 => ∃ w, s.othersHold b w ∧ covers w x = true
  | 4 => ∃ r ∈ resv, r.2 ≠ b ∧ covers r.1 x = true
  | 5 => tabGet (fun _ => 0) s.cool (x.2 * 128 + x.1) ≠ 0
  | 6 => ∃ h, s.othersTile resv b h ∧ s.sepConflict x h = true
  | 7 => ∃ h, s.othersTile resv b h ∧ (s.downstream x h = true ∨ s.downstream h x = true)
  | _ => False

/-- Items 1 and 2 of R209 for every tile of a region: its KIND is one of `kinds`, and it lies within reach of beam `b`. -/
def State.openTo (s : State) (kinds : List Nat) (b w : Nat) : Prop :=
  ∀ x ∈ tilesOf w, entKind (s.tileEntry x) ∈ kinds ∧ entReach (s.tileEntry x) b = true

/-- Does some tile of a region fail item `k` of R209? -/
def State.regionFails (s : State) (resv : List (Nat × Nat)) (b w k : Nat) : Prop := ∃ x ∈ tilesOf w, s.failsItem resv b x k

/-- Engine `b` has gone on to `pc` (R117): it waits for nothing, its record is `e`, and the machine outside its registers and
the parts `ps` is that of `s`. -/
def wentOn (ps : List Part) (b pc : Nat) (e : Eng) (s t : State) : Prop :=
  t.get (SCN_PC_PC b) = pc % 65536 ∧ t.get (SCN_STATUS_WAIT b) = 0 ∧ t.eng b = e ∧ (∀ c, c ≠ b → t.eng c = s.eng c) ∧
    sameBut (.engs :: ps) s t

/-- A safe-stop cause has been put to beam `b` (R104): it waits to begin, unless the channel is OFF or a safe stop is in
progress or complete; of the causes of one cycle the lowest counts. -/
def stopAsked (b cause : Nat) (s t : State) : Prop :=
  if s.ssDeaf b cause then
    (t.beam b).ssPend = (s.beam b).ssPend ∧ t.get (BIO_SS_CAUSE_CAUSE b) = s.get (BIO_SS_CAUSE_CAUSE b)
  else (t.beam b).ssPend = cause ∧ t.get (BIO_SS_CAUSE_CAUSE b) = cause

/-- Engine `b` has trapped (R191): issue stops, the cause, the address and the information are recorded, the trap latches and
is reported, and the beam is put into safe stop with cause TRAP; nothing else has changed. -/
def trapped (b cause pc : Nat) (info : Word) (s t : State) : Prop :=
  t.get (SCN_TRAP_CAUSE b) = cause ∧ t.get (SCN_TRAP_PC b) = pc ∧ t.rd (SCN_TRAP_INFO b) = info ∧
    t.flag (SCN_STATUS_TRAPPED b) = true ∧ (t.eng b).stopped = true ∧ recorded s t 0x055 b ∧ stopAsked b 0xD s t ∧
    (∀ c, c ≠ b → t.eng c = s.eng c ∧ t.beam c = s.beam c) ∧
    sameRegs [EVR_ALERT_PEND, EVR_DROP, SCN_TRAP b, SCN_TRAP_INFO b, SCN_STATUS b, BIO_SS_CAUSE b] s t ∧
    sameBut [.engs, .beams] s t

/-- Engine `b` waits (R160): only its wait code has changed. -/
def waitsFor (b code : Nat) (s t : State) : Prop :=
  t.get (SCN_STATUS_WAIT b) = code ∧ sameRegs [EVR_ALERT_PEND, EVR_DROP, SCN_STATUS b] s t ∧
    sameBeside (SCN_STATUS b) [SCN_STATUS_WAIT b] s t ∧ sameBut [] s t

/-- The registers that writing journal entries can change (R343, R344). -/
def jnlRegs : List Nat := [EVR_ALERT_PEND, EVR_DROP, MGT_JNL_WR, MGT_JNL_MIR_WR, MGT_JNL_MIR_SKIP, MGT_CMD_STATUS]

/-- No command waits for an edge: none is timed or deferred (R53, R54), no Batch loads (R333), and none stands submitted (R320). -/
def State.quiet (s : State) : Prop := s.sched = [] ∧ s.imm = [] ∧ s.load = none ∧ s.goPend = false

/-- What RELOCK leaves of a state of the generator (R28): READY without lock and without a running engine goes back to
STARTING. -/
def State.relocked (s : State) (v : Word) (st : Nat) : Nat :=
  if bitOf v.toNat 2 && !s.anyRunning && st == 2 && !s.flag GLB_VOL_STATUS_LOCK then 1 else st

/-- The registers that an access to DRAM can change: those of test points (R589), of errors and held reads, of revoked returns, of the freeze and of migration, the LOST
bits and the end of self-refresh (R392, R397, R399 to R406, R411, R412, R416), and the causes of the safe stops of a freeze. -/
def dramRegs : List Nat :=
  [EVR_ALERT_PEND, EVR_DROP, MEM_STATUS, MEM_FREEZE_CNT, MEM_NOMAP_CNT, MEM_RET_REVOKE_CNT] ++
    ([0, 1].flatMap fun m => [MEM_M_SPARE m, MEM_M_LOST m, MEM_M_SR m, MEM_M_MIG m, MEM_M_MIG_PTR m, MEM_M_CE_CNT m,
      MEM_M_HAZ_CNT m, MEM_M_UE_V_CNT m, MEM_M_UE_K_CNT m, MEM_M_ACG_CNT m, MEM_M_LOST_RD_CNT m, MEM_M_LAST_CE_LO m, MEM_M_LAST_CE_HI m,
      MEM_M_LAST_UE_LO m, MEM_M_LAST_UE_HI m]) ++
    (List.range 32).map BIO_SS_CAUSE ++ (List.range 8).map TST_PT_CNT

/-- The parts that an access to DRAM can change. -/
def dramParts : List Part := [.beams, .mchs, .dramWait, .dram, .poison, .outbox]

/-- The rows of the table that a frame of the command function stands behind, each with the opcodes that the row is for (R326); `m`
is what the memory accesses of a row meet. -/
def frameRows (src : Fin 7) (f : List Byte) (m : Seen) : List (Instr × (Nat → Bool)) :=
  [(.ping src f, fun o => o == 0x01), (.readReg src f, fun o => o == 0x02), (.writeReg src f, fun o => o == 0x03),
   (.readMem src ⟨f, m⟩, fun o => o == 0x04), (.writeMem src ⟨f, m⟩, fun o => o == 0x05), (.snap src f, fun o => o == 0x06),
   (.batchLoad src f, fun o => o == 0x10), (.batchArm src f, fun o => o == 0x11), (.batchStart src f, fun o => o == 0x12),
   (.batchHold src f, fun o => o == 0x13), (.batchResume src f, fun o => o == 0x14), (.batchAbort src f, fun o => o == 0x15),
   (.batchStatus src f, fun o => o == 0x16), (.safeStop src f, fun o => o == 0x20), (.beamRestart src f, fun o => o == 0x21),
   (.cancel src f, fun o => o == 0x30), (.journalRead src f, fun o => o == 0x31), (.session src f, fun o => o == 0x32),
   (.badOpcode src f, fun o => !opKnown o)]

/-- Does the port of a source take frames? E0 and E1 while they are READY and hear their peer (R466, R487), REG while none is under
way (R320). -/
def State.takes (s : State) (src : Nat) : Bool :=
  if src < 2 then s.isReady (NET_STATUS_STATE src) && s.ear src == .peer else if src = 6 then !s.flag MGT_CMD_GO_BUSY else true

/-- What the arrival of a frame leaves: E0 and E1 count it (R488), REG holds it in MGT_CMD_BUF (R320). -/
def State.arrived (s : State) (src : Nat) (f : List Byte) : State :=
  if src < 2 then s.bumpWrap (NET_RX_FRAMES src)
  else if src = 6 then (s.bufPut (f.take 1024)).setFlag MGT_CMD_GO_BUSY true else s

/-- The packet in which a broadcast from E0, E1 or REG travels the chain (R319, R474). -/
def State.chainCopy (s : State) (src : Nat) (f : List Byte) : Option LnkPkt :=
  if frBcast f && s.flag LNK_ADDR_VALID && (decide (src < 2) || src == 6) then
    some { ty := 3, host := false, hops := 0, dest := 0,
           src := BitVec.ofNat 16 (s.get LNK_ADDR_ADDR), tag := 0, payload := f }
  else none

/-- The state once that packet, where there is one, has gone to the downstream ports (R474). -/
def State.spread (s : State) (k : Option LnkPkt) : State :=
  match k with
  | some k => s.copyDown k
  | none => s

/-- The registers that accepting and answering a command of a source can change. -/
def cmdRegs (src : Nat) : List Nat :=
  jnlRegs ++ wrRegs ++ [MGT_CMD_ACC_CNT, MGT_CMD_BAD_CNT, MGT_CMD_STALE_CNT, MGT_SEQ src, MGT_SEQ 8] ++
    (if src < 2 then [NET_RX_FRAMES src, NET_TX_FRAMES src]
      else if src = 6 then MGT_CMD_GO :: (List.range 256).map MGT_CMD_BUF else [])

/-- A response has gone back to source `src` of a command with frame `f`, unless none is due (R318, R320, R325): to the peer of an
Ethernet port by UDP, where the port sends (R464, R487, R489), behind a PTP frame that waits (R512). `u` is the state before it. -/
def replied (src : Nat) (peer : Option EthPeer) (f b : List Byte) (u t : State) : Prop :=
  (src = 6 → t.flag MGT_CMD_GO_BUSY = false ∧ t.flag MGT_CMD_GO_DONE = true) ∧
  if frNoReply f || frBcast f then t.outbox = u.outbox ∧ t.nets = u.nets
  else if src = 6 then t.outbox = u.outbox ∧ t.nets = u.nets ∧
    ∀ k, k < (b.length + 3) / 4 → t.rdN (MGT_CMD_BUF k) = leNat ((b.drop (4 * k)).take 4)
  else match peer with
    | some p =>
      if u.isReady (NET_STATUS_STATE src) = true ∧ (u.net src).tx.isSome = true then
        t.outbox = u.outbox ∧ t.net src = { u.net src with resp := (u.net src).resp ++ [u.udpOut src p b] } ∧
          ∀ e, e ≠ src → t.net e = u.net e
      else t.outbox = u.outbox ++ (if u.isReady (NET_STATUS_STATE src) && u.speaks src then [u.udpOut src p b] else []) ∧ t.nets = u.nets
    | none => t.outbox = u.outbox ++ [.response src b] ∧ t.nets = u.nets

/-- A command of source `src` with frame `f` has been answered (R325, R342, R343): a journal entry of a kind and for Volley `v`
stands at the next index, and the response has gone back. `u` is the state that the command's effect left. -/
def answered (src : Nat) (peer : Option EthPeer) (f : List Byte) (kind : Nat) (r : Reply) (v : Nat) (u t : State) : Prop :=
  let i := u.rdN MGT_JNL_WR
  t.rd MGT_JNL_WR = u.rd MGT_JNL_WR + 1 ∧ t.jnlAt i = jnlEntry src f kind r.result r.detail v i ∧
    (∀ k, k % 8192 ≠ i % 8192 → t.jnlAt k = u.jnlAt k) ∧ replied src peer f (responseOf f r i v) u t

/-- What arrives as `x` from source `src` is frame `f` of `peer`, a command for this device that is carried out here (R318, R319,
R321, R474): the port takes it, it passes the checks, it is for one of the opcodes `op`, and it does not only travel up the
chain. -/
def State.commanded (s : State) (op : Nat → Bool) (src : Nat) (x : List Byte) (peer : Option EthPeer) (f : List Byte) : Prop :=
  s.up = true ∧ s.goPend = false ∧ s.frameOf src x = some (peer, f) ∧ s.takes src = true ∧ s.accepts src f = true ∧ op (frOp f) = true ∧ s.forMe src f = true ∧
    (s.chainCopy src f = none ∨ s.chainRoot = true)

/-- The register that holds the last sequence number of a frame's source (R322). -/
def seqReg (src : Nat) (f : List Byte) : Nat := MGT_SEQ (if frBcast f then 8 else src)

/-- How far a frame's sequence number lies ahead of the last of its source (R322). -/
def State.seqAhead (s : State) (src : Nat) (f : List Byte) : Nat := (frSeq f + 2 ^ 32 - s.rdN (seqReg src f)) % 2 ^ 32

/-- Is a frame new (R322), or a SESSION? -/
def State.isNew (s : State) (src : Nat) (f : List Byte) : Prop := frOp f = 0x32 ∨ (s.seqAhead src f ≠ 0 ∧ s.seqAhead src f < 2 ^ 31)

/-- The state in which a new command acts (R322): the frame has arrived, is counted, and its number is the last. -/
def State.begun (s : State) (src : Nat) (f : List Byte) : State :=
  ((s.arrived src f).bumpWrap MGT_CMD_ACC_CNT).wr (seqReg src f) (BitVec.ofNat 32 (frSeq f))

/-- The registers that a snapshot copies into (R568). -/
def snapRegs : List Nat :=
  ([GLB_VOL_NUM_SN_LO, GLB_SNAP_TSEC_LO] ++ ((List.range 32).flatMap fun b => [SCN_PT_CNT_SN_LO b, SCN_ON_CNT_SN_LO b]) ++
    ((List.range 12).flatMap fun l => [LANE_PRBS_BITS_SN_LO l, LANE_PRBS_ERR_SN_LO l])).flatMap (fun off => [off, off + 4]) ++
    [GLB_SNAP_TNS, GLB_SNAP_SEQ]

/-- The registers that sending packets of Colud Link can change (R474, R476, R482). -/
def sendRegs : List Nat := LNK_UNREACH_CNT :: LNK_KICK_STATUS :: (List.range 4).map LNK_TX_PKT_CNT ++ wrRegs

/-- The parts that sending packets of Colud Link can change: what waits and leaves at the ports, and a TIME exchange that waited for
credits (R476, R507). -/
def sendParts : List Part := [.lnks, .outbox, .exch]

/-- The registers that a port's leaving ACTIVE can change (R470, R485, R508). -/
def fallRegs : List Nat :=
  [LNK_ADDR, TIM_LINK_BAD_CNT] ++ ((List.range 4).flatMap fun p => [LNK_STATUS p, LNK_CRED_DROP_CNT p]) ++ sendRegs

/-- What of `l` leaves by Colud Link port `p`: all of it, unless a lane of the port carries the test pattern or is looped back inside the
device (R464, R466). -/
def State.carried (s : State) (p : Nat) (l : List Out) : List Out := if (s.lnkLanes p).all s.speaks then l else []

/-- What of `l`, which Colud Link port `p` has received, goes back out: all of it in far-end loopback (R466). -/
def State.returned (s : State) (p : Nat) (l : List Out) : List Out := if (s.lnkLanes p).all s.far then l else []

/-- What port `p` sends when it enters DETECT: TRAIN blocks, where its lanes are READY at the rate of a link (R457, R469). -/
def State.detects (s : State) (p : Nat) : List Out :=
  if (s.lnkLanes p).all fun l => s.isReady (LANE_STATUS_STATE l) && s.flag (LANE_CTRL_RATE l) then s.carried p [.lnkTrain p false] else []

/-- The FEC counts of Ethernet port `e` have risen by the blocks or codewords corrected and by those that could not be (R486). -/
def fecCounted (e : Nat) (x : Fec) (s t : State) : Prop :=
  let fec := s.isReady (NET_STATUS_STATE e) && (s.get (NET_CTRL_FEC e) == 1 || s.get (NET_CTRL_FEC e) == 2)
  t.rdN (NET_FEC_CORR e) = (if fec then min 0xFFFFFFFF (s.rdN (NET_FEC_CORR e) + x.corr) else s.rdN (NET_FEC_CORR e)) ∧
    t.rdN (NET_FEC_UNCORR e) = if fec then min 0xFFFFFFFF (s.rdN (NET_FEC_UNCORR e) + x.uncorr) else s.rdN (NET_FEC_UNCORR e)

/-- Port `p` has left ACTIVE (R470, R485, R508): it holds neither packets nor credits, and the loss is reported; UP leaves the device
an orphan without a TIME exchange, another port reports the detach of what lay behind it. -/
def lnkLeft (p : Nat) (s t : State) : Prop :=
  (t.lnk p).txq = [] ∧ (t.lnk p).txt = [] ∧ (t.lnk p).crT = 0 ∧ (t.lnk p).crN = 0 ∧ t.flag (LNK_STATUS_DOWN p) = true ∧ t.get (LNK_STATUS_WIDTH p) = 0 ∧
    recorded s t 0x1C9 p ∧
    (p = 0 → t.flag LNK_ADDR_ORPHAN = true ∧ t.exch = none ∧ (s.exch ≠ none → recorded s t 0x206 0)) ∧
    (p ≠ 0 → s.rdN (LNK_RANGE_SIZE p) ≠ 0 → recorded s t 0x1D3 p)

/-- Port `p` has left ACTIVE for DETECT (R469, R470). -/
def lnkFell (p : Nat) (s t : State) : Prop :=
  lnkLeft p s t ∧ t.get (LNK_STATUS_LSTATE p) = 1 ∧ t.get (LNK_STATUS_STATE p) = 1 ∧ (t.lnk p).txOk = false ∧ (t.lnk p).rxOk = false

/-- The registers of the lanes that follow their enables (R457). -/
def laneRegs : List Nat := (List.range 12).flatMap fun l => [LANE_STATUS l, LANE_EYE l, LANE_PRBS_STATUS l]

/-- Is a lane OFF exactly while nothing enables it (R457)? -/
def State.laneSettled (s : State) (l : Nat) : Prop := s.isOff (LANE_STATUS_STATE l) = !s.laneOn l

/-- What a device reset does not reach: the fuses, the flash and the DRAM devices, the held resets, the test port (R579, R618), the
levels at the interlock inputs and the reference clock of the lanes (R113, R610), and the model's own queue and outbox. -/
def keptParts : List Part :=
  [.pending, .outbox, .dram, .poison, .fw, .keyhash, .fuses, .supplyHeld, .clockLost, .tapUp, .tapCells, .tapDrive, .ilkLvl, .laneDark]

/-- A device reset of cause `last` (R579 to R581, R588, R603, R610): the machine is that of the reset state but for what a reset
does not reach, among it the levels at the interlock and encoder inputs (R113, R380), and for `ps` and `regs`; every laser is off,
the interlock force is active, and a test unlock has ended; an update in progress has been cut short (R607). -/
def resetDone (last : Nat) (ps : List Part) (regs : List Nat) (s t : State) : Prop :=
  t.get GLB_RST_CAUSE_LAST = last ∧ t.get SAF_ILK_STATUS_LEVEL = s.ilkLvl % 16 ∧
    sameBeside SAF_ILK_STATUS [SAF_ILK_STATUS_LEVEL] State.reset t ∧
    sameRegs ([GLB_RST_CAUSE, EVR_ALERT_PEND, SAF_ILK_STATUS] ++ regs) State.reset t ∧
    (∀ q : Fin 8, t.qe q = { (default : Qe) with raw := (s.qe q).raw }) ∧
    sameBut (.qes :: keptParts ++ ps) State.reset t ∧ (∀ p ∈ keptParts, p ∉ ps → p.same s.updCut t) ∧ t.safe = true ∧ t.fabricUp = false ∧
    (s.flag TST_STATUS_UNLOCKED = true → recorded State.reset t 0x381 0)

/-- Packets of Kickoff go out by their ports, in order, where the ports are ACTIVE (R473, R476). -/
def State.kickSends (s : State) (l : List (Nat × LnkMsg)) : State := l.foldl (fun t x => t.kickSend x.1 x.2) s

/-- What waits and leaves at the ports is what it is in `u`. -/
def sentAs (u t : State) : Prop := t.lnks = u.lnks ∧ t.outbox = u.outbox

/-- The registers that a packet of Kickoff can change (R480 to R482). -/
def kickRegs : List Nat :=
  LNK_ADDR :: ([1, 2, 3].flatMap fun p => [LNK_STATUS p, LNK_RANGE_BASE p, LNK_RANGE_SIZE p]) ++ sendRegs

/-- The assign phase at this device (R482): it takes address `a`, and each downstream port with a count gets the next range and
sends it on. -/
def kickTaken (a : Nat) (k : Kick) (s t : State) : Prop :=
  let next (p : Nat) : Nat := a + 1 + (if 1 < p then k.c1 else 0) + (if 2 < p then k.c2 else 0)
  t.get LNK_ADDR_ADDR = a % 65536 ∧ t.flag LNK_ADDR_VALID = true ∧ t.flag LNK_ADDR_ORPHAN = false ∧
    (∀ p ∈ [1, 2, 3], t.rd (LNK_RANGE_SIZE p) = BitVec.ofNat 32 (k.count p) ∧
      (k.count p ≠ 0 → t.rd (LNK_RANGE_BASE p) = BitVec.ofNat 32 (next p))) ∧
    sentAs (s.kickSends (([1, 2, 3].filter fun p => k.count p != 0).map fun p => (p, .kickAssign (next p) (k.count p)))) t

/-- The count phase has ended with the counts of `k` (R481, R482): ports without a device are marked, the root assigns from `base`
or ends in overflow, another device replies upward; the root is done once the last KICK_ASSIGN has left. -/
def kickEnds (base : Nat) (k : Kick) (s t : State) : Prop :=
  let n := 1 + k.c1 + k.c2 + k.c3
  (∀ p ∈ [1, 2, 3], t.flag (LNK_STATUS_UNASSIGNED p) = (k.count p == 0)) ∧ t.kick = { k with run := false } ∧
    if s.chainRoot then
      if 65536 < n ∨ 0xFFFF < base + n - 1 then
        t.get LNK_KICK_STATUS_RESULT = 2 ∧ t.get LNK_KICK_STATUS_KSTATE = 0 ∧ recorded s t 0x1D1 0 ∧ sentAs s t
      else kickTaken base k s t ∧
        if t.assignWaits then t.get LNK_KICK_STATUS_KSTATE = 2
        else t.get LNK_KICK_STATUS_RESULT = 1 ∧ t.get LNK_KICK_STATUS_TOTAL = n ∧ t.get LNK_KICK_STATUS_KSTATE = 0 ∧
          recorded s t 0x1D0 0
    else sentAs (s.kickSends [(0, .kickReply (if 65536 < n then 65537 else n))]) t

/-- Downstream port `p` has a count of `n` devices behind it (R481). -/
def kickCounted (p n : Nat) (s t : State) : Prop :=
  let k : Kick := { (s.kick.setCount p n) with wait := s.kick.wait - 2 ^ p }
  if s.kick.run = true ∧ bitOf s.kick.wait p = true then
    (k.wait ≠ 0 → t.kick = k ∧ sentAs s t) ∧ (k.wait = 0 → kickEnds (s.get LNK_KICK_CTRL_BASE) k s t)
  else t.kick = s.kick ∧ sentAs s t

/-- The downstream ports that are asked for their counts, and the count phase that waits for them (R481). -/
def State.asked (s : State) : List Nat := [1, 2, 3].filter s.lnkActive

end Sys2Proof.Machine
end

