-- ==== Sys2Proof/Certificates/Slice0/Obligations.lean ====
section
/-! DEFINITION. The statements for the provers. Each says what commands of the table do: the next state that `exec` answers, the
values the rules give, and what stays as it was. -/

open Sys2Proof Sys2Proof.Machine

/-! ### The Scan Engines (R114 to R198, R620) -/

/-- R168, with the flags of R163 and the cycles of R194: LDI loads its immediate; ADD, SUB, AND and OR put `G[A] op X` into
`G[A]`; CMP changes only flags.

R169, with the flags of R163: SHL and SHR shift `G[A]`; the last bit shifted out goes to C. -/
def Obligations.DataInstructions : Prop :=
  (∀ (s : State) (b : Fin 32) (n : Fin 5) (x : BitVec 64),
    let f := s.primed b n
    let a := s.gReg b (iA x)
    let y := if iM x = 0 then s.gReg b (iB x) else BitVec.ofNat 32 (iImm x)
    let next (t : State) : Prop :=
      wentOn [] b (s.get (SCN_PC_PC b) + 8) { s.eng b with used := (s.eng b).used + 2 } f t ∧
        sameBeside (SCN_STATUS b) [SCN_STATUS_WAIT b] f t
    let result (t : State) (v : Word) (c : Bool) : Prop :=
      t.gReg b (iA x) = v ∧ t.flag (SCN_FLAGS_Z b) = (v == 0) ∧ t.flag (SCN_FLAGS_N b) = v.getLsbD 31 ∧
        t.flag (SCN_FLAGS_C b) = c ∧ sameBeside (SCN_FLAGS b) [SCN_FLAGS_Z b, SCN_FLAGS_N b, SCN_FLAGS_C b] f t ∧
        sameRegs (SCN_G b (iA x) :: SCN_FLAGS b :: pcRegs b) f t ∧ next t
    (s.issues b 0x28 none x →
      ∃ t, exec (.ldi b n) s = .next t ∧ t.gReg b (iA x) = BitVec.ofNat 32 (iImm x) ∧
        sameRegs (SCN_G b (iA x) :: pcRegs b) f t ∧ next t) ∧
    (s.issues b 0x29 none x →
      ∃ t, exec (.add b n) s = .next t ∧ result t (a + y) (decide (2 ^ 32 ≤ a.toNat + y.toNat))) ∧
    (s.issues b 0x2A none x →
      ∃ t, exec (.sub b n) s = .next t ∧ result t (a - y) (decide (a.toNat < y.toNat))) ∧
    (s.issues b 0x2B none x → ∃ t, exec (.and b n) s = .next t ∧ result t (a &&& y) false) ∧
    (s.issues b 0x2C none x → ∃ t, exec (.or b n) s = .next t ∧ result t (a ||| y) false) ∧
    (s.issues b 0x2F none x →
      ∃ t, exec (.cmp b n) s = .next t ∧ t.flag (SCN_FLAGS_Z b) = (a == y) ∧
        t.flag (SCN_FLAGS_N b) = decide (a.toInt < y.toInt) ∧ t.flag (SCN_FLAGS_C b) = decide (a.toNat < y.toNat) ∧
        sameBeside (SCN_FLAGS b) [SCN_FLAGS_Z b, SCN_FLAGS_N b, SCN_FLAGS_C b] f t ∧
        sameRegs (SCN_FLAGS b :: pcRegs b) f t ∧ next t)) ∧
  (∀ (s : State) (b : Fin 32) (n : Fin 5) (x : BitVec 64),
    let f := s.primed b n
    let a := s.gReg b (iA x)
    let k := if iM x % 2 = 0 then (s.gReg b (iB x)).toNat % 32 else iL x % 32
    let result (t : State) (v : Word) (c : Bool) : Prop :=
      t.gReg b (iA x) = v ∧ t.flag (SCN_FLAGS_Z b) = (v == 0) ∧ t.flag (SCN_FLAGS_N b) = v.getLsbD 31 ∧
        t.flag (SCN_FLAGS_C b) = c ∧ sameBeside (SCN_FLAGS b) [SCN_FLAGS_Z b, SCN_FLAGS_N b, SCN_FLAGS_C b] f t ∧
        sameRegs (SCN_G b (iA x) :: SCN_FLAGS b :: pcRegs b) f t ∧
        wentOn [] b (s.get (SCN_PC_PC b) + 8) { s.eng b with used := (s.eng b).used + 2 } f t ∧
        sameBeside (SCN_STATUS b) [SCN_STATUS_WAIT b] f t
    (s.issues b 0x2D none x →
      ∃ t, exec (.shl b n) s = .next t ∧ result t (a <<< k) (k != 0 && a.getLsbD (32 - k))) ∧
    (s.issues b 0x2E none x →
      ∃ t, exec (.shr b n) s = .next t ∧
        result t (if iM x < 2 then a >>> k else a.sshiftRight k) (k != 0 && a.getLsbD (k - 1))))

/-- LD and ST (R163, R170): an address out of range or not a multiple of 4 traps with MEM_RANGE; a page that is not present
makes the engine wait; otherwise LD takes the word at the address, with Z and N, and ST puts `G[A]` there and nowhere else. -/
def Obligations.LoadStoreInstructions : Prop :=
  ∀ (s : State) (b : Fin 32) (n : Fin 5) (x : BitVec 64),
    let f := s.primed b n
    let pc := s.get (SCN_PC_PC b)
    let a : Int := if iM x = 0 then ((s.gReg b (iB x)).toNat : Int) + sgn 16 (iL x) else (iL x : Int)
    let bad := a < 0 ∨ 0xFFFC < a ∨ a % 4 ≠ 0
    let next (ps : List Part) (t : State) : Prop :=
      wentOn ps b (pc + 8) { s.eng b with used := (s.eng b).used + 3 } f t ∧ sameBeside (SCN_STATUS b) [SCN_STATUS_WAIT b] f t
    (s.issues b 0x30 none x →
      ∃ t, exec (.ld b n) s = .next t ∧
        if bad then trapped b 4 pc (BitVec.ofInt 32 a) f t
        else if s.present b a.toNat then
          let v := s.lmWord b a.toNat
          t.gReg b (iA x) = v ∧ t.flag (SCN_FLAGS_Z b) = (v == 0) ∧ t.flag (SCN_FLAGS_N b) = v.getLsbD 31 ∧
            sameBeside (SCN_FLAGS b) [SCN_FLAGS_Z b, SCN_FLAGS_N b] f t ∧
            sameRegs (SCN_G b (iA x) :: SCN_FLAGS b :: pcRegs b) f t ∧ next [] t
        else waitsFor b 3 f t) ∧
    (s.issues b 0x31 none x →
      ∃ t, exec (.st b n) s = .next t ∧
        if bad then trapped b 4 pc (BitVec.ofInt 32 a) f t
        else if s.present b a.toNat then
          memTake t.lmem (lmOff b a.toNat) 4 = leBytes 4 (s.gReg b (iA x)).toNat ∧
            (∀ k, k < lmOff b a.toNat ∨ lmOff b a.toNat + 4 ≤ k → memGet t.lmem k = memGet s.lmem k) ∧
            sameRegs (pcRegs b) f t ∧ next [.lmem] t
        else waitsFor b 3 f t)

/-- The control flow of R164 to R167: a bad target traps whether or not the branch is taken; CALL and RET keep the call stack
of 16 entries, LOOP and ENDL the loop stack of 8.

It rests also on the model's own choices of log entry 108. -/
def Obligations.ControlFlowInstructions : Prop :=
  ∀ (s : State) (b : Fin 32) (n : Fin 5) (x : BitVec 64),
    let f := s.primed b n
    let pc := s.get (SCN_PC_PC b)
    let e := s.eng b
    let target := if iM x = 0 then (s.gReg b (iA x)).toNat else iL x
    let badT := 0xFFFF < target ∨ target % 8 ≠ 0
    let endl := iL x
    let count := if iM x = 0 then (s.gReg b (iA x)).toNat else iH x
    let next (pc' : Nat) (e' : Eng) (cost : Nat) (t : State) : Prop :=
      wentOn [] b pc' { e' with used := e.used + cost } f t ∧ sameRegs (pcRegs b) f t ∧
        sameBeside (SCN_STATUS b) [SCN_STATUS_WAIT b] f t
    (s.issues b 0x24 none x → ∃ t, exec (.br b n) s = .next t ∧
      if badT then trapped b 4 pc (BitVec.ofNat 32 target) f t else next target e 2 t) ∧
    (s.issues b 0x25 none x → ∃ t, exec (.brc b n) s = .next t ∧
      if badT then trapped b 4 pc (BitVec.ofNat 32 target) f t
      else if s.cond b (iB x) then next target e 3 t else next (pc + 8) e 2 t) ∧
    (s.issues b 0x20 none x → ∃ t, exec (.call b n) s = .next t ∧
      if badT then trapped b 4 pc (BitVec.ofNat 32 target) f t
      else if 16 ≤ e.calls.length then trapped b 7 pc 0 f t
      else next target { e with calls := ((pc + 8) % 65536) :: e.calls } 3 t) ∧
    (s.issues b 0x21 none x → ∃ t, exec (.ret b n) s = .next t ∧
      match e.calls with
      | [] => trapped b 7 pc 0 f t
      | r :: rest => next r { e with calls := rest } 3 t) ∧
    (s.issues b 0x22 none x → ∃ t, exec (.loop b n) s = .next t ∧
      if endl % 8 ≠ 0 ∨ endl ≤ pc then trapped b 4 pc (BitVec.ofNat 32 endl) f t
      else if count = 0 then next (endl + 8) e 3 t
      else if 8 ≤ e.loops.length then trapped b 8 pc 0 f t
      else next (pc + 8) { e with loops := (count, (pc + 8) % 65536, endl) :: e.loops } 3 t) ∧
    (s.issues b 0x23 none x → ∃ t, exec (.endl b n) s = .next t ∧
      match e.loops with
      | [] => trapped b 8 pc 0 f t
      | (c, body, at_) :: rest =>
        if at_ ≠ pc then trapped b 8 pc 0 f t
        else if c - 1 = 0 then next (pc + 8) { e with loops := rest } 2 t
        else next body { e with loops := (c - 1, body, at_) :: rest } 2 t)

/-- The Court instructions of R176 to R181. CLAIM adds a region or changes its urgency; CLAIMT tests or waits; RELEASE and
RELEASE.ALL end claims with the points placed so far; PULL.P posts a take and PULL.W answers it or waits; PASSPT marks the
oldest held slot of that number.

It rests also on the model's own choices of log entries 92 and 108. -/
def Obligations.CourtInstructions : Prop :=
  ∀ (s : State) (b : Fin 32) (n : Fin 5) (x : BitVec 64),
    let f := s.primed b n
    let pc := s.get (SCN_PC_PC b)
    let e := s.eng b
    let ga := s.gReg b (iA x)
    let next (e' : Eng) (cost : Nat) (t : State) : Prop :=
      wentOn [] b (pc + 8) { e' with used := e.used + cost } f t ∧ sameRegs (SCN_FLAGS b :: pcRegs b) f t
    let keeps (t : State) : Prop := t.rd (SCN_FLAGS b) = s.rd (SCN_FLAGS b)
    let blocked (v : Bool) (t : State) : Prop :=
      t.flag (SCN_FLAGS_B b) = v ∧ sameBeside (SCN_FLAGS b) [SCN_FLAGS_B b] f t
    (s.issues b 0x11 none x → ∃ t, exec (.claim b n) s = .next t ∧
      if s.regionOk ga.toNat = false then trapped b 3 pc ga f t
      else match e.claimOf ga.toNat with
      | some c =>
        keeps t ∧ ∃ e', next e' 4 t ∧
          e'.claims = e.claims.map (fun d => if d.idx = c.idx then
            { d with urg := (s.gReg b (iB x)).toNat % 256, waited := if d.urg = (s.gReg b (iB x)).toNat % 256 then d.waited else 0 }
            else d)
      | none =>
        if 8 ≤ e.claims.length then trapped b 10 pc 0 f t
        else keeps t ∧ ∃ e' c, next e' 4 t ∧ e'.claims = e.claims ++ [c] ∧ c.region = ga.toNat ∧
          c.urg = (s.gReg b (iB x)).toNat % 256 ∧ c.granted = false ∧ c.relAt = none) ∧
    (s.issues b 0x12 none x → ∃ t, exec (.claimt b n) s = .next t ∧
      if s.regionOk ga.toNat = false then trapped b 3 pc ga f t
      else match e.claimOf ga.toNat with
      | none => trapped b 9 pc 0 f t
      | some c =>
        if c.vis then next e 4 t ∧ blocked false t
        else if iH x = 0 then next e 4 t ∧ blocked true t
        else t.get (SCN_STATUS_WAIT b) = 2 ∧ t.get (SCN_PC_PC b) = pc ∧
          (t.eng b).wait = .claimt ga.toNat (if iH x = 0xFFFFFF then none else some (iH x)) ∧
          sameRegs [EVR_ALERT_PEND, EVR_DROP, SCN_STATUS b] f t ∧ sameBut [.engs] f t) ∧
    (s.issues b 0x13 (some 0) x → ∃ t, exec (.release b n) s = .next t ∧
      if s.regionOk ga.toNat = false then trapped b 3 pc ga f t
      else keeps t ∧ ∃ e', next e' 3 t ∧
        e'.claims = match e.claimOf ga.toNat with
          | none => e.claims
          | some c => e.claims.map fun d => if d.idx = c.idx then
              { d with relAt := some (if d.granted then e.placed else 0) } else d) ∧
    (s.issues b 0x13 (some 1) x → ∃ t, exec (.releaseAll b n) s = .next t ∧ keeps t ∧
      ∃ e', next e' 3 t ∧ e'.claims.length = e.claims.length ∧ (∀ c ∈ e'.claims, c.relAt.isSome) ∧
        ∀ c ∈ e.claims, c.relAt.isSome → c ∈ e'.claims) ∧
    (s.issues b 0x14 (some 0) x → ∃ t, exec (.pullP b n) s = .next t ∧
      if 0xFFE0 < ga.toNat ∨ ga.toNat % 32 ≠ 0 then trapped b 4 pc ga f t
      else if e.take.isSome then trapped b 9 pc 0 f t
      else keeps t ∧ next { e with take := some { pool := iL x % 64, addr := ga.toNat, result := none, bytes := [],
                                                  vis := false, written := false } } 4 t) ∧
    (s.issues b 0x14 (some 1) x → ∃ t, exec (.pullW b n) s = .next t ∧
      match e.take with
      | none => trapped b 9 pc 0 f t
      | some k => match k.answer with
        | none => t.get (SCN_STATUS_WAIT b) = 2 ∧ t.get (SCN_PC_PC b) = pc ∧ (t.eng b).wait = .pullw (iA x) ∧
            sameRegs [EVR_ALERT_PEND, EVR_DROP, SCN_STATUS b] f t ∧ sameBut [.engs] f t
        | some r => t.gReg b (iA x) = BitVec.ofNat 32 r ∧ blocked (decide (4096 ≤ r)) t ∧
            wentOn [] b (pc + 8) { e with take := none, wait := .none, used := e.used + 3 } f t ∧
            sameRegs (SCN_G b (iA x) :: SCN_FLAGS b :: pcRegs b) f t) ∧
    (s.issues b 0x15 none x → ∃ t, exec (.passpt b n) s = .next t ∧
      if e.held.any fun h => h.slot == ga.toNat && h.passAt.isNone then
        keeps t ∧ next { e with held := passFirst ga.toNat e.placed e.held } 3 t
      else trapped b 9 pc 0 f t)

/-- SETP, CAMW, TAG, TRAP and HALT (R186 to R190): values travel with the next point; TAG writes its value and can report it;
TRAP traps with its code; HALT stops issue, fills the Volley with gate-low repeats and takes its code. An illegal word
traps before it has any effect (R133).

It rests also on the model's own choices of log entry 89. -/
def Obligations.CouplingInstructions : Prop :=
  ∀ (s : State) (b : Fin 32) (n : Fin 5) (x : BitVec 64),
    let f := s.primed b n
    let pc := s.get (SCN_PC_PC b)
    let e := s.eng b
    let ga := s.gReg b (iA x)
    let next (e' : Eng) (cost : Nat) (t : State) : Prop :=
      wentOn [] b (pc + 8) { e' with used := e.used + cost } f t
    (s.issues b 0x34 none x → ∃ t, exec (.setp b n) s = .next t ∧
      let v := if iM x = 1 then iL x else ga.toNat
      if 65535 < v then trapped b 3 pc (BitVec.ofNat 32 v) f t
      else next { e with pendS := e.pendS ++ [(iB x % 2 == 1, v)] } 2 t ∧ sameRegs (pcRegs b) f t) ∧
    (s.issues b 0x35 none x → ∃ t, exec (.camw b n) s = .next t ∧
      if ga &&& 0xF000F000#32 ≠ 0 then trapped b 3 pc ga f t
      else next { e with pendC := e.pendC ++ [(ga.toNat % 4096, ga.toNat / 2 ^ 16 % 4096)] } 3 t ∧ sameRegs (pcRegs b) f t) ∧
    (s.issues b 0x38 none x → ∃ t, exec (.tag b n) s = .next t ∧
      t.rd (SCN_TAG b) = (if iM x = 1 then BitVec.ofNat 32 (iL x) else ga) ∧ next e 2 t ∧
        (iB x % 2 = 1 → recorded f t 0x059 b) ∧ sameRegs (SCN_TAG b :: pcRegs b) f t) ∧
    (s.issues b 0x39 none x → ∃ t, exec (.trap b n) s = .next t ∧ trapped b 13 pc (BitVec.ofNat 32 (iL x)) f t) ∧
    (∀ waited : Nat, s.issues b 0x3A none x → ∃ t, exec (.halt b ⟨n, waited⟩) s = .next t ∧
      if e.buf.length < e.ppv ∧ (e.last.getD (s.ppos b)).inRange = false then trapped b 2 (f.execPc b) 0 f t
      else t.rd (SCN_HALT_CODE b) = BitVec.ofNat 32 (iL x) ∧ t.get (SCN_STATUS_WAIT b) = 0 ∧ (t.eng b).stopped = true ∧
        (t.eng b).halting = true ∧ (e.buf.length ≤ e.ppv → (t.eng b).buf.length = e.ppv) ∧ e.buf <+: (t.eng b).buf ∧
        (∀ p ∈ (t.eng b).buf.drop e.buf.length, p.g = false ∧ p.pw = 0 ∧ V3.mk p.x p.y p.z = e.last.getD (s.ppos b)) ∧
        (t.eng b).full = some (e.full.getD (e.used + waited + 2)) ∧
        (∀ c ∈ (t.eng b).claims, c.relAt.isSome) ∧ (∀ c, c ≠ b → t.eng c = s.eng c) ∧
        sameRegs (SCN_HALT_CODE b :: pcRegs b) f t ∧ sameBut [.engs] f t) ∧
    (s.alive = true → s.mayIssue b = true → s.wordAt b pc = some x → illegalWord x = true →
      ∃ t, exec (.illegalInstruction b n) s = .next t ∧ trapped b 1 pc 0 f t)

/-- WAITV, SYNC, SYNC.B and the timeout of a barrier (R172, R173, R182 to R185): a wait fills gate-low points at the program
position, arrivals are counted, and a timeout withdraws the arrival and latches SYNC_TO; it sets B, in the fill form once the fill has ended.

It rests also on the model's own choices of log entries 13, 79, 108 and 109. -/
def Obligations.WaitingInstructions : Prop :=
  ∀ (s : State) (b : Fin 32) (n : Fin 5) (x : BitVec 64),
    let f := s.primed b n
    let pc := s.get (SCN_PC_PC b)
    let e := s.eng b
    let ga := s.gReg b (iA x)
    let vol := (s.gReg b (iB x)).toNat * 2 ^ 32 + ga.toNat
    let first := e.start + 1 + e.k / e.ppv + e.lost
    let fills (tau : Nat) (t : State) : Prop :=
      (t.eng b).ts = e.te ∧ (t.eng b).te = e.te + tau ∧ (t.eng b).segG = false ∧ (t.eng b).segPc = pc ∧
        (t.eng b).seg = .hold (s.ppos b) e.dir ∧ (t.eng b).used = e.used + 6 ∧ (t.eng b).buf = e.buf ∧
        t.get (SCN_PC_PC b) = (pc + 8) % 65536 ∧ t.get (SCN_STATUS_WAIT b) = 0 ∧ (∀ c, c ≠ b → t.eng c = s.eng c) ∧
        sameRegs (SCN_FLAGS b :: pcRegs b) f t
    let arrives (t : State) : Prop :=
      (t.bar (iL x % 16)).mask = ga.toNat ∧ (t.bar (iL x % 16)).arrived = (s.bar (iL x % 16)).arrived ||| 2 ^ b.val ∧
        ∀ i, i ≠ iL x % 16 → t.bar i = s.bar i
    let limit := if iH x = 0 then none else some (iH x)
    (s.issues b 0x10 none x → ∃ t, exec (.waitv b n) s = .next t ∧
      if iM x = 1 then
        fills ((ceilDiv e.te 655360 + iL x) * 655360 - e.te) t ∧ t.rd (SCN_FLAGS b) = s.rd (SCN_FLAGS b) ∧ sameBut [.engs] f t
      else if vol < first ∨ (vol = first ∧ e.k % e.ppv ≠ 0) then
        fills 0 t ∧ t.flag (SCN_FLAGS_B b) = true ∧ sameBut [.engs] f t
      else if 16777215 < vol - first then trapped b 3 pc (BitVec.ofNat 32 (min 0xFFFFFFFF (vol - first))) f t
      else fills (e.firstOf vol * e.delta - e.te) t ∧ t.flag (SCN_FLAGS_B b) = false ∧ sameBut [.engs] f t) ∧
    (s.issues b 0x18 (some 0) x → ∃ t, exec (.sync b n) s = .next t ∧
      if bitOf ga.toNat b = false then trapped b 3 pc ga f t
      else if (s.bar (iL x % 16)).arrived ≠ 0 ∧ (s.bar (iL x % 16)).mask ≠ ga.toNat then trapped b 11 pc 0 f t
      else fills 0 t ∧ arrives t ∧ (t.eng b).openEnd = true ∧ (t.eng b).wait = .syncF (iL x % 16) limit ∧
        sameBut [.engs, .bars] f t) ∧
    (s.issues b 0x18 (some 1) x → ∃ t, exec (.syncB b n) s = .next t ∧
      if bitOf ga.toNat b = false then trapped b 3 pc ga f t
      else if (s.bar (iL x % 16)).arrived ≠ 0 ∧ (s.bar (iL x % 16)).mask ≠ ga.toNat then trapped b 11 pc 0 f t
      else arrives t ∧ (t.eng b).wait = .syncB (iL x % 16) limit ∧ t.get (SCN_STATUS_WAIT b) = 4 ∧
        sameRegs [EVR_ALERT_PEND, EVR_DROP, SCN_STATUS b] f t ∧ sameBut [.engs, .bars] f t) ∧
    (∀ i, s.alive = true → s.running b = true → e.wait = .syncB i (some 0) → ∃ t, exec (.syncTimeout b) s = .next t ∧
      t.flag (SCN_STATUS_SYNC_TO b) = true ∧ t.flag (SCN_FLAGS_B b) = true ∧ bitOf (t.bar i).arrived b = false ∧
        (t.eng b).wait = .none ∧ recorded s t 0x057 b ∧ t.get (SCN_PC_PC b) = (pc + 8) % 65536 ∧
        sameRegs (SCN_FLAGS b :: pcRegs b) s t ∧ sameBut [.engs, .bars] s t) ∧
    (∀ i, s.alive = true → s.running b = true → e.wait = .syncF i (some 0) → ∃ t, exec (.syncTimeout b) s = .next t ∧
      t.flag (SCN_STATUS_SYNC_TO b) = true ∧ bitOf (t.bar i).arrived b = false ∧
        (if (t.eng b).owns then (t.eng b).fillB = some true else (t.eng b).fillB = none ∧ t.flag (SCN_FLAGS_B b) = true) ∧
        (t.eng b).wait = .none ∧ (t.eng b).openEnd = false ∧ recorded s t 0x057 b ∧
        (t.eng b).te = max e.k (e.firstOf (s.rd64 GLB_VOL_NUM_LO + 2)) * e.delta)

/-- The settings of R151 and R153 to R155, and SKY.OUT (R149, R150): WOB starts a wobble or ends it, POWER and RAMP set PW,
SPEED sets SP; a run-out travels along the direction of the last MARK or ARC and ends at rest.

It rests also on the model's own choices of log entry 91. -/
def Obligations.SettingInstructions : Prop :=
  ∀ (s : State) (b : Fin 32) (n : Fin 5) (x : BitVec 64),
    let f := s.primed b n
    let pc := s.get (SCN_PC_PC b)
    let e := s.eng b
    let ga := (s.gReg b (iA x)).toNat
    let next (e' : Eng) (cost : Nat) (t : State) : Prop := wentOn [] b (pc + 8) { e' with used := e.used + cost } f t
    let pv := if iM x = 1 then iL x else ga
    (s.issues b 0x05 none x → ∃ t, exec (.wob b n) s = .next t ∧
      if 500000 < iL x then trapped b 3 pc (BitVec.ofNat 32 (iL x)) f t
      else next { e with wob := if iH x = 0 ∨ iL x = 0 then none
                                else some { shape := iM x, a := iH x, f := iL x, tw := e.te } } 4 t ∧ sameRegs (pcRegs b) f t) ∧
    (s.issues b 0x06 none x → ∃ t, exec (.power b n) s = .next t ∧
      if 65535 < pv then trapped b 3 pc (BitVec.ofNat 32 pv) f t
      else t.get (SCN_PW_PW b) = pv ∧ next { e with ramp := none } 2 t ∧ sameRegs (SCN_PW b :: pcRegs b) f t) ∧
    (s.issues b 0x07 none x → ∃ t, exec (.ramp b n) s = .next t ∧
      t.get (SCN_PW_PW b) = iL x ∧ sameRegs (SCN_PW b :: pcRegs b) f t ∧
        next { e with ramp := if iH x = 0 then none
                              else some { p0 := s.powerAt b e.te, p := iL x, tr := e.te, dur := iH x * 65536 } } 4 t) ∧
    (s.issues b 0x08 none x → ∃ t, exec (.speed b n) s = .next t ∧
      if pv = 0 ∨ 16777215 < pv then trapped b 3 pc (BitVec.ofNat 32 pv) f t
      else t.get (SCN_SP_SP b) = pv ∧ next e 2 t ∧ sameRegs (SCN_SP b :: pcRegs b) f t) ∧
    (s.issues b 0x04 (some 1) x → ∃ t, exec (.skyOut b n) s = .next t ∧
      match e.ma with
      | none => trapped b 6 pc 0 f t
      | some (d, v) =>
        let dmin := rampD (s.skyLim b) v
        let len := max (iL x * fx) dmin
        let stop := ((s.ppos b).up.along d len).round
        if stop.inRange = false then trapped b 2 pc 0 f t
        else t.ppos b = ⟨stop.x, stop.y, (s.ppos b).z⟩ ∧ (t.eng b).ts = e.te ∧
          (t.eng b).te = e.te + toUnits ((len - dmin) * fx / v + rampT (s.skyLim b) v) ∧ (t.eng b).segG = false ∧
          (t.eng b).segPc = pc ∧ (t.eng b).ma = none ∧ t.get (SCN_PC_PC b) = (pc + 8) % 65536 ∧
          (iL x ≠ 0 ∧ iL x * fx < len → t.flag (SCN_STATUS_SKY_EXT b) = true ∧ recorded f t 0x054 b) ∧
          sameRegs ([SCN_PX b, SCN_PY b, SCN_PZ b, SCN_SKY_EXT_CNT b] ++ pcRegs b) f t ∧ sameBut [.engs] f t)

/-- MOVE, MARK, ARC, DWELL and SKY.IN (R135 to R148, R156): a target or an end out of range traps with BED_RANGE before any
effect; otherwise the program position becomes the end, and the instruction owns the next stretch of path time, with its
duration and its gate.

It rests also on the model's own choices of log entry 91. -/
def Obligations.ExposureInstructions : Prop :=
  ∀ (s : State) (b : Fin 32) (n : Fin 5) (x : BitVec 64),
    let f := s.primed b n
    let pc := s.get (SCN_PC_PC b)
    let e := s.eng b
    let p := s.ppos b
    let posRegs := [SCN_PX b, SCN_PY b, SCN_PZ b]
    let owns (q : V3) (tau : Nat) (g : Bool) (cost : Nat) (t : State) : Prop :=
      t.ppos b = q ∧ (t.eng b).ts = e.te ∧ (t.eng b).te = e.te + tau ∧ (t.eng b).segG = g ∧ (t.eng b).segPc = pc ∧
        (t.eng b).prevP = p ∧ (t.eng b).buf = e.buf ∧ (t.eng b).k = e.k ∧ (t.eng b).used = e.used + cost ∧
        t.get (SCN_PC_PC b) = (pc + 8) % 65536 ∧ t.get (SCN_STATUS_WAIT b) = 0 ∧ (∀ c, c ≠ b → t.eng c = s.eng c) ∧
        sameBut [.engs] f t
    let inc := if iM x = 2 ∧ iB x % 2 = 1 then s.gReg b (iA x) + 16 else s.gReg b (iA x)
    let mem := if iM x = 2 then 2 else 0
    let vec := V3.mk (s.gReg b (iA x)).toInt (s.gReg b (iB x)).toInt p.z
    (s.issues b 0x01 none x → ∃ t, exec (.move b n) s = .next t ∧
      match s.target b x p with
      | .badAddr a => trapped b 4 pc (BitVec.ofInt 32 a) f t
      | .absent => waitsFor b 3 f t
      | .at q => if q.inRange = false then trapped b 2 pc 0 f t
          else owns q (toUnits (jumpT (s.jumpLim b) (q.up.sub p.up).len)) false (8 + mem) t ∧ t.gReg b (iA x) = inc ∧
            sameRegs (SCN_G b (iA x) :: posRegs ++ pcRegs b) f t) ∧
    (s.issues b 0x02 none x → ∃ t, exec (.mark b n) s = .next t ∧
      match s.target b x p with
      | .badAddr a => trapped b 4 pc (BitVec.ofInt 32 a) f t
      | .absent => waitsFor b 3 f t
      | .at q => if q.inRange = false then trapped b 2 pc 0 f t
          else owns q (markUnits (q.up.sub p.up).len (s.spd b)) true (6 + mem) t ∧ t.gReg b (iA x) = inc ∧
            (t.eng b).ma = (if (q.up.sub p.up).len = 0 then none else some (q.up.sub p.up, s.spd b * fx)) ∧
            sameRegs (SCN_G b (iA x) :: posRegs ++ pcRegs b) f t) ∧
    (s.issues b 0x03 none x → ∃ t, exec (.arc b n) s = .next t ∧
      let theta := sgn 24 (iL x)
      let c : V3 := ⟨fxOf (p.x + vec.x), fxOf (p.y + vec.y), fxOf p.z⟩
      let r : V3 := ⟨fxOf (-vec.x), fxOf (-vec.y), 0⟩
      let q := (c.add (r.turn (cosSin theta 360000))).round
      if theta = 0 then owns p 0 true 12 t ∧ sameRegs (pcRegs b) f t
      else if vec.x = 0 ∧ vec.y = 0 then trapped b 5 pc 0 f t
      else if q.inRange = false then trapped b 2 pc 0 f t
      else owns q (arcUnits r.len theta (s.spd b)) true 12 t ∧ sameRegs (posRegs ++ pcRegs b) f t) ∧
    (s.issues b 0x09 none x → ∃ t, exec (.dwell b n) s = .next t ∧
      owns p (iL x * 65536) (iM x == 1) 4 t ∧ (t.eng b).seg = .hold p e.dir ∧ sameRegs (pcRegs b) f t) ∧
    (s.issues b 0x04 (some 0) x → ∃ t, exec (.skyIn b n) s = .next t ∧
      match f.ahead b vec with
      | .absent => waitsFor b 3 f t
      | .bad => trapped b 6 pc 0 f t
      | .dir d =>
        let v := s.spd b * fx
        let dmin := rampD (s.skyLim b) v
        let len := max (iL x * fx) dmin
        let from_ := vec.up.along d (-(len : Int))
        if from_.round.inRange = false then trapped b 2 pc 0 f t
        else owns vec (toUnits (jumpT (s.jumpLim b) (from_.sub p.up).len + rampT (s.skyLim b) v + (len - dmin) * fx / v))
            false 14 t ∧
          (iL x ≠ 0 ∧ iL x * fx < len → t.flag (SCN_STATUS_SKY_EXT b) = true ∧ recorded f t 0x054 b) ∧
          sameRegs (posRegs ++ SCN_SKY_EXT_CNT b :: pcRegs b) f t)

/-- The engine function (R620) and its pages (R118): EN makes it READY in the next cycle; clearing EN ends a running engine
as HALT #0xFFFF does, and otherwise enters OFF with no page present; PAGE_SET and PAGE_CLR set and clear present bits;
setting ends a wait for a page that is now there, clearing discards the words fetched from the page.

POINT_COMPUTE (R125 to R131) and the bytes of a take (R179, R180): the owner of the next point places it, in order, while the
buffer has room, and waits with it while the buffer is full; a coordinate differs from the exact motion by at most 1 um
(the deviation is a free value, assumption 6); a point out of range traps its owner and is not placed.

It rests also on the model's own choices of log entries 6, 7, 79, 84, 89 and 90. -/
def Obligations.EngineFunctionAndTakes : Prop :=
  (∀ (s : State) (b : Fin 32) (v : Word), s.up = true →
    let st := s.get (SCN_STATUS_STATE b)
    let first := v.toNat % 64
    let count := if v.toNat / 2 ^ 8 % 128 = 0 then 1 else v.toNat / 2 ^ 8 % 128
    let named (p : Nat) : Bool := decide (first ≤ p ∧ p < first + count)
    let page (t : State) (p : Nat) : Bool := bitOf (t.rd64 (SCN_PAGE_LO b)) p
    (∃ t, exec (.scnEnable b v) s = .next t ∧ t.flag (SCN_CTRL_EN b) = true ∧
      t.get (SCN_STATUS_STATE b) = lifeNext (s.flag (SCN_CTRL_EN b)) true st 2 0 ∧
      sameRegs (SCN_CTRL b :: SCN_STATUS b :: wrRegs) s t ∧ sameBut [] s t) ∧
    (∀ waited : Nat, ∃ t, exec (.scnDisable b ⟨v, waited⟩) s = .next t ∧ t.flag (SCN_CTRL_EN b) = false ∧
      t.get (SCN_STATUS_STATE b) = lifeNext (s.flag (SCN_CTRL_EN b)) false st 2 (if s.running b then 3 else 0) ∧
      (s.flag (SCN_CTRL_EN b) = true → st = 2 → s.running b = false → t.rd64 (SCN_PAGE_LO b) = 0 ∧ sameBut [] s t) ∧
      (s.flag (SCN_CTRL_EN b) = true → st = 2 → s.running b = true →
        let e := s.eng b
        if e.stopped = false ∧ e.buf.length < e.ppv ∧ (e.last.getD (s.ppos b)).inRange = false then
          t.get (SCN_TRAP_CAUSE b) = 2 ∧ t.flag (SCN_STATUS_TRAPPED b) = true ∧ recorded s t 0x055 b ∧ (t.eng b).stopped = true
        else t.rd (SCN_HALT_CODE b) = 0xFFFF ∧ (t.eng b).paused = false ∧ (e.stopped = false → (t.eng b).halting = true ∧
          (t.eng b).full = some (e.full.getD (e.used + waited)))) ∧
      sameRegs ([SCN_CTRL b, SCN_STATUS b, SCN_PAGE_LO b, SCN_PAGE_LO b + 4, SCN_HALT_CODE b, SCN_TRAP b, SCN_TRAP_INFO b,
        BIO_SS_CAUSE b] ++ wrRegs) s t ∧ sameBut [.engs, .beams] s t) ∧
    (∃ t, exec (.pageSet b v) s = .next t ∧ (∀ p, p < 64 → page t p = (page s p || named p)) ∧
      t.get (SCN_STATUS_WAIT b) = (if s.get (SCN_STATUS_WAIT b) = 3 ∧ t.memWaits b = false then 0 else s.get (SCN_STATUS_WAIT b)) ∧
      sameBeside (SCN_STATUS b) [SCN_STATUS_WAIT b] s t ∧
      sameRegs ([SCN_PAGE_LO b, SCN_PAGE_LO b + 4, SCN_STATUS b] ++ wrRegs) s t ∧ sameBut [] s t) ∧
    (∃ t, exec (.pageClr b v) s = .next t ∧ (∀ p, p < 64 → page t p = (page s p && !named p)) ∧
      (∀ y, y ∈ t.words b ↔ y ∈ s.words b ∧ ¬ (y.1 / 1024 < 64 ∧ named (y.1 / 1024) = true)) ∧ (∀ c, c ≠ b → t.words c = s.words c) ∧
      sameRegs ([SCN_PAGE_LO b, SCN_PAGE_LO b + 4] ++ wrRegs) s t ∧ sameBut [.fetched] s t)) ∧
  (∀ (s : State) (b : Fin 32) (waited : Nat), s.alive = true → s.running b = true →
    let e := s.eng b
    let at_ := e.k * e.delta
    let exact := ((e.seg.pos (e.te - e.ts) (at_ - e.ts)).1.add
      (match e.wob with
        | some wb => if e.segG then wb.offset at_ (e.seg.pos (e.te - e.ts) (at_ - e.ts)).2 else ⟨0, 0, 0⟩
        | none => ⟨0, 0, 0⟩)).round
    let near (q : V3) : Prop :=
      (q.x - exact.x).natAbs ≤ 1 ∧ (q.y - exact.y).natAbs ≤ 1 ∧ (q.z - exact.z).natAbs ≤ 1
    (e.stopped = false → e.owns = true → e.ready = none →
      ∃ t q, exec (.pointCompute b waited) s = .next t ∧ near q ∧
        if q.inRange = false then
          t.get (SCN_TRAP_CAUSE b) = 2 ∧ t.get (SCN_TRAP_PC b) = e.segPc % 65536 ∧ t.flag (SCN_STATUS_TRAPPED b) = true ∧
            recorded s t 0x055 b ∧ (t.eng b).buf = e.buf ∧ (t.eng b).stopped = true
        else if e.ppv ≤ e.buf.length then
          t.get (SCN_STATUS_WAIT b) = 1 ∧ (t.eng b).buf = e.buf ∧ (t.eng b).ready = some q ∧
            sameRegs [EVR_ALERT_PEND, EVR_DROP, SCN_STATUS b] s t ∧ sameBut [.engs] s t
        else ∃ pt, (t.eng b).buf = e.buf ++ [pt] ∧ V3.mk pt.x pt.y pt.z = q ∧ pt.g = e.segG ∧ (e.segG = false → pt.pw = 0) ∧
          pt.setp = e.pendS ∧ pt.camw = e.pendC ∧ (t.eng b).pendS = [] ∧ (t.eng b).pendC = [] ∧ (t.eng b).k = e.k + 1 ∧
          t.rd64 (SCN_PT_CNT_LO b) = (s.rd64 (SCN_PT_CNT_LO b) + 1) % 2 ^ 64 ∧
          t.rd64 (SCN_ON_CNT_LO b) = (if e.segG then (s.rd64 (SCN_ON_CNT_LO b) + 1) % 2 ^ 64 else s.rd64 (SCN_ON_CNT_LO b)) ∧
          t.get (SCN_STATUS_WAIT b) = 0 ∧ (e.fillB = none → t.rd (SCN_FLAGS b) = s.rd (SCN_FLAGS b)) ∧
          (∀ v, e.fillB = some v → if (t.eng b).owns then (t.eng b).fillB = some v else t.flag (SCN_FLAGS_B b) = v) ∧
          sameBeside (SCN_FLAGS b) [SCN_FLAGS_B b] s t ∧
          sameRegs [EVR_ALERT_PEND, EVR_DROP, SCN_STATUS b, SCN_FLAGS b, SCN_PT_CNT_LO b, SCN_PT_CNT_LO b + 4, SCN_ON_CNT_LO b,
            SCN_ON_CNT_LO b + 4] s t ∧ sameBut [.engs] s t) ∧
    (∀ k r, e.take = some k → k.result = some r → r < 4096 → k.vis = true → k.written = false →
      (∀ reg, e.wait ≠ .pullw reg) →
      ∃ t, exec (.takeBytesWritten b) s = .next t ∧ memTake t.lmem (lmOff b k.addr) k.bytes.length = k.bytes ∧
        (∀ a, a < lmOff b k.addr ∨ lmOff b k.addr + k.bytes.length ≤ a → memGet t.lmem a = memGet s.lmem a) ∧
        (t.eng b).take = some { k with written := true } ∧ sameRegs [EVR_ALERT_PEND, EVR_DROP] s t ∧
        sameBut [.engs, .lmem] s t) ∧
    (∀ k r reg, e.take = some k → k.result = some r → r < 4096 → k.vis = true → k.written = false → e.wait = .pullw reg →
      reg < 16 →
      ∃ t, exec (.takeBytesWritten b) s = .next t ∧ memTake t.lmem (lmOff b k.addr) k.bytes.length = k.bytes ∧
        t.gReg b reg = BitVec.ofNat 32 r ∧ t.flag (SCN_FLAGS_B b) = false ∧ (t.eng b).take = none ∧
        t.get (SCN_PC_PC b) = (s.get (SCN_PC_PC b) + 8) % 65536 ∧ t.get (SCN_STATUS_WAIT b) = 0))

/-! ### Beam channels (R63 to R113) -/

/-- R72: a write of GRID_DATA_HI stores both halves into node ADDR and advances ADDR; reads of GRID_DATA_LO and GRID_DATA_HI return
the halves of the node, and one of GRID_DATA_HI advances ADDR; above 4,224 accesses have no effect and read 0. R73: while the
engine runs, in the cycle in which it starts, and while a safe stop is in progress a write is refused, latched and reported.

It rests also on the model's own choices of log entry 88. -/
def Obligations.GridAccess : Prop :=
  ∀ (s : State) (b : Fin 32) (v : Word), s.up = true →
    let a := s.get (BIO_GRID_ADDR_ADDR b)
    let free : Prop := s.running b = false ∧ bitOf s.starting b = false ∧ s.ssInProgress b = false;
    (∃ t, exec (.gridWrite b v) s = .next t ∧
      if free then
        (if a < 4225 then t.node b a = v ++ s.rd (BIO_GRID_DATA_LO b) ∧ t.get (BIO_GRID_ADDR_ADDR b) = (a + 1) % 8192 ∧
            (∀ c k, c * 4225 + k ≠ b * 4225 + a → t.node c k = s.node c k)
          else (∀ c k, t.node c k = s.node c k) ∧ t.get (BIO_GRID_ADDR_ADDR b) = a) ∧
        sameRegs (BIO_GRID_ADDR b :: wrRegs) s t ∧ sameBut [.grids] s t
      else t.flag (BIO_STATUS_CFG_REFUSED b) = true ∧ recorded s t 0x052 b ∧
        sameRegs (BIO_STATUS b :: wrRegs) s t ∧ sameBut [] s t) ∧
    (let t := s.busWrite (BIO_GRID_DATA_LO b) v;
      t.rd (BIO_GRID_DATA_LO b) = (if free ∧ a < 4225 then v else s.rd (BIO_GRID_DATA_LO b)) ∧ t.grids = s.grids ∧
        t.get (BIO_GRID_ADDR_ADDR b) = a ∧ (¬ free → t.flag (BIO_STATUS_CFG_REFUSED b) = true)) ∧
    (s.busRead (BIO_GRID_DATA_LO b)).2 = (if a < 4225 then (s.node b a).setWidth 32 else 0) ∧
    (s.busRead (BIO_GRID_DATA_HI b)).2 = (if a < 4225 then (s.node b a >>> 32).setWidth 32 else 0) ∧
    (s.busRead (BIO_GRID_DATA_HI b)).1.get (BIO_GRID_ADDR_ADDR b) = (if a < 4225 then (a + 1) % 8192 else a) ∧
    (∃ t, exec (.gridRead b) s = .next t ∧
      t.get (BIO_GRID_ADDR_ADDR b) = (if a < 4225 then (a + 1) % 8192 else a) ∧
      sameRegs (BIO_GRID_ADDR b :: wrRegs) s t ∧ sameBut [] s t)

/-- R87: EN set in OFF makes the channel enter STARTING (READY at once where the generator is READY and no actual position is
awaited) at its park position with the gate low; EN cleared completes a safe stop of a running beam and then enters OFF; a
head that has not answered after 100 Volleys (what that means is the model's choice, assumption 86) makes the channel enter FAULT with HEAD_LOST.

It rests also on the model's own choices of log entries 7, 11 and 86. -/
def Obligations.ChannelLifecycle : Prop :=
  ∀ (s : State) (b : Fin 32) (v : Word),
    let st := s.get (BIO_STATUS_STATE b)
    let en := s.flag (BIO_CTRL_EN b)
    let regs := [BIO_CTRL b, BIO_STATUS b, BIO_ACT_X b, BIO_ACT_Y b, BIO_ACT_Z b, BIO_SS_CAUSE b] ++ wrRegs
    (s.up = true → ∃ t, exec (.channelEnable b v) s = .next t ∧ t.flag (BIO_CTRL_EN b) = true ∧
      (en = false → st = 0 →
        let hd := bitOf v.toNat 1
        t.get (BIO_STATUS_STATE b) = (if s.get GLB_VOL_STATUS_STATE = 2 ∧ hd = false then 2 else 1) ∧
        t.flag (BIO_STATUS_ACT_VALID b) = false ∧ (t.beam b).hd = hd ∧ (t.beam b).gate = false ∧ (t.beam b).dac = 0 ∧
        (t.beam b).codes = s.parkCodes b) ∧
      (¬ (en = false ∧ st = 0) → t.get (BIO_STATUS_STATE b) = lifeNext en true st 1 0 ∧ t.beam b = s.beam b) ∧
      (∀ c, c ≠ b → t.beam c = s.beam c) ∧ sameRegs regs s t ∧ sameBut [.beams] s t) ∧
    (s.up = true → ∃ t, exec (.channelDisable b v) s = .next t ∧ t.flag (BIO_CTRL_EN b) = false ∧
      t.get (BIO_STATUS_STATE b) = lifeNext en false st 1 (if s.running b || s.ssInProgress b then 3 else 0) ∧
      (en = true → st = 2 → s.running b = true → s.flag (BIO_STATUS_SAFE b) = false → (s.beam b).ssPend = 0 →
        (t.beam b).ssPend = 14 ∧ t.get (BIO_SS_CAUSE_CAUSE b) = 14) ∧
      (en = true → st = 2 → s.running b = false → s.ssInProgress b = false →
        (t.beam b).gate = false ∧ (t.beam b).dac = 0 ∧ (t.beam b).wx = 0 ∧ (t.beam b).wy = 0 ∧ (t.beam b).wz = 0) ∧
      (en = true → st = 4 → (t.beam b).gate = false ∧ (t.beam b).dac = 0 ∧ (t.beam b).wx = 0 ∧ (t.beam b).wy = 0 ∧
        (t.beam b).wz = 0) ∧
      (∀ c, c ≠ b → t.beam c = s.beam c) ∧ sameRegs regs s t ∧ sameBut [.beams] s t) ∧
    (s.alive = true → ∃ t, exec (.channelStartTimeout b) s = .next t ∧
      if st = 1 ∧ (if (s.beam b).hd then s.flag (BIO_STATUS_ACT_VALID b) else (s.beam b).heard) = false ∧
          100 ≤ (s.beam b).startVol then
        t.get (BIO_STATUS_STATE b) = 4 ∧ t.flag (BIO_STATUS_HEAD_LOST b) = true ∧
          (s.flag (BIO_STATUS_HEAD_LOST b) = false → recorded s t 0x04C b) ∧
          (t.beam b).lostTold = true ∧ (∀ c, c ≠ b → t.beam c = s.beam c) ∧
          sameRegs [EVR_ALERT_PEND, EVR_DROP, BIO_STATUS b] s t ∧ sameBut [.beams] s t
      else sameRegs [EVR_DROP] s t ∧ sameBut [] s t)

/-- The head's return (R79, R82 to R86): the phase search reports its phase; a valid status word, in XY2-100 mode the 16 bits of a
frame with even parity, is tested against MASK and EXP; a word that fails its checks is counted and reported; a lost return latches, clears ACT_VALID and, with HEAD_STOP, stops a
running beam.

The laser's inputs and back reflection (R95, R96, R103): the levels are read; while the beam runs an alarm stops it with
cause 3 and a laser not ready with cause 4; COUNT samples in a row at or above LIM force the output dark and stop the beam.

It rests also on the model's own choices of log entries 7, 10, 11, 12 and 87. -/
def Obligations.BeamInputs : Prop :=
  (∀ (s : State) (b : Fin 32), s.alive = true →
    let r := s.beam b
    let st := s.get (BIO_STATUS_STATE b)
    let stops (t : State) : Prop := if s.flag (BIO_CTRL_HEAD_STOP b) && s.running b then stopAsked b 6 s t
      else (t.beam b).ssPend = r.ssPend
    (∀ phase : Fin 4, st ≠ 0 → r.hd = true → r.rxDone = false → 10 ≤ r.hist.length → ∃ t, exec (.rxPhaseSearchDone b phase) s = .next t ∧
      t.get (BIO_SP_CFG_RX_PHASE b) = phase ∧ t.beam b = { r with rxDone := true } ∧
      sameRegs [EVR_DROP, BIO_SP_CFG b] s t ∧ sameBeside (BIO_SP_CFG b) [BIO_SP_CFG_RX_PHASE b] s t ∧ sameBut [.beams] s t) ∧
    (∀ (slot : Fin 10) (w : BitVec 40), st ≠ 0 → r.hd = true → r.searched slot = true →
      (w.toNat / 2 ^ 38 ≠ 2 ∨ w.toNat / 2 ^ 32 % 16 ≠ slot ∨ crc8Of w.toNat ≠ w.toNat % 256 ∨
        w.toNat / 2 ^ 36 % 4 ≠ (if slot.val = 9 then 3 else slot % 3)) →
      ∃ t, exec (.statWord b slot w) s = .next t ∧ t.rd (BIO_STAT_ERR_CNT b) = satInc (s.rd (BIO_STAT_ERR_CNT b)) ∧
        recorded s t 0x04D b ∧ sameRegs [EVR_ALERT_PEND, EVR_DROP, BIO_STAT_ERR_CNT b] s t ∧ sameBut [] s t) ∧
    (∀ w : BitVec 40, st ≠ 0 → r.hd = true → r.searched 9 = true → w.toNat / 2 ^ 38 = 2 → w.toNat / 2 ^ 32 % 16 = 9 →
      crc8Of w.toNat = w.toNat % 256 → w.toNat / 2 ^ 36 % 4 = 3 →
      ∃ t, exec (.statWord b 9 w) s = .next t ∧ t.rd (BIO_HEAD_STAT b) = BitVec.ofNat 32 (w.toNat / 2 ^ 8 % 2 ^ 24) ∧
        (t.beam b).lost = 0 ∧ (t.beam b).heard = true ∧
        (if (w.toNat / 2 ^ 8 % 2 ^ 24) &&& s.get (BIO_HEAD_STAT_MASK_BITS b) =
              s.get (BIO_HEAD_STAT_EXP_BITS b) &&& s.get (BIO_HEAD_STAT_MASK_BITS b) then
            sameRegs [EVR_DROP, BIO_HEAD_STAT b] s t ∧ (t.beam b).ssPend = r.ssPend
          else t.flag (BIO_STATUS_HEAD_FAULT b) = true ∧ recorded s t 0x04B b ∧ stops t) ∧
        sameRegs [EVR_ALERT_PEND, EVR_DROP, BIO_HEAD_STAT b, BIO_STATUS b, BIO_SS_CAUSE b] s t ∧ sameBut [.beams] s t) ∧
    (∀ (slot : Fin 10) (w : BitVec 40), st ≠ 0 → r.hd = true → r.searched slot = true → slot.val ≠ 9 → w.toNat / 2 ^ 38 = 2 →
      w.toNat / 2 ^ 32 % 16 = slot → crc8Of w.toNat = w.toNat % 256 → w.toNat / 2 ^ 36 % 4 = slot % 3 →
      ∃ t, exec (.statWord b slot w) s = .next t ∧ (t.beam b).lost = 0 ∧
        t.rdI (BIO_ACT_X b + 4 * (slot % 3)) = sgn 24 (w.toNat / 2 ^ 8 % 2 ^ 24) ∧
        (r.actUpd ||| (1#3 <<< (slot.val % 3)) = 7#3 → t.flag (BIO_STATUS_ACT_VALID b) = true) ∧
        sameRegs [EVR_DROP, BIO_ACT_X b + 4 * (slot % 3), BIO_STATUS b] s t ∧ sameBut [.beams] s t) ∧
    (∀ (slot : Fin 10) (w : BitVec 40), st ≠ 0 → r.hd = false → ∃ t, exec (.statWord b slot w) s = .next t ∧
      let pos := w.toNat / 2 % 2 ^ 16
      let mask := s.get (BIO_HEAD_STAT_MASK_BITS b) % 2 ^ 16
      if evenParity (w.toNat % 2 ^ 20) then
        t.rd (BIO_HEAD_STAT b) = BitVec.ofNat 32 pos ∧ (t.beam b).lost = 0 ∧ (t.beam b).heard = true ∧
          (if pos &&& mask = s.get (BIO_HEAD_STAT_EXP_BITS b) &&& mask then
            sameRegs [EVR_DROP, BIO_HEAD_STAT b] s t ∧ (t.beam b).ssPend = r.ssPend
          else t.flag (BIO_STATUS_HEAD_FAULT b) = true ∧ recorded s t 0x04B b ∧ stops t) ∧
          t.flag (BIO_STATUS_ACT_VALID b) = s.flag (BIO_STATUS_ACT_VALID b) ∧
          sameRegs [EVR_ALERT_PEND, EVR_DROP, BIO_HEAD_STAT b, BIO_STATUS b, BIO_SS_CAUSE b] s t ∧ sameBut [.beams] s t
      else t.rd (BIO_STAT_ERR_CNT b) = satInc (s.rd (BIO_STAT_ERR_CNT b)) ∧ recorded s t 0x04D b ∧
        sameRegs [EVR_ALERT_PEND, EVR_DROP, BIO_STAT_ERR_CNT b] s t ∧ sameBut [] s t) ∧
    (st ≠ 0 → (st = 1 → r.heard = true) → (if r.hd then 10 else 4) ≤ r.lost → r.lostTold = false →
      ∃ t, exec (.headLost b) s = .next t ∧ t.flag (BIO_STATUS_HEAD_LOST b) = true ∧
        t.flag (BIO_STATUS_ACT_VALID b) = false ∧ (s.flag (BIO_STATUS_HEAD_LOST b) = false → recorded s t 0x04C b) ∧
        stops t ∧ (t.beam b).lostTold = true ∧
        sameRegs [EVR_ALERT_PEND, EVR_DROP, BIO_STATUS b, BIO_SS_CAUSE b] s t ∧ sameBut [.beams] s t)) ∧
  (∀ (s : State) (b : Fin 32), s.alive = true →
    (∀ rdy alm : Bool, ∃ t, exec (.laserInputChange b rdy alm) s = .next t ∧
      let lvl := alm != s.flag (BIO_LASER_CFG_ALM_POL b)
      t.flag (BIO_STATUS_RDY_LVL b) = rdy ∧ t.flag (BIO_STATUS_ALM_LVL b) = lvl ∧ (t.beam b).almRaw = alm ∧
      (s.running b = true → lvl = true → t.flag (BIO_STATUS_LASER_ALM b) = true ∧ stopAsked b 3 s t) ∧
      (s.running b = true → rdy = false → t.flag (BIO_STATUS_LASER_NRDY b) = true ∧ (lvl = false → stopAsked b 4 s t)) ∧
      (s.running b = false → (t.beam b).ssPend = (s.beam b).ssPend ∧
        t.flag (BIO_STATUS_LASER_ALM b) = s.flag (BIO_STATUS_LASER_ALM b) ∧
        t.flag (BIO_STATUS_LASER_NRDY b) = s.flag (BIO_STATUS_LASER_NRDY b)) ∧
      (∀ c, c ≠ b → t.beam c = s.beam c) ∧
      sameRegs [EVR_ALERT_PEND, EVR_DROP, BIO_STATUS b, BIO_SS_CAUSE b] s t ∧ sameBut [.beams] s t) ∧
    (∃ t, exec (.backReflection b) s = .next t ∧
      if s.get (BIO_BR_CFG_COUNT b) ≠ 0 ∧ s.get (BIO_BR_CFG_COUNT b) ≤ (s.beam b).brRun ∧ (s.beam b).brTrip = false then
        (t.beam b).gate = false ∧ (t.beam b).dac = 0 ∧ (t.beam b).brTrip = true ∧ t.flag (BIO_STATUS_BR_TRIP b) = true ∧
          recorded s t 0x050 b ∧ stopAsked b 5 s t ∧ (∀ c, c ≠ b → t.beam c = s.beam c) ∧
          sameRegs [EVR_ALERT_PEND, EVR_DROP, BIO_STATUS b, BIO_SS_CAUSE b] s t ∧ sameBut [.beams] s t
      else sameRegs [EVR_DROP] s t ∧ sameBut [] s t))

/-- Photodiodes (R97 to R103): EN makes a channel STARTING, and clearing it STOPPING; a sample enters the Volley's sum, its
gated count and its saturation, and the back-reflection count of the beam.

It rests also on the model's own choices of log entry 7. -/
def Obligations.Photodiodes : Prop :=
  ∀ (s : State) (n : Fin 64),
    let st := s.get (BIO_PD_STATUS_STATE n)
    let en := s.flag (BIO_PD_CFG_EN n)
    let b := n.val / 2
    (∀ v, s.up = true → ∃ t, exec (.pdEnable n v) s = .next t ∧ t.flag (BIO_PD_CFG_EN n) = true ∧
      t.get (BIO_PD_STATUS_STATE n) = lifeNext en true st 1 3 ∧
      sameRegs (BIO_PD_CFG n :: BIO_PD_STATUS n :: wrRegs) s t ∧ sameBut [] s t) ∧
    (∀ v, s.up = true → ∃ t, exec (.pdDisable n v) s = .next t ∧ t.flag (BIO_PD_CFG_EN n) = false ∧
      t.get (BIO_PD_STATUS_STATE n) = lifeNext en false st 1 3 ∧
      sameRegs (BIO_PD_CFG n :: BIO_PD_STATUS n :: wrRegs) s t ∧ sameBut [] s t) ∧
    (∀ vin err : Int, s.alive = true → (s.pd n).cnt < 100 →
      (st ≠ 0 ∨ (n.val % 2 = 1 ∧ s.get (BIO_BR_CFG_COUNT b) ≠ 0)) →
      ∃ t, exec (.pdSample n vin err) s = .next t ∧
        let g : Int := 2 ^ s.get (BIO_PD_CFG_GAIN n)
        let code := (clampI 0 4095 ((vin - s.getI (BIO_PD_CFG_OFFSET n) * 117) * g * 4096 / 1200000 + err)).toNat
        t.get ⟨BIO_PD_SAMPLE n, 0, 12⟩ = code ∧ (t.pd n).sum = (s.pd n).sum + code ∧ (t.pd n).cnt = (s.pd n).cnt + 1 ∧
        (t.pd n).gated = (s.pd n).gated + (if (s.beam b).gate then 1 else 0) ∧
        (t.pd n).sat = ((s.pd n).sat || code == 4095) ∧
        (n.val % 2 = 1 → s.get (BIO_BR_CFG_LIM b) ≤ code → s.get (BIO_BR_CFG_COUNT b) ≠ 0 →
          (t.beam b).brRun = (s.beam b).brRun + 1) ∧
        (n.val % 2 = 1 → code < s.get (BIO_BR_CFG_LIM b) → (t.beam b).brRun = 0 ∧ (t.beam b).brTrip = false) ∧
        (∀ m, m ≠ n → t.pd m = s.pd m) ∧ sameRegs [EVR_DROP, BIO_PD_SAMPLE n] s t ∧ sameBut [.pds, .beams] s t)

/-- R110: LEVEL follows the inputs at all times; an opening makes the force act, latches, is counted and reported, and stops every running beam, dark at once; closing
only shows in LEVEL; the key written while all four inputs are closed releases the force and is reported, and any other
write of SAF_ILK_REARM is refused and reported. -/
def Obligations.Interlocks : Prop :=
  ∀ (s : State) (i : Fin 4),
    (s.alive = true → ∃ t, exec (.ilkOpen i) s = .next t ∧ bitOf (t.get SAF_ILK_STATUS_LEVEL) i = false ∧
      bitOf (t.get SAF_ILK_STATUS_OPENED) i = true ∧ t.flag SAF_ILK_STATUS_FORCE = true ∧
      t.rd (SAF_ILK_CNT i) = satInc (s.rd (SAF_ILK_CNT i)) ∧ recorded s t 0x300 i ∧
      (∀ b : Fin 32, (t.beam b).gate = false ∧ (t.beam b).dac = 0 ∧
        (s.running b = true → stopAsked b 2 s t) ∧ (s.running b = false → (t.beam b).ssPend = (s.beam b).ssPend)) ∧
      sameBut [.beams, .ilkLvl] s t ∧ bitOf t.ilkLvl i = false) ∧
    (s.alive = true → ∃ t, exec (.ilkClose i) s = .next t ∧ bitOf (t.get SAF_ILK_STATUS_LEVEL) i = true ∧
      t.flag SAF_ILK_STATUS_FORCE = s.flag SAF_ILK_STATUS_FORCE ∧ sameRegs [EVR_DROP, SAF_ILK_STATUS] s t ∧ sameBut [.ilkLvl] s t ∧
      bitOf t.ilkLvl i = true) ∧
    (∃ t, exec (.ilkOpen i) s = .next t ∧ bitOf (t.get SAF_ILK_STATUS_LEVEL) i = false ∧ bitOf t.ilkLvl i = false ∧
      (s.alive = false → sameBeside SAF_ILK_STATUS [SAF_ILK_STATUS_LEVEL] s t ∧ sameRegs [SAF_ILK_STATUS] s t ∧
        sameBut [.ilkLvl] s t)) ∧
    (∃ t, exec (.ilkClose i) s = .next t ∧ bitOf (t.get SAF_ILK_STATUS_LEVEL) i = true ∧ bitOf t.ilkLvl i = true ∧
      (s.alive = false → sameBeside SAF_ILK_STATUS [SAF_ILK_STATUS_LEVEL] s t ∧ sameRegs [SAF_ILK_STATUS] s t ∧
        sameBut [.ilkLvl] s t)) ∧
    (∀ v, s.up = true → ∃ t, exec (.ilkRearm v) s = .next t ∧
      (if v = 0x5AF0 ∧ s.get SAF_ILK_STATUS_LEVEL = 15 then
        t.flag SAF_ILK_STATUS_FORCE = false ∧ (s.flag SAF_ILK_STATUS_FORCE = true → recorded s t 0x301 0)
      else t.flag SAF_ILK_STATUS_FORCE = s.flag SAF_ILK_STATUS_FORCE ∧ recorded s t 0x302 0) ∧
      sameBeside SAF_ILK_STATUS [SAF_ILK_STATUS_FORCE] s t ∧ sameRegs (SAF_ILK_STATUS :: wrRegs) s t ∧ sameBut [] s t)

/-! ### The Volley (R25 to R62) and the output stage (R32 to R48, R105, R336) -/

/-- The generator's register (R25, R28 to R30): EN set in OFF enters STARTING and samples SRC; EN cleared while READY enters
STOPPING, and while STARTING enters OFF, which cancels every queued timed command; RELOCK while no engine runs takes a READY
generator without lock back to STARTING, and is refused and reported while one runs.

It rests also on the model's own choices of log entries 33 and 97. -/
def Obligations.VolleyGenerator : Prop :=
  ∀ (s : State) (v : Word), s.up = true →
    let st := s.get GLB_VOL_STATUS_STATE
    let en := s.flag GLB_VOL_CTRL_EN
    let busy (t : State) : Prop := bitOf v.toNat 2 = true → s.anyRunning = true → recorded s t 0x046 0
    let regs := [GLB_VOL_CTRL, GLB_VOL_STATUS, GLB_VOL_SCHED] ++ jnlRegs ++ wrRegs
    (∃ t, exec (.volEnable v) s = .next t ∧ t.flag GLB_VOL_CTRL_EN = true ∧
      t.get GLB_VOL_STATUS_STATE = (if en = false ∧ st = 0 then 1 else s.relocked v (lifeNext en true st 1 0)) ∧
      t.volLocal = (if en = false ∧ st = 0 then bitOf v.toNat 1 else s.volLocal) ∧ busy t ∧
      sameRegs ([GLB_VOL_CTRL, GLB_VOL_STATUS] ++ wrRegs) s t ∧ sameBut [.volLocal, .volStop] s t) ∧
    (∃ t, exec (.volDisable v) s = .next t ∧ t.flag GLB_VOL_CTRL_EN = false ∧
      t.get GLB_VOL_STATUS_STATE = s.relocked v (lifeNext en false st 1 (if st = 2 then 3 else 0)) ∧
      (en = true → st = 1 → t.sched = [] ∧ t.flag GLB_VOL_STATUS_LOCK = false) ∧
      (¬ (en = true ∧ st = 1) → t.sched = s.sched ∧ t.jnl = s.jnl) ∧ busy t ∧
      sameRegs regs s t ∧ sameBut [.volStop, .sched, .jnl] s t) ∧
    (en = bitOf v.toNat 0 → ∃ t, exec (.relock v) s = .next t ∧
      (if s.anyRunning then recorded s t 0x046 0 ∧ t.get GLB_VOL_STATUS_STATE = st
        else t.get GLB_VOL_STATUS_STATE = (if st = 2 ∧ s.flag GLB_VOL_STATUS_LOCK = false then 1 else st)) ∧
      sameBeside GLB_VOL_STATUS [GLB_VOL_STATUS_STATE] s t ∧
      sameRegs ([GLB_VOL_CTRL, GLB_VOL_STATUS] ++ wrRegs) s t ∧ sameBut [] s t) ∧
    exec (.relock v) s = (if bitOf v.toNat 0 then exec (.volEnable (v ||| 4)) s else exec (.volDisable (v ||| 4)) s)

/-- The edges (R24 to R29, R31, R32): the first edge makes a STARTING generator READY and loads the Volley number, each further
edge raises it by 1 and compares the generator with TB0, a local tick leaves it alone; at each of them the frame built for the
Volley that begins goes to the port of its beam. The edges are those for which no command waits.

It rests also on the model's own choices of log entries 7, 34, 69, 70 and 98. -/
def Obligations.VolleyEdges : Prop :=
  ∀ s : State, s.alive = true → s.quiet →
    let st := s.get GLB_VOL_STATUS_STATE
    let steered := s.volLocal = false ∧ s.flag GLB_VOL_STATUS_LOCK = true
    let e := s.edgeErr.1
    let v := (s.rd64 GLB_VOL_NUM_LO + 1) % 2 ^ 64
    let moves (t : State) : Prop := ∀ b : Fin 32, (t.beam b).cur = (s.beam b).next ∧ (t.beam b).next = .hold
    ((st = 2 ∨ st = 3 ∨ st = 5) → ∃ t, exec .volleyEdge s = .next t ∧ t.rd64 GLB_VOL_NUM_LO = v ∧ moves t ∧
      (steered → t.rd GLB_VOL_EDGE_ERR = wordOf e) ∧ (¬ steered → t.volLen = 2560000) ∧
      (st = 2 → steered → (2000 * 256 < e.natAbs ∨ s.edgeErr.2 ≠ v) →
        t.flag GLB_VOL_STATUS_LOCK = false ∧ t.flag GLB_VOL_STATUS_UNLOCKED = true ∧ recorded s t 0x041 0 ∧ t.volLen = 2560000) ∧
      (st = 2 → steered → ¬ (2000 * 256 < e.natAbs ∨ s.edgeErr.2 ≠ v) →
        t.flag GLB_VOL_STATUS_LOCK = true ∧ (t.volLen : Int) = 2560000 - max (-2560) (min 2560 e))) ∧
    (st ≠ 2 → st ≠ 3 → st ≠ 5 → ∃ t, exec .localTick s = .next t ∧ t.rd64 GLB_VOL_NUM_LO = s.rd64 GLB_VOL_NUM_LO ∧ moves t ∧
      t.get GLB_VOL_STATUS_STATE = st ∧ sameBut [.beams, .engs, .pds, .ports, .ctxs, .axes, .qes, .eos, .late, .latchPast, .outbox,
        .pipeBusy, .pipeOver, .winLead, .pools, .slotSt, .cool, .bars, .mchs, .cleb, .cles, .linkVols] s t) ∧
    (st = 1 → (s.volLocal = true ∨ s.get (TIM_TB_STATUS_STATE 0) = 2 ∧ s.flag (TIM_TB_STATUS_VALID 0) = true) → ∃ t, exec .volLock s = .next t ∧
      t.get GLB_VOL_STATUS_STATE = 2 ∧ t.rd64 GLB_VOL_NUM_LO = (if s.volLocal then 0 else s.edgeErr.2) ∧ moves t ∧
      (s.volLocal = true → t.flag GLB_VOL_STATUS_LOCK = s.flag GLB_VOL_STATUS_LOCK ∧ t.volLen = 2560000) ∧
      (s.volLocal = false → recorded s t 0x040 0 ∧ t.rd GLB_VOL_EDGE_ERR = wordOf e ∧
        t.flag GLB_VOL_STATUS_LOCK = decide (e.natAbs ≤ 2000 * 256)))

/-- A slot instant (R34, R35, R88 to R92, R105): a beam that is OFF does nothing; a safe stop that waits begins; a running beam
whose frame carries a point drives the gate and the DAC with it, and sends its codes at slot 0, or at every slot in XY-HD mode;
without a point its codes stay and its laser is dark.

It rests also on the model's own choices of log entry 7. -/
def Obligations.PointSlots : Prop :=
  ∀ (s : State) (j : Fin 10), s.alive = true → ∃ t, exec (.pointSlot j) s = .next t ∧ t.late = (s.late || j == 9) ∧
    sameBut [.beams, .engs, .cal, .late, .sched, .jnl, .volLocal, .volStop, .cleb] s t ∧
    ∀ b : Fin 32,
      let r := s.beam b
      let u := t.beam b
      let st := s.get (BIO_STATUS_STATE b)
      let runs := st ≠ 0 ∧ st ≠ 1 ∧ st ≠ 4 ∧ r.ssPend = 0 ∧ s.running b = true ∧ s.flag (BIO_STATUS_SAFE b) = false
      let fresh := r.hd || j == 0
      (st = 0 → u = r ∧ t.eng b = s.eng b) ∧
      (st ≠ 0 → r.ssPend ≠ 0 → u.ssPend = 0 ∧ u.gate = false ∧ u.dac = 0 ∧ t.flag (BIO_STATUS_SAFE b) = true ∧ t.running b = false) ∧
      (∀ l p, runs → r.cur = .pts l → l[if r.hd then j.val else 0]? = some p →
        let ok := !p.dark && s.laserOk b
        u.gate = (p.g && ok) ∧
        u.dac = (if p.g && ok then (powerCode p.pw (s.get (BIO_CORR_M b)) (s.get (BIO_PWR_LIM_LIM b))).1
          else if ok then s.get (BIO_IDLE_CODE_CODE b) else 0) ∧
        (fresh = true → u.codes = ⟨p.x, p.y, p.z⟩ ∧ u.wx = (if r.hd then hdWord 0 j p.x else xy2Word p.x) ∧
          (t.eng b).emitted = (s.eng b).emitted + 1) ∧
        (fresh = false → u.codes = r.codes ∧ (t.eng b).emitted = (s.eng b).emitted)) ∧
      (runs → (∀ l p, r.cur = .pts l → l[if r.hd then j.val else 0]? ≠ some p) →
        u.gate = false ∧ u.dac = 0 ∧ u.codes = r.codes ∧ (t.eng b).emitted = (s.eng b).emitted)

/-- The deadline and the merge (R32, R39 to R48, R190, R221, R336): a running beam whose buffer is short at the deadline makes the
next Volley a dead ball, which is counted and reported; the merge takes a full buffer, corrects its points, and empties it; a
paused beam keeps its buffer. The merge checks every point with G = 1 that is not clipped against the Court (R221): one that fails
leaves dark and is counted and reported, and with CHECK = TRAP the engine traps with the address of the first one's instruction
(R222).

The other events of the output stage (R43, R62, R105, R336): too long a run of dead balls stops the beam with cause 7; a hold
in DARK mode pauses it in the end; a write of GLB_DBLOG_RD frees records within the permitted range alone; a safe stop that waits
begins, dark at once.

It rests also on the model's own choices of log entries 7, 93, 95, 96, 105 and 120. -/
def Obligations.OutputStage : Prop :=
  (∀ s : State, s.alive = true →
    (∀ win : Nat, ∃ t, exec (.pointDeadline win) s = .next t ∧ t.late = true ∧ sameBut [.beams, .engs, .late] s t ∧
      ∀ b : Fin 32,
        let e := s.eng b
        let pauses := e.paused = true ∨ s.holdDue b = true
        (s.running b = false → t.eng b = e ∧ t.beam b = s.beam b) ∧
        (s.running b = true → (t.eng b).used = s.tstCycles 6 b ∧ (t.eng b).buf = e.buf) ∧
        (s.running b = true → ¬ pauses → e.buf.length < e.ppv →
          (t.beam b).next = .dead ∧ t.rd (SCN_DB_CNT b) = satInc (s.rd (SCN_DB_CNT b)) ∧
          t.rd (SCN_SLIP b) = satInc (s.rd (SCN_SLIP b)) ∧ t.get (SCN_DB_RUN_RUN b) = min 65535 (s.get (SCN_DB_RUN_RUN b) + 1) ∧
          t.get (SCN_CYC_LAST_USED b) = 65535 ∧ recorded s t 0x042 b) ∧
        (s.running b = true → ¬ pauses → e.ppv ≤ e.buf.length →
          t.beam b = s.beam b ∧ t.rd (SCN_DB_CNT b) = s.rd (SCN_DB_CNT b) ∧
          t.get (SCN_CYC_LAST_USED b) = min 65535 (e.full.getD e.used)) ∧
        (s.running b = true → pauses → (t.eng b).paused = true ∧ t.beam b = s.beam b ∧ t.rd (SCN_DB_CNT b) = s.rd (SCN_DB_CNT b))) ∧
    (∃ t, exec .outputMerge s = .next t ∧ sameBut [.beams, .engs] s t ∧
      ∀ b : Fin 32,
        let e := s.eng b
        let r := s.beam b
        let takes := s.running b = true ∧ r.next ≠ .dead ∧ r.next ≠ .pause
        let fails (p : Pt) : Bool := p.g && !(s.correct b p.x p.y p.z).2 && !s.courtPass b p
        (¬ takes → t.beam b = r ∧ t.eng b = e) ∧
        (takes → e.paused = true → (t.beam b).next = .pause ∧ (t.eng b).buf = e.buf ∧ (t.eng b).lost = e.lost + 1) ∧
        (takes → e.paused = false → e.buf.length < e.ppv → t.beam b = r ∧ t.eng b = e) ∧
        (takes → e.paused = false → e.ppv ≤ e.buf.length → (t.eng b).buf = [] ∧
          (e.halting = true → t.running b = false ∧ t.flag (SCN_STATUS_HALTED b) = true ∧ recorded s t 0x056 b) ∧
          ∃ l, (t.beam b).next = .pts l ∧ l.length = e.buf.length ∧
            ∀ (i : Nat) p o, e.buf[i]? = some p → l[i]? = some o →
              o.pw = p.pw ∧ o.g = p.g ∧ (⟨o.x, o.y, o.z⟩ : Codes) = (s.correct b p.x p.y p.z).1 ∧
                o.dark = ((s.correct b p.x p.y p.z).2 || fails p)) ∧
        (takes → e.paused = false → e.ppv ≤ e.buf.length →
          t.rdN (ARB_BEAM_CHECK_CNT b) =
            min 0xFFFFFFFF (s.rdN (ARB_BEAM_CHECK_CNT b) + (e.buf.filter fails).length) ∧
          (∀ p, e.buf.find? fails = some p →
            t.flag (ARB_BEAM_STATUS_CHECK_FAIL b) = true ∧ recorded s t 0x081 b ∧
            (s.flag ARB_CTRL_CHECK = true → (e.stopped = false ∨ e.halting = true) →
              t.get (SCN_TRAP_CAUSE b) = 12 ∧ t.get (SCN_TRAP_PC b) = p.pc % 65536 ∧ t.rd (SCN_TRAP_INFO b) = 0 ∧
              t.flag (SCN_STATUS_TRAPPED b) = true ∧ (t.eng b).stopped = true ∧ recorded s t 0x055 b ∧ stopAsked b 0xD s t) ∧
            (s.flag ARB_CTRL_CHECK = false → t.rd (SCN_TRAP b) = s.rd (SCN_TRAP b) ∧ (t.beam b).ssPend = r.ssPend ∧
              (t.eng b).stopped = e.stopped))))) ∧
  (∀ (s : State) (b : Fin 32) (v : Word),
    let e := s.eng b
    let lim := s.get GLB_VOL_LIMITS_DB_LIMIT
    (s.alive = true → ∃ t, exec (.deadBallLimit b) s = .next t ∧
      if s.running b = true ∧ lim ≠ 0 ∧ lim < s.get (SCN_DB_RUN_RUN b) ∧ (s.beam b).ssPend = 0 then
        t.flag (SCN_DB_RUN_LIMIT_HIT b) = true ∧ recorded s t 0x043 b ∧ stopAsked b 7 s t ∧ (∀ c, c ≠ b → t.beam c = s.beam c) ∧
          sameRegs [EVR_ALERT_PEND, EVR_DROP, SCN_DB_RUN b, BIO_SS_CAUSE b] s t ∧ sameBut [.beams] s t
      else sameRegs [EVR_DROP] s t ∧ sameBut [] s t) ∧
    (s.alive = true → ∃ t, exec (.holdDarkTimeout b) s = .next t ∧
      if s.mayPause b = true ∧ e.holdReq = 2 ∧ e.holdN + e.holdMax ≤ s.rd64 GLB_VOL_NUM_LO + 1 then
        t.eng b = { e with paused := true, holdReq := 0 } ∧ (∀ c, c ≠ b → t.eng c = s.eng c) ∧
          sameRegs (MGT_BATCH_STATUS :: evRegs) s t ∧ sameBut [.engs] s t
      else sameRegs [EVR_DROP] s t ∧ sameBut [] s t) ∧
    (s.up = true → ∃ t, exec (.dblogRdWrite v) s = .next t ∧
      let rd := s.rdN GLB_DBLOG_RD % 512
      let wr := s.rdN GLB_DBLOG_WR % 512
      t.rd GLB_DBLOG_RD = (if v.toNat < 512 ∧ (v.toNat + 512 - rd) % 512 ≤ (wr + 512 - rd) % 512 then v else s.rd GLB_DBLOG_RD) ∧
      sameRegs (GLB_DBLOG_RD :: wrRegs) s t ∧ sameBut [] s t) ∧
    (s.alive = true → (s.beam b).ssPend ≠ 0 → ∃ t, exec (.safeStopSequence b) s = .next t ∧
      (t.beam b).ssPend = 0 ∧ (t.beam b).gate = false ∧ (t.beam b).dac = 0 ∧ (t.beam b).cur = .hold ∧ (t.beam b).next = .hold ∧
      t.flag (BIO_STATUS_SAFE b) = true ∧ t.running b = false ∧ t.rd64 (BIO_SS_VOLLEY_LO b) = s.rd64 GLB_VOL_NUM_LO ∧
      recorded s t 0x048 b ∧ (s.running b = true → (t.eng b).stopped = true) ∧
      (∀ c, c ≠ b → t.beam c = s.beam c ∧ t.eng c = s.eng c) ∧ sameBut [.beams, .engs, .cleb] s t))

/-! ### The Court and the midcourt pools (R203 to R237) -/

/-- The Court Map and the arbiter's enable (R205 to R207, R237, R622): while an engine runs or starts each of these writes is refused
whole and reported; otherwise a map word is stored, and one that is not valid sets MAP_ERR; GO starts the copy from the address of
that moment; EN moves the arbiter.

It rests also on the model's own choices of log entries 7, 36 and 106. -/
def Obligations.CourtMapAndArbiter : Prop :=
  ∀ (s : State) (i : Fin 32768) (v : Word), s.up = true →
    let st := s.get ARB_STATUS_STATE
    let en := s.flag ARB_CTRL_EN
    let bad := i.val % 2 = 1 ∧ (v.toNat / 2 ^ 12 % 4 = 3 ∨ v.toNat / 2 ^ 19 ≠ 0)
    let refused (regs : List Nat) (t : State) : Prop :=
      t.flag ARB_STATUS_CFG_REFUSED = true ∧ recorded s t 0x08A 0 ∧ sameRegs (ARB_STATUS :: regs ++ wrRegs) s t
    let inUse := s.anyRunning || s.starting != 0
    (∃ t, exec (.courtMapWrite i v) s = .next t ∧ sameBut [] s t ∧
      if inUse then refused [] t
      else t.rd (COURT_MAP i) = v ∧ t.flag ARB_STATUS_MAP_ERR = (s.flag ARB_STATUS_MAP_ERR || decide bad) ∧
        (bad → recorded s t 0x086 0) ∧ sameRegs (COURT_MAP i :: ARB_STATUS :: wrRegs) s t ∧
        sameBeside ARB_STATUS [ARB_STATUS_MAP_ERR] s t) ∧
    (∃ t, exec (.mapLoad v) s = .next t ∧ sameBut [.mapFrom] s t ∧
      if inUse then refused [] t ∧ t.mapFrom = s.mapFrom
      else t.flag ARB_MAP_LOAD_CTRL_BUSY = true ∧ sameRegs (ARB_MAP_LOAD_CTRL :: wrRegs) s t ∧
        t.flag ARB_MAP_LOAD_CTRL_DONE = (s.flag ARB_MAP_LOAD_CTRL_DONE && !bitOf v.toNat 9) ∧
        t.flag ARB_MAP_LOAD_CTRL_ERR = (s.flag ARB_MAP_LOAD_CTRL_ERR && !bitOf v.toNat 10) ∧
        t.mapFrom = (if s.flag ARB_MAP_LOAD_CTRL_BUSY then s.mapFrom
          else (s.rdN ARB_MAP_LOAD_LO + s.get ARB_MAP_LOAD_HI_ADDR * 2 ^ 32) / 4096 * 4096)) ∧
    (∃ t, exec (.arbEnable v) s = .next t ∧ sameBut [] s t ∧
      if inUse then refused [] t
      else t.flag ARB_CTRL_EN = true ∧ t.get ARB_STATUS_STATE = lifeNext en true st 1 0 ∧
        sameBeside ARB_STATUS [ARB_STATUS_STATE] s t ∧ sameRegs (ARB_CTRL :: ARB_STATUS :: wrRegs) s t) ∧
    (∃ t, exec (.arbDisable v) s = .next t ∧ sameBut [] s t ∧
      if inUse then refused [] t
      else t.flag ARB_CTRL_EN = false ∧ t.get ARB_STATUS_STATE = lifeNext en false st 1 0 ∧
        sameBeside ARB_STATUS [ARB_STATUS_STATE] s t ∧ sameRegs (ARB_CTRL :: ARB_STATUS :: wrRegs) s t)

/-- The rounds (R208 to R220, R228, R229): the work of an edge ends in the round of the Volley that begins, which decides every request
in the order of R215. A claim of closed or unreachable tiles is refused; another is granted where no tile fails an item of R209, and
denied by the first item that one fails, which its counter shows, and reserves its region after ARB_STARVE.ROUNDS rounds (R216); a
take gets the first staged FREE slot that it may hold. The results of a round (R213, R217, R223): publication makes each grant and each decided take visible, resumes a CLAIMT whose
grant shows and ends one whose last permitted round has passed; a beam whose count of idle rounds stands at ROUNDS loses its grants, and its held
slots become FREE or are retired.

It rests also on the model's own choices of log entries 7, 72, 78, 94 and 110. -/
def Obligations.RoundsAndGrants : Prop :=
  ∀ s : State, s.alive = true →
    (∀ cyc : BitVec 12, s.volEdges = true → ∃ t, exec (.roundPublish cyc) s = .next t ∧ sameBut [.engs] s t ∧
      (s.get ARB_STATUS_STATE = 2 → t.get ARB_ROUND_CYC_LAST = cyc.toNat ∧
        t.get ARB_ROUND_CYC_MAX = max cyc.toNat (s.get ARB_ROUND_CYC_MAX)) ∧
      ∀ b : Fin 32,
        let e := s.eng b
        let shown := e.claims.map fun c => { c with vis := c.granted }
        let ends (blocked : Bool) : Prop := (t.eng b).wait = .none ∧ t.get (SCN_STATUS_WAIT b) = 0 ∧
          t.flag (SCN_FLAGS_B b) = blocked ∧ t.get (SCN_PC_PC b) = (s.get (SCN_PC_PC b) + 8) % 65536
        (t.eng b).claims = shown ∧
        (e.wait = .none → t.eng b = { e with claims := shown, take := e.take.map fun k => { k with vis := k.result.isSome } }) ∧
        (∀ region left, e.wait = .claimt region left →
          ((e.claimOf region).any Claim.granted = true → ends false) ∧
          ((e.claimOf region).any Claim.granted = false → left = some 1 → ends true))) ∧
    (∀ b : Fin 32, ∃ t, exec (.grantRevoked b) s = .next t ∧
      let e := s.eng b
      if s.get ARB_REVOKE_ROUNDS ≠ 0 ∧ s.get ARB_REVOKE_ROUNDS ≤ s.rdN (ARB_BEAM_IDLE b) ∧ s.heldRegions b ≠ [] ∧
          e.paused = false ∧ s.get ARB_STATUS_STATE = 2 then
        t.eng b = { e with held := [], claims := e.claims.map fun c => { c with granted := false, vis := false } } ∧
        (∀ c, c ≠ b → t.eng c = s.eng c) ∧ t.flag (ARB_BEAM_STATUS_REVOKED b) = true ∧ recorded s t 0x08B b ∧
        (∀ h ∈ e.held, t.slotState h.pool h.slot = slFREE ∨ t.slotState h.pool h.slot = slRETIRED) ∧
        (∀ p k, (∀ h ∈ e.held, h.pool * 4096 + h.slot ≠ p * 4096 + k) → t.slotState p k = s.slotState p k) ∧
        sameRegs ([EVR_ALERT_PEND, EVR_DROP, ARB_STATUS, ARB_BEAM_STATUS b, ARB_RWLOG_WR, ARB_RWLOG_DROP] ++
          (List.range 2048).map RWLOG) s t ∧ sameBut [.engs, .slotSt, .cool] s t
      else sameRegs [EVR_DROP] s t ∧ sameBut [] s t) ∧
    (s.quiet → s.volEdges = true → ∃ t, exec .volleyEdge s = .next t ∧
      let u := State.edgeWork ((s.vnum + 1) % 2 ^ 64) false { s with winLead := leadCycles s.volLen }
      t.engs = u.arbiterRound.engs ∧ t.pools = u.arbiterRound.pools ∧ t.slotSt = u.arbiterRound.slotSt) ∧
    (s.get ARB_STATUS_STATE = 2 → ∃ l : List Req, l.Perm ((List.range 32).flatMap s.reqsOf) ∧
      l.Pairwise (fun x y => reqBefore (s.vnum % 32) x y = true) ∧ s.arbiterRound = s.decideAll l []) ∧
    (s.get ARB_STATUS_STATE ≠ 2 → ∀ b : Fin 32, (s.arbiterRound.eng b).claims = (s.eng b).claims ∧
      (s.arbiterRound.eng b).held = (s.eng b).held ∧
      ∀ k, (s.eng b).take = some k → k.result = none → (s.arbiterRound.eng b).take = some { k with result := some 0xFFFFFFFF }) ∧
    (∀ (resv : List (Nat × Nat)) (b : Fin 32) (idx : Nat) (c : Claim), ((s.eng b).claims.find? fun x => x.idx == idx) = some c →
      let r := s.decideClaim resv b idx
      let w := c.region
      let becomes (f : Claim → Claim) : Prop := (∀ o, o ≠ b → r.1.eng o = s.eng o) ∧
        r.1.eng b = { s.eng b with claims := (s.eng b).claims.map fun x => if x.idx = idx then f x else x }
      (¬ s.openTo [1] b w → becomes (fun x => { x with refused := true }) ∧ r.2 = resv ∧
        r.1.rd ARB_DENY_REFUSED = satInc (s.rd ARB_DENY_REFUSED) ∧ (c.refused = false → r.1.flag (ARB_BEAM_STATUS_REFUSED b) = true) ∧
        r.1.rd (ARB_BEAM_DENY_CNT b) = satInc (s.rd (ARB_BEAM_DENY_CNT b)) ∧
        sameRegs [EVR_ALERT_PEND, ARB_DENY_REFUSED, ARB_BEAM_DENY_CNT b, ARB_BEAM_STATUS b] s r.1) ∧
      (s.openTo [1] b w → (∀ k, ¬ s.regionFails resv b w k) → becomes (fun x => { x with granted := true }) ∧ r.2 = resv ∧
        r.1.rd ARB_GRANT_CNT = satInc (s.rd ARB_GRANT_CNT) ∧ sameRegs [ARB_GRANT_CNT, ARB_BEAM_IDLE b] s r.1) ∧
      (s.openTo [1] b w → ∀ k, s.regionFails resv b w k → (∀ j, j < k → ¬ s.regionFails resv b w j) →
        becomes (fun x => { x with waited := x.waited + 1 }) ∧
        r.2 = (if s.get ARB_STARVE_ROUNDS ≠ 0 ∧ s.get ARB_STARVE_ROUNDS ≤ c.waited then resv ++ [(w, b.val)] else resv) ∧
        r.1.rd (denyCounter k) = satInc (s.rd (denyCounter k)) ∧
        r.1.rd (ARB_BEAM_DENY_CNT b) = satInc (s.rd (ARB_BEAM_DENY_CNT b)) ∧
        sameRegs [denyCounter k, ARB_BEAM_DENY_CNT b] s r.1)) ∧
    (∀ (resv : List (Nat × Nat)) (b : Fin 32) (k : Take), (s.eng b).take = some k →
      let t := s.decideTake resv b
      let q := s.pool k.pool
      let may (x : Nat × List Byte) : Prop := s.slotState k.pool x.1 = slFREE ∧ s.openTo [1, 2] b (slotRegion x.2) ∧
        ∀ j, ¬ s.regionFails resv b (slotRegion x.2) j
      let ready := s.get (ARB_POOL_STATUS_STATE k.pool) = 2
      let fails (v : Nat) : Prop := t.eng b = { s.eng b with take := some { k with result := some v } } ∧ t.slotSt = s.slotSt
      (8 ≤ (s.eng b).held.length → fails 0xFFFFFFFF ∧ t.flag (ARB_BEAM_STATUS_HELD_FULL b) = true) ∧
      ((s.eng b).held.length < 8 → (¬ ready ∨ ∀ x ∈ q.staged, ¬ may x) → fails 0xFFFFFFFF ∨ fails 0xFFFFFFFE ∧ ready) ∧
      ((s.eng b).held.length < 8 → ready → ∀ l i bytes m, q.staged = l ++ (i, bytes) :: m → (∀ x ∈ l, ¬ may x) → may (i, bytes) →
        t.eng b = { s.eng b with
          take := some { k with result := some i, bytes := bytes }
          held := (s.eng b).held ++ [{ pool := k.pool, slot := i, region := slotRegion bytes, vid := slotVid bytes, onpts := 0,
                                       lastx := 0, lasty := 0, passAt := none }] } ∧
        t.slotState k.pool i = slHELD ∧ (t.pool k.pool).staged = (q.staged.filter fun x => x.1 != i) ∧
        t.rd ARB_GRANT_CNT = satInc (s.rd ARB_GRANT_CNT)))

/-- Pools (R225, R231): EN samples BASE, SIZE and KEEP, frees every slot where KEEP is 0, and enters STARTING, or FAULT on a SIZE
out of range; clearing EN enters STOPPING; a write of LOADED is limited by SIZE, and only raises it outside OFF. -/
def Obligations.PoolLifecycle : Prop :=
  ∀ (s : State) (p : Fin 64) (v : Word), s.up = true →
    let st := s.get (ARB_POOL_STATUS_STATE p)
    let en := s.flag (ARB_POOL_CTRL_EN p)
    let size := s.get (ARB_POOL_SIZE_SIZE p)
    let base := s.rdN (ARB_POOL_BASE_LO p) + s.get (ARB_POOL_BASE_HI_ADDR p) * 2 ^ 32
    let n := v.toNat % 8192
    let regs := [ARB_POOL_CTRL p, ARB_POOL_STATUS p] ++ wrRegs
    (∃ t, exec (.poolEnable p v) s = .next t ∧ t.flag (ARB_POOL_CTRL_EN p) = true ∧
      t.get (ARB_POOL_STATUS_STATE p) = lifeNext en true st (if size = 0 ∨ 4096 < size then 4 else 1) 3 ∧
      (en = false → st = 0 → t.pool p = { base := base, size := size, edges := 0, staged := [], exh := false } ∧
        ∀ k, k < 4096 → t.slotState p k = (if bitOf v.toNat 1 then s.slotState p k else slFREE)) ∧
      (¬ (en = false ∧ st = 0) → t.pool p = s.pool p ∧ t.slotSt = s.slotSt) ∧
      (∀ q, q ≠ p → t.pool q = s.pool q ∧ ∀ k, k < 4096 → t.slotState q k = s.slotState q k) ∧
      sameRegs regs s t ∧ sameBut [.pools, .slotSt] s t) ∧
    (∃ t, exec (.poolDisable p v) s = .next t ∧ t.flag (ARB_POOL_CTRL_EN p) = false ∧
      t.get (ARB_POOL_STATUS_STATE p) = lifeNext en false st 1 3 ∧
      t.pool p = (if en = true ∧ (st = 1 ∨ st = 2) then { s.pool p with staged := [] } else s.pool p) ∧
      (∀ q, q ≠ p → t.pool q = s.pool q) ∧ sameRegs regs s t ∧ sameBut [.pools] s t) ∧
    (∃ t, exec (.poolLoadedWrite p v) s = .next t ∧
      t.get (ARB_POOL_LOADED_LOADED p) = (if st = 0 then min n size
        else if n < s.get (ARB_POOL_LOADED_LOADED p) then s.get (ARB_POOL_LOADED_LOADED p) else min n (s.pool p).size) ∧
      sameRegs (ARB_POOL_LOADED p :: wrRegs) s t ∧ sameBut [] s t)

/-- Staging and the rework log (R227, R233 to R235): a staging read of a FREE loaded slot that is not staged stages it, retires
it where the read failed or its region is not valid, and leaves it where the DRAM refused the read, none while a rank migrates; a write of ARB_RWLOG_RD frees
records within the permitted range alone.

It rests also on the model's own choices of log entries 7, 105 and 110. -/
def Obligations.StagingAndRework : Prop :=
  ∀ (s : State) (p : Fin 64) (v : Word),
    (∀ (i : Fin 4096) (x : Seen), s.alive = true → ∃ t, exec (.poolStageReadDone p i x) s = .next t ∧
      let q := s.pool p
      let r := State.unitRead { s with seen := x } false (q.base + i * 32) 32
      let w := slotRegion r.2.2
      let kinds := (tilesOf w).map r.1.tileEntry
      let good := r.1.regionOk w = true ∧ (∀ e ∈ kinds, entKind e ≠ 0) ∧
        ∃ b : Fin 32, ∀ e ∈ kinds, entReach e b = true
      let wanted := s.get (ARB_POOL_STATUS_STATE p) = 2 ∧ s.slotState p i = slFREE ∧ i < s.get (ARB_POOL_LOADED_LOADED p) ∧
        i < q.size ∧
        (∀ x ∈ q.staged, x.1 ≠ i) ∧ s.freeBelow p i < 16 ∧ s.migHeld 0 = false ∧ s.migHeld 1 = false
      (∀ o k, o * 4096 + k ≠ p.val * 4096 + i → t.slotState o k = s.slotState o k) ∧ (∀ o, o ≠ p → t.pool o = s.pool o) ∧
      (¬ wanted → sameRegs [EVR_DROP] s t ∧ sameBut [] s t) ∧
      (wanted → r.2.1 = .ok → good → t.pool p = { q with staged := stageInsert i r.2.2 q.staged } ∧ t.slotState p i = slFREE ∧
        (q.staged.Pairwise (fun x y => x.1 < y.1) → (t.pool p).staged.Pairwise fun x y => x.1 < y.1)) ∧
      (wanted → (r.2.1 = .ok ∧ ¬ good) ∨ r.2.1 = .ue → t.pool p = q ∧ t.slotState p i = slRETIRED ∧ recorded s t 0x083 p) ∧
      (wanted → r.2.1 ≠ .ok → r.2.1 ≠ .ue → t.pool p = q ∧ t.slotState p i = slFREE) ∧
      sameRegs (dramRegs ++ [ARB_STATUS, ARB_RWLOG_WR, ARB_RWLOG_DROP] ++ (List.range 2048).map RWLOG) s t ∧
      sameBut (.pools :: .slotSt :: dramParts) s t) ∧
    (∀ (got : Fin 8) (x : Seen), s.alive = true → s.flag ARB_MAP_LOAD_CTRL_BUSY = true → s.load = none →
      ∃ t, exec (.mapLoadDone ⟨got, x⟩) s = .next t ∧ t.flag ARB_MAP_LOAD_CTRL_BUSY = false ∧
        let r := State.mapLoadEnd got { s with seen := x }
        (r.2 = true → t.flag ARB_MAP_LOAD_CTRL_DONE = true ∧ t.mapBad = s.mapBad) ∧
        (r.2 = false → t.flag ARB_MAP_LOAD_CTRL_ERR = true ∧ t.flag ARB_STATUS_MAP_ERR = true ∧ t.mapBad = true ∧
          recorded s t 0x088 0) ∧
        sameRegs (dramRegs ++ [ARB_MAP_LOAD_CTRL, ARB_STATUS] ++ (List.range 32768).map COURT_MAP) s t ∧
        sameBut (.mapBad :: dramParts) s t) ∧
    (s.up = true → ∃ t, exec (.rwlogRdWrite v) s = .next t ∧
      let rd := s.rdN ARB_RWLOG_RD % 256
      let wr := s.rdN ARB_RWLOG_WR % 256
      t.rd ARB_RWLOG_RD = (if v.toNat < 256 ∧ (v.toNat + 256 - rd) % 256 ≤ (wr + 256 - rd) % 256 then v else s.rd ARB_RWLOG_RD) ∧
      sameRegs (ARB_RWLOG_RD :: wrRegs) s t ∧ sameBut [] s t)

/-! ### The Control-Law Engines (R36, R49, R50, R239 to R271) -/

/-- The latch, the commit deadline and the switch (R36, R49, R50, R100, R240, R241, R243): at the latch a READY engine takes its
inputs and registers; one that has not committed at the deadline is late, counts it, and keeps its correction; too many late
Volleys stop both beams with cause 8; at the switch the committed corrections become active, 0x8000 for an engine that is OFF.

It rests also on the model's own choices of log entries 7 and 19. -/
def Obligations.LatchAndLate : Prop :=
  ∀ s : State, s.alive = true →
    (∃ t, exec .latchInstant s = .next t ∧ t.latchPast = true ∧
      (∀ n : Fin 64, t.rd (BIO_PD_VAL n) = (s.pd n).rcd.getD (s.rd (BIO_PD_VAL n)) ∧ (t.pd n).rcd = none) ∧
      (∀ k : Fin 16, (t.cle k).latched = ((s.cle k).latched || s.get (CLE_STATUS_STATE k) == 2)) ∧
      ∀ b : Fin 32,
        (s.get (CLE_STATUS_STATE (b / 2)) = 2 →
          (∀ off, CLE_B_CFG b ≤ off → off < CLE_B_CFG b + 0x200 → (t.latched b).rd off = s.rd off) ∧
          (t.cb b).pd0 = t.rd (BIO_PD_VAL (2 * b)) ∧ (t.cb b).pd1 = t.rd (BIO_PD_VAL (2 * b + 1)) ∧
          (t.cb b).fe = (s.beam b).fePrev ∧ (t.cb b).rstL = (s.cb b).rstL ||| (s.cb b).rst ∧ (t.cb b).rst = 0) ∧
        let given (r : CleB) : CleB := { r with act := ⟨s.rdI (BIO_ACT_X b), s.rdI (BIO_ACT_Y b), s.rdI (BIO_ACT_Z b)⟩, actX := (s.beam b).actVolX,
                                                actY := (s.beam b).actVolY, actZ := (s.beam b).actVolZ }
        given (t.cb b) = t.cb b ∧ (s.get (CLE_STATUS_STATE (b / 2)) ≠ 2 → t.cb b = given (s.cb b))) ∧
    (∃ t, exec .cleCommitDeadline s = .next t ∧ sameBut [.cleb, .cles, .trace] s t ∧
      ∀ k : Fin 16, (t.cle k).latched = false ∧
        if (s.cle k).latched then
          t.flag (CLE_LATE_LATE k) = true ∧ t.get (CLE_LATE_RUN k) = min 65535 (s.get (CLE_LATE_RUN k) + 1) ∧
            t.rd (CLE_LATE_CNT k) = satInc (s.rd (CLE_LATE_CNT k)) ∧ recorded s t 0x0C0 k ∧
            ∀ b : Fin 32, b.val / 2 = k → (t.cb b).mOff = (s.cb b).mOff ∧ t.rd (CLE_B_M b) = s.rd (CLE_B_M b)
        else t.cle k = s.cle k ∧ t.rd (CLE_LATE k) = s.rd (CLE_LATE k) ∧ t.rd (CLE_LATE_CNT k) = s.rd (CLE_LATE_CNT k)) ∧
    (∀ k : Fin 16, ∃ t, exec (.cleLateLimit k) s = .next t ∧
      if s.get GLB_VOL_LIMITS_CLE_LIMIT ≠ 0 ∧ s.get GLB_VOL_LIMITS_CLE_LIMIT < s.get (CLE_LATE_RUN k) then
        t.flag (CLE_LATE_LIMIT_HIT k) = true ∧ ((s.cle k).limEv = false → recorded s t 0x0C1 k) ∧
          stopAsked (2 * k) 8 s t ∧ stopAsked (2 * k + 1) 8 s t ∧
          sameRegs [EVR_ALERT_PEND, EVR_DROP, CLE_LATE k, BIO_SS_CAUSE (2 * k), BIO_SS_CAUSE (2 * k + 1)] s t ∧
          sameBut [.beams, .cles] s t
      else sameRegs [EVR_DROP] s t ∧ sameBut [] s t) ∧
    (∃ t, exec .correctionSwitch s = .next t ∧ sameRegs (EVR_DROP :: (List.range 32).map BIO_CORR) s t ∧ sameBut [] s t ∧
      ∀ b : Fin 32, t.get (BIO_CORR_M b) =
        if s.get (CLE_STATUS_STATE (b / 2)) = 0 then 0x8000 else ((s.cb b).mOff + 32768).toNat % 65536)

/-- A commit (R241, R243 to R252, R256, R589): the resets that latches have taken act, a first latch of another bank with XFER = 1
adjusts the integrators, the outer loop of mode 3 runs in its Volleys, and its trim moves the set point; the correction is 0x8000 in
mode 0 and MFIX in mode 1; in the modes with an inner loop it is what the loop gives on a valid measurement, and the last one,
counted, without. A test delay of 800 cycles leaves time for it, whatever the loops do; one above 1,400 cycles does not.

Bank loads (R257): GO starts a copy into the bank that is not active, of the address as it stands, unless one runs; it ends
with every word in place, or with ERR, which is reported, and the words read before, if any; WR_VOL follows what it wrote.

It rests also on the model's own choices of log entries 7, 36, 46, 51 and 113. -/
def Obligations.LoopBanks : Prop :=
  (∀ (s : State) (k : Fin 16), s.alive = true → (s.cle k).latched = true →
    (1400 < s.tstCycles 7 k → ∃ t, exec (.cleCommit k) s = .next t ∧ sameRegs [EVR_DROP] s t ∧ sameBut [] s t) ∧
    (s.tstCycles 7 k ≤ 800 →
    ∃ t, exec (.cleCommit k) s = .next t ∧ (t.cle k).latched = false ∧ (t.cle k).limEv = false ∧ t.get (CLE_LATE_RUN k) = 0 ∧
      (∀ off, ¬ (CLE_CTRL k ≤ off ∧ off < CLE_CTRL k + 0x1000) → off ∉ wrRegs → t.rd off = s.rd off) ∧
      sameBut [.cleb, .cles, .trace] s t ∧
      ∀ b : Fin 32, b.val / 2 = k →
        let r := s.cb b
        let lat := s.latched b
        let cfg := lat.rd (CLE_B_CFG b)
        let mode := fldOf 0 2 cfg
        let m (x : Int) : Prop := t.get ⟨CLE_B_M b, 0, 16⟩ = x.toNat % 65536 ∧ (t.cb b).mOff = x - 32768
        let bank := lat.rd (CLE_B_BANK b)
        let o := lat.coef b r.used
        let g := lat.coef b (fldOf 0 1 bank)
        let moved := fldOf 0 1 bank ≠ r.used ∧ fldOf 2 1 bank = 1
        let clrI := r.istL || bitOf r.rstL 0
        let clrO := r.istL || bitOf r.rstL 1
        let i0 := if clrI then 0 else s.rd48 (CLE_B_II_LO b)
        let j0 := if clrO then 0 else s.rd48 (CLE_B_IO_LO b)
        let i := if moved then lim g.imin g.imax (i0 + (o.kp - g.kp) * (if clrI then 0 else r.eL)) else i0
        let j := if moved then lim g.iomin g.iomax (j0 + (o.kpo - g.kpo) * (if clrO then 0 else r.eoL)) else j0
        let runs := outerRuns cfg s.vnum
        let yo := if runs then r.outerM cfg else none
        let outer (y : Nat) := g.outerLoop ((lat.rdN (CLE_B_SPO b) % 65536 : Nat) - (y : Int)) j
        let trim : Int := match yo with
          | some (y, _) => (outer y).1
          | none => r.trim
        let trimmed : Int := if mode = 3 then trim else 0
        let eff : Int := max 0 (min 65535 ((lat.rdN (CLE_B_SPI b) % 65536 : Nat) + trimmed))
        (t.cb b).used = fldOf 0 1 bank ∧ (t.cb b).rstL = 0 ∧ (t.cb b).istL = false ∧
        (∀ y rec, yo = some (y, rec) → (t.cb b).trim = (outer y).1 ∧ t.rd48 (CLE_B_IO_LO b) = (outer y).2.1 ∧
          t.flag (CLE_B_STATUS_IO_CLAMP b) = (outer y).2.2 ∧ t.rd (CLE_B_YO b) = BitVec.ofNat 32 y ∧
          t.rd (CLE_B_OSTALE_CNT b) = s.rd (CLE_B_OSTALE_CNT b)) ∧
        (yo = none → (t.cb b).trim = r.trim ∧ t.rd48 (CLE_B_IO_LO b) = j ∧
          t.rd (CLE_B_OSTALE_CNT b) = (if runs then satInc (s.rd (CLE_B_OSTALE_CNT b)) else s.rd (CLE_B_OSTALE_CNT b))) ∧
        (2 ≤ mode → t.rd (CLE_B_SPI_EFF b) = wordOf eff ∧ t.rd (CLE_B_TRIM b) = wordOf trimmed) ∧
        (∀ y, r.inner cfg = some y → t.rd (CLE_B_YI b) = BitVec.ofNat 32 y) ∧
        (mode = 0 → m 32768) ∧
        (mode = 1 → m (lat.rdN (CLE_B_MFIX b) % 65536 : Nat)) ∧
        (mode < 2 ∨ r.inner cfg = none → t.rd48 (CLE_B_II_LO b) = i) ∧
        (2 ≤ mode → r.inner cfg = none → m (r.mOff + 32768) ∧
          t.rd (CLE_B_IHOLD_CNT b) = satInc (s.rd (CLE_B_IHOLD_CNT b))) ∧
        (∀ y, 2 ≤ mode → r.inner cfg = some y →
          let e : Int := eff - (y : Int)
          let d : Int := if r.pv && !r.istL then (r.yPrev : Int) - y else 0
          let x := g.innerLoop e d i
          m x.m ∧ t.rd48 (CLE_B_II_LO b) = x.i ∧ t.flag (CLE_B_STATUS_M_HI b) = x.hi ∧
            t.flag (CLE_B_STATUS_M_LO b) = x.lo ∧ t.flag (CLE_B_STATUS_I_CLAMP b) = x.clp ∧
            (t.cb b).yPrev = y ∧ (t.cb b).pv = true ∧ (t.cb b).eL = e))) ∧
  (∀ (s : State) (b : Fin 32),
    (∀ v : Word, s.up = true → ∃ t, exec (.bkload b v) s = .next t ∧ t.flag (CLE_B_BKLOAD_CTRL_BUSY b) = true ∧
      t.cb b = (if s.flag (CLE_B_BKLOAD_CTRL_BUSY b) then s.cb b else { s.cb b with
        bkTo := 1 - s.get (CLE_B_BANK_ACT b), bkAt := s.rdN (CLE_B_BKLOAD_LO b) / 64 * 64 + s.get (CLE_B_BKLOAD_HI_ADDR b) * 2 ^ 32 }) ∧
      sameRegs ([CLE_B_BKLOAD_CTRL b, CLE_B_WR_VOL_LO b, CLE_B_WR_VOL_HI b] ++ wrRegs) s t ∧ sameBut [.cleb] s t) ∧
    (∀ (got : Fin 16) (x : Seen), s.alive = true → s.flag (CLE_B_BKLOAD_CTRL_BUSY b) = true → (s.cb b).bkTo < 2 →
      ∃ t, exec (.bkloadDone b ⟨got, x⟩) s = .next t ∧ t.flag (CLE_B_BKLOAD_CTRL_BUSY b) = false ∧
        let a := (s.cb b).bkAt
        let r := (({ s with seen := x } : State).setFlag (CLE_B_BKLOAD_CTRL_BUSY b) false).unitRead true a 64
        let ok := r.2.1 = .ok
        let n := if ok then 16 else if s.refuses true a then 0 else min got.val 15
        let bytes := if ok then r.2.2 else s.dramTake a 64
        let word (i : Nat) : Word := BitVec.ofNat 32 (leNat ((bytes.drop (4 * i)).take 4))
        (∀ i : Fin 16, t.rd (CLE_BK_KP b (s.cb b).bkTo + 4 * i) =
          if n ≤ i then s.rd (CLE_BK_KP b (s.cb b).bkTo + 4 * i)
          else if i.val = 6 then wordOf (max (-65535) (word i).toInt) else if i.val = 7 then wordOf (min 65535 (word i).toInt)
          else if 8 ≤ i.val ∧ i.val % 2 = 1 then word i &&& 0xFFFF#32 else word i) ∧
        t.rd64 (CLE_B_WR_VOL_LO b) = (if n = 0 then s.rd64 (CLE_B_WR_VOL_LO b) else s.useVol % 2 ^ 64) ∧
        (ok → t.flag (CLE_B_BKLOAD_CTRL_DONE b) = true) ∧
        (¬ ok → t.flag (CLE_B_BKLOAD_CTRL_ERR b) = true ∧ recorded s t 0x0C7 (b / 2)) ∧
        sameRegs ([CLE_B_BKLOAD_CTRL b, CLE_B_WR_VOL_LO b, CLE_B_WR_VOL_HI b] ++ dramRegs ++
          (List.range 16).map fun i => CLE_BK_KP b (s.cb b).bkTo + 4 * i) s t ∧
        sameBut dramParts s t))

/-- Enables, integrator resets, banks (R240, R243, R253 to R255, R269): EN moves an engine; a reset request is kept for the next
latch; a bank value reaches its register, LO halves are held until their HI half comes, and TMIN and TMAX keep their ranges; a
write of BANK switches at once, or after the bank load that is under way; each counts as a write for WR_VOL.

It rests also on the model's own choices of log entries 7 and 52. -/
def Obligations.LoopRegisters : Prop :=
  ∀ (s : State) (k : Fin 16) (b : Fin 32) (v : Word), s.up = true →
    let st := s.get (CLE_STATUS_STATE k)
    let en := s.flag (CLE_CTRL_EN k)
    let regs := [CLE_B_WR_VOL_LO b, CLE_B_WR_VOL_HI b] ++ wrRegs
    let noted (t : State) : Prop :=
      t.rd64 (CLE_B_WR_VOL_LO b) = (s.rd64 GLB_VOL_NUM_LO + (if s.latchPast then 1 else 0)) % 2 ^ 64 ∧
        ∀ c, c ≠ b → t.cb c = s.cb c
    (∃ t, exec (.cleEnable k v) s = .next t ∧ t.flag (CLE_CTRL_EN k) = true ∧
      t.get (CLE_STATUS_STATE k) = lifeNext en true st 1 3 ∧ sameRegs ([CLE_CTRL k, CLE_STATUS k] ++ wrRegs) s t ∧
      sameBut [] s t) ∧
    (∃ t, exec (.cleDisable k v) s = .next t ∧ t.flag (CLE_CTRL_EN k) = false ∧
      t.get (CLE_STATUS_STATE k) = lifeNext en false st 1 3 ∧ sameRegs ([CLE_CTRL k, CLE_STATUS k] ++ wrRegs) s t ∧
      sameBut [] s t) ∧
    (∃ t, exec (.intReset b v) s = .next t ∧ noted t ∧ t.cb b = { s.cb b with rst := (s.cb b).rst ||| v.toNat % 4 } ∧
      sameRegs regs s t ∧ sameBut [.cleb] s t) ∧
    (∀ (c : Fin 2) (i : Fin 16), ∃ t, exec (.bankValueWrite b c i v) s = .next t ∧ noted t ∧
      let off := CLE_BK_KP b c + 4 * i
      let held := (s.cb b).lo.find? fun x => x.1 == off - 4
      (i.val < 6 → t.rd off = v) ∧ (i.val = 6 → t.rd off = wordOf (max (-65535) v.toInt)) ∧
      (i.val = 7 → t.rd off = wordOf (min 65535 v.toInt)) ∧
      (8 ≤ i.val → i.val % 2 = 0 → t.rd off = s.rd off ∧ (t.cb b).lo = tabSet (fun _ => 0) (s.cb b).lo off v) ∧
      (8 ≤ i.val → i.val % 2 = 1 → t.rd off = v &&& 0xFFFF#32 ∧
        t.rd (off - 4) = (held.map Prod.snd).getD (s.rd (off - 4)) ∧ (t.cb b).lo = (s.cb b).lo.filter fun x => x.1 != off - 4) ∧
      sameRegs (off :: (if 8 ≤ i.val ∧ i.val % 2 = 1 then off - 4 else off) :: regs) s t ∧ sameBut [.cleb] s t) ∧
    (∀ same : Bool, ∃ t, exec (.bankWrite b ⟨v, same⟩) s = .next t ∧ noted t ∧
      let old := s.get (CLE_B_BANK_ACT b)
      let new := v.toNat % 2
      let waits := s.flag (CLE_B_BKLOAD_CTRL_BUSY b) = true ∧ old ≠ new
      t.get (CLE_B_BANK_ACT b) = (if waits then old else new) ∧ t.flag (CLE_B_BANK_ARM b) = bitOf v.toNat 1 ∧
      let edge := same || s.inEdge
      t.flag (CLE_B_BANK_XFER b) = bitOf v.toNat 2 ∧ t.cb b = { s.cb b with
        defer := if waits then some new else none, hit := edge,
        armLt := bitOf v.toNat 1 && decide (s.rd64 (CLE_B_SWAT_LO b) ≤ if edge then s.useVol else s.vnum) } ∧
      sameRegs (CLE_B_BANK b :: regs) s t ∧ sameBut [.cleb] s t)

/-- Following error and traces (R259, R265 to R267): FE_RUN at TIME trips once, is reported, and stops the beam with cause 9; ARM
resets the indices and arms, FORCE triggers an armed trace, STOP idles and keeps the buffer; a trace whose samples are complete is
DONE, and reported.

It rests also on the model's own choices of log entries 7 and 52. -/
def Obligations.FollowingErrorAndTrace : Prop :=
  ∀ (s : State) (b : Fin 32),
    let r := s.cb b
    let st := s.get (CLE_B_TRC_STATUS_STATE b)
    let regs := [CLE_B_TRC_CTRL b, CLE_B_TRC_STATUS b, CLE_B_WR_VOL_LO b, CLE_B_WR_VOL_HI b] ++ wrRegs
    let armed (v : Word) (t : State) : Prop := t.rd (CLE_B_TRC_STATUS b) = 1 ∧
      t.cb b = { r with trig := bitOf v.toNat 1, taken := 0, post := 0, sfIn := false }
    let frame (v : Word) (t : State) : Prop := t.get (CLE_B_TRC_CTRL_SRC b) = v.toNat / 16 % 16 ∧ sameRegs regs s t ∧
      sameBut [.cleb] s t
    (s.alive = true → ∃ t, exec (.followingError b) s = .next t ∧
      if s.feHit b then
        t.cb b = { r with trip := true } ∧ t.flag (CLE_B_STATUS_FE_TRIP b) = true ∧ recorded s t 0x0C2 (b / 2) ∧
          stopAsked b 9 s t ∧ sameRegs [EVR_ALERT_PEND, EVR_DROP, CLE_B_STATUS b, BIO_SS_CAUSE b] s t ∧
          sameBut [.cleb, .beams] s t
      else sameRegs [EVR_DROP] s t ∧ sameBut [] s t) ∧
    (s.alive = true → ∃ t, exec (.traceDone b) s = .next t ∧
      if st = 2 ∧ 4095 ≤ r.post + r.pre then
        t.get (CLE_B_TRC_STATUS_STATE b) = 3 ∧ t.get (CLE_B_TRC_STATUS_COUNT b) = (min r.pre r.taken + 4096 - r.pre) % 8192 ∧
          t.get (CLE_B_TRC_STATUS_WR b) = s.get (CLE_B_TRC_STATUS_WR b) ∧ recorded s t 0x0C6 (b / 2) ∧
          sameRegs [EVR_ALERT_PEND, EVR_DROP, CLE_B_TRC_STATUS b] s t ∧ sameBut [] s t
      else sameRegs [EVR_DROP] s t ∧ sameBut [] s t) ∧
    (∀ v : Word, s.up = true →
      (∃ t, exec (.traceArm b v) s = .next t ∧ armed v t ∧ frame v t) ∧
      (∃ t, exec (.traceForce b v) s = .next t ∧ frame v t ∧
        if bitOf v.toNat 0 then armed (v ||| 2) t
        else t.get (CLE_B_TRC_STATUS_STATE b) = (if bitOf v.toNat 2 then 0 else st) ∧
          t.cb b = (if st = 1 ∧ bitOf v.toNat 2 = false then { r with trig := true } else r)) ∧
      (∃ t, exec (.traceStop b v) s = .next t ∧ frame v t ∧
        if bitOf v.toNat 0 then armed v t
        else t.get (CLE_B_TRC_STATUS_STATE b) = 0 ∧ t.get (CLE_B_TRC_STATUS_WR b) = s.get (CLE_B_TRC_STATUS_WR b) ∧
          t.get (CLE_B_TRC_STATUS_COUNT b) = s.get (CLE_B_TRC_STATUS_COUNT b) ∧ t.cb b = r))

/-! ### Cameras (R272 to R313) -/

/-- Camera ports (R272, R277, R312): EN set in OFF samples LANES, PNSWAP and THS_SETTLE; the stop state makes a STARTING port
READY; EN cleared closes every frame open on the port with the SYNC mark; calibration and ultra-low-power states are followed
while READY; a D-PHY error is counted, reported, and marks the open frames HDR.

It rests also on the model's own choices of log entry 7. -/
def Obligations.CameraPorts : Prop :=
  ∀ (s : State) (n : Fin 8),
    let st := s.get (CAM_CP_STATUS_STATE n)
    let en := s.flag (CAM_CP_CTRL_EN n)
    let p := s.port n
    let regs := [CAM_CP_CTRL n, CAM_CP_STATUS n] ++ wrRegs
    let closed (f : CamFrame) : CamFrame := if f.open_ then { f.mark 5 with open_ := false } else f
    (∀ v : Word, s.up = true → ∃ t, exec (.camPortEnable n v) s = .next t ∧ t.flag (CAM_CP_CTRL_EN n) = true ∧
      t.get (CAM_CP_STATUS_STATE n) = lifeNext en true st 1 3 ∧
      t.port n = (if en = false ∧ st = 0 then { p with cfg := t.rd (CAM_CP_CTRL n) &&& 0x00FF0FB0#32, ulps := false, skew := 0 }
        else p) ∧
      (∀ q, q ≠ n → t.port q = s.port q) ∧ sameRegs regs s t ∧ sameBut [.ports] s t) ∧
    (∀ v : Word, s.up = true → ∃ t, exec (.camPortDisable n v) s = .next t ∧ t.flag (CAM_CP_CTRL_EN n) = false ∧
      t.get (CAM_CP_STATUS_STATE n) = lifeNext en false st 1 3 ∧
      (∀ c : Fin 36, t.ctx c = if en = true ∧ (st = 1 ∨ st = 2) ∧ c.val ∈ s.ctxsOn n then
          { s.ctx c with frames := ((s.ctx c).frames.map closed).filter fun f => f.open_ || !f.norec }
        else s.ctx c) ∧
      sameRegs regs s t ∧ sameBut [.ctxs] s t) ∧
    (s.alive = true →
      (∃ t, exec (.camPortReady n) s = .next t ∧ t.get (CAM_CP_STATUS_STATE n) = (if st = 1 then 2 else st) ∧
        sameBeside (CAM_CP_STATUS n) [CAM_CP_STATUS_STATE n] s t ∧ sameRegs [EVR_DROP, CAM_CP_STATUS n] s t ∧ sameBut [] s t) ∧
      (∃ t, exec (.dphySkewCalibration n) s = .next t ∧ t.port n = (if st = 2 then { p with skew := p.skew + 1 } else p) ∧
        (∀ q, q ≠ n → t.port q = s.port q) ∧ sameRegs [EVR_DROP] s t ∧ sameBut [.ports] s t) ∧
      (∀ enter, ∃ t, exec (.ultraLowPowerState n enter) s = .next t ∧ t.port n = (if st = 2 then { p with ulps := enter } else p) ∧
        (∀ q, q ≠ n → t.port q = s.port q) ∧ sameRegs [EVR_DROP] s t ∧ sameBut [.ports] s t) ∧
      (∃ t, exec (.camPhyErr n) s = .next t ∧
        if st = 2 then
          t.rd (CAM_CP_PHY_ERR_CNT n) = satInc (s.rd (CAM_CP_PHY_ERR_CNT n)) ∧ t.flag (CAM_CP_STATUS_PHY n) = true ∧
            recorded s t 0x105 n ∧
            (∀ c : Fin 36, t.ctx c = if c.val ∈ s.ctxsOn n then
              { s.ctx c with frames := (s.ctx c).frames.map fun f => if f.open_ then f.mark 3 else f } else s.ctx c) ∧
            sameRegs [EVR_ALERT_PEND, EVR_DROP, CAM_CP_STATUS n, CAM_CP_PHY_ERR_CNT n] s t ∧ sameBut [.ctxs] s t
        else sameRegs [EVR_DROP] s t ∧ sameBut [] s t))

/-- Packet headers (R274, R275, R312): a port that is not READY takes nothing; an uncorrectable header is counted and reported,
and marks the frames open on the port HDR; a corrected one is counted, and its packet goes on. Line Start, Line End and
generic short packets have no further effect; of embedded data only the payload is checked; a packet of a type that R274 does not
list is counted and reported, and a long one's payload is checked.

Frames (R274, R281, R287, R312, R313): a Frame Start opens a frame of the context that owns its virtual channel, and counts it,
after closing one that is still open with a SYNC error; a Frame End closes it, with a length error where lines are missing.

It rests also on the model's own choices of log entries 7, 47, 48 and 99. -/
def Obligations.CameraPackets : Prop :=
  (∀ (s : State) (h : CsiHdr) (payload : List Byte) (crc : BitVec 16) (cmd : Instr), s.alive = true →
    let p := h.port
    let quiet := [Instr.lineStart h, .lineEnd h, .genericShort h]
    let fixed (t : State) : Prop :=
      t.rd (CAM_CP_ECC_FIX_CNT p) = if h.ecc = .fixed then satInc (s.rd (CAM_CP_ECC_FIX_CNT p)) else s.rd (CAM_CP_ECC_FIX_CNT p)
    let checked (c : Prop) [Decidable c] (t : State) : Prop :=
      t.rd (CAM_CP_CRC_ERR_CNT p) = (if c ∧ crc16 payload ≠ crc then satInc (s.rd (CAM_CP_CRC_ERR_CNT p)) else s.rd (CAM_CP_CRC_ERR_CNT p)) ∧
      (c → crc16 payload ≠ crc → t.flag (CAM_CP_STATUS_CRC p) = true ∧ recorded s t 0x101 p)
    let ready := s.get (CAM_CP_STATUS_STATE p) = 2
    (cmd ∈ quiet ++ [.frameStart h, .frameEnd h, .pixelLine h payload crc, .embeddedData ⟨h, payload, crc⟩, .camUnknown ⟨h, payload, crc⟩] → ∃ t, exec cmd s = .next t ∧
      (¬ ready → sameRegs [EVR_DROP] s t ∧ sameBut [] s t) ∧
      (ready → h.ecc ≠ .bad → fixed t) ∧
      (ready → h.ecc = .bad → t.rd (CAM_CP_ECC_ERR_CNT p) = satInc (s.rd (CAM_CP_ECC_ERR_CNT p)) ∧
        t.flag (CAM_CP_STATUS_ECC p) = true ∧ recorded s t 0x100 p ∧
        (∀ c : Fin 36, t.ctx c = if c.val ∈ s.ctxsOn p then
          { s.ctx c with frames := (s.ctx c).frames.map fun f => if f.open_ then f.mark 3 else f } else s.ctx c) ∧
        sameRegs [EVR_ALERT_PEND, EVR_DROP, CAM_CP_STATUS p, CAM_CP_ECC_ERR_CNT p] s t ∧ sameBut [.ctxs] s t)) ∧
    (cmd ∈ quiet → ready → h.ecc ≠ .bad → ∃ t, exec cmd s = .next t ∧ sameRegs [EVR_DROP, CAM_CP_ECC_FIX_CNT p] s t ∧
      sameBut [] s t) ∧
    (ready → h.ecc ≠ .bad → ∃ t, exec (.embeddedData ⟨h, payload, crc⟩) s = .next t ∧
      checked (h.dt = 0x12 ∧ payload.length = h.wc) t ∧
      sameRegs [EVR_ALERT_PEND, EVR_DROP, CAM_CP_STATUS p, CAM_CP_ECC_FIX_CNT p, CAM_CP_CRC_ERR_CNT p] s t ∧ sameBut [] s t) ∧
    (ready → h.ecc ≠ .bad → ∃ t, exec (.camUnknown ⟨h, payload, crc⟩) s = .next t ∧
      checked (dtListed h.dt = false ∧ 0x10 ≤ h.dt) t ∧
      (dtListed h.dt = false → t.rd (CAM_CP_UNKNOWN_CNT p) = satInc (s.rd (CAM_CP_UNKNOWN_CNT p)) ∧
        t.flag (CAM_CP_STATUS_UNKNOWN p) = true ∧ recorded s t 0x104 p) ∧
      (dtListed h.dt = true → sameRegs [EVR_DROP, CAM_CP_ECC_FIX_CNT p] s t) ∧
      sameRegs [EVR_ALERT_PEND, EVR_DROP, CAM_CP_STATUS p, CAM_CP_ECC_FIX_CNT p, CAM_CP_UNKNOWN_CNT p, CAM_CP_CRC_ERR_CNT p] s t ∧
      sameBut [] s t)) ∧
  (∀ (s : State) (h : CsiHdr), s.alive = true → s.get (CAM_CP_STATUS_STATE h.port) = 2 → h.ecc ≠ .bad →
    let p := h.port
    let unknown (t : State) : Prop := t.rd (CAM_CP_UNKNOWN_CNT p) = satInc (s.rd (CAM_CP_UNKNOWN_CNT p)) ∧ recorded s t 0x104 p ∧
      sameBut [] s t
    (h.dt = 0 → ∃ t, exec (.frameStart h) s = .next t ∧
      (s.ctxOf p h.vc = none → unknown t) ∧
      (∀ c, s.ctxOf p h.vc = some c →
        let x := s.ctx c
        t.rd (CAM_CTX_FRAME c) = BitVec.ofNat 32 x.count ∧ (t.ctx c).count = x.count + 1 ∧
        (∃ f, (t.ctx c).opened = some f ∧ f.no = x.count ∧ f.seen = 0 ∧ f.rows = [] ∧ f.trig = x.trig ∧
          f.norec = !(s.get (CAM_CTX_STATUS_STATE c) == 2 && !s.paused c)) ∧
        t.rd (CAM_CP_SYNC_ERR_CNT p) = (if x.opened.all CamFrame.mute then s.rd (CAM_CP_SYNC_ERR_CNT p)
          else satInc (s.rd (CAM_CP_SYNC_ERR_CNT p))) ∧
        (x.opened.all CamFrame.mute = false → recorded s t 0x103 p) ∧
        (∀ d, d ≠ c → t.ctx d = s.ctx d) ∧ sameBut [.ctxs] s t)) ∧
    (h.dt = 1 → ∃ t, exec (.frameEnd h) s = .next t ∧
      (s.ctxOf p h.vc = none → unknown t) ∧
      (∀ c, s.ctxOf p h.vc = some c →
        (t.ctx c).opened = none ∧ (∀ d, d ≠ c → t.ctx d = s.ctx d) ∧
        ((s.ctx c).opened = none → s.get (CAM_CTX_STATUS_STATE c) = 2 →
          t.rd (CAM_CP_SYNC_ERR_CNT p) = satInc (s.rd (CAM_CP_SYNC_ERR_CNT p)) ∧ recorded s t 0x103 p) ∧
        (∀ f, (s.ctx c).opened = some f → t.rd (CAM_CP_SYNC_ERR_CNT p) = s.rd (CAM_CP_SYNC_ERR_CNT p) ∧
          if f.norec = false ∧ f.seen < s.get (CAM_CTX_GEOM_H c) then
            t.rd (CAM_CP_LEN_ERR_CNT p) = satInc (s.rd (CAM_CP_LEN_ERR_CNT p)) ∧ recorded s t 0x102 p
          else t.rd (CAM_CP_LEN_ERR_CNT p) = s.rd (CAM_CP_LEN_ERR_CNT p)) ∧
        sameRegs [EVR_ALERT_PEND, EVR_DROP, CAM_CP_STATUS p, CAM_CP_ECC_FIX_CNT p, CAM_CP_SYNC_ERR_CNT p, CAM_CP_LEN_ERR_CNT p] s t ∧
        sameBut [.ctxs] s t)))

/-- Pixel lines (R276, R283, R286, R312): a line of a frame that is kept is counted; one of the wrong length, or beyond the
height, is a length error; without a free place the frame is truncated; otherwise the unpacked line takes a place of its port; a
checksum that fails is an error of any of these lines, which keeps it. Where no frame is open, or only one that gives no record, the
checksum and the length are checked alike, and the line is not kept.

It rests also on the model's own choices of log entries 7, 47, 48, 50 and 104. -/
def Obligations.PixelLines : Prop :=
  ∀ (s : State) (h : CsiHdr) (payload : List Byte) (crc : BitVec 16) (c : Nat),
    let p := h.port
    let ten := h.dt == 0x2B
    let w := s.get (CAM_CTX_GEOM_W c)
    let wrong := h.wc ≠ (if ten then w * 5 / 4 else w * 3 / 2)
    let lines := (s.port p).lines
    let kept (t : State) : Prop := t.port p = s.port p ∧ t.rd (CAM_CP_LINES p) = s.rd (CAM_CP_LINES p)
    let lenErr (t : State) : Prop := t.rd (CAM_CP_LEN_ERR_CNT p) = satInc (s.rd (CAM_CP_LEN_ERR_CNT p)) ∧
      t.flag (CAM_CP_STATUS_LEN p) = true ∧ recorded s t 0x102 p
    let checked (t : State) : Prop :=
      (crc16 payload ≠ crc → t.rd (CAM_CP_CRC_ERR_CNT p) = satInc (s.rd (CAM_CP_CRC_ERR_CNT p)) ∧ recorded s t 0x101 p) ∧
      (crc16 payload = crc → t.rd (CAM_CP_CRC_ERR_CNT p) = s.rd (CAM_CP_CRC_ERR_CNT p))
    let regs := [EVR_ALERT_PEND, EVR_DROP, CAM_CP_STATUS p, CAM_CP_ECC_FIX_CNT p, CAM_CP_LEN_ERR_CNT p, CAM_CP_CRC_ERR_CNT p]
    s.alive = true → s.get (CAM_CP_STATUS_STATE p) = 2 → h.ecc ≠ .bad → (h.dt = 0x2B ∨ h.dt = 0x2C) → payload.length = h.wc →
    s.ctxOf p h.vc = some c → s.get (CAM_CTX_STATUS_STATE c) = 2 → s.flag (CAM_CTX_CTRL_DT c) = ten → s.paused c = false →
    (∀ f, (s.ctx c).opened = some f → f.norec = false → f.mute = false →
      ∃ t, exec (.pixelLine h payload crc) s = .next t ∧ ((t.ctx c).opened.map CamFrame.seen) = some (f.seen + 1) ∧
        let bad := wrong ∨ s.get (CAM_CTX_GEOM_H c) ≤ f.seen
        (∀ d, d ≠ c → t.ctx d = s.ctx d) ∧ (∀ q, q ≠ p → t.port q = s.port q) ∧
        sameRegs (regs ++ [CAM_CP_OVF_CNT p, CAM_CTX_TRUNC_CNT c, CAM_CTX_STATUS c, CAM_CP_LINES p]) s t ∧
        sameBut [.ctxs, .ports] s t ∧
        (bad → kept t ∧ lenErr t) ∧
        (¬ bad → bitOf f.flags 1 = true → kept t ∧ t.rd (CAM_CTX_TRUNC_CNT c) = s.rd (CAM_CTX_TRUNC_CNT c)) ∧
        (¬ bad → bitOf f.flags 1 = false → 4 ≤ lines.length → kept t ∧ recorded s t 0x106 c ∧
          t.rd (CAM_CTX_TRUNC_CNT c) = satInc (s.rd (CAM_CTX_TRUNC_CNT c)) ∧ t.flag (CAM_CTX_STATUS_TRUNC c) = true ∧
          t.rd (CAM_CP_OVF_CNT p) = satInc (s.rd (CAM_CP_OVF_CNT p)) ∧ t.flag (CAM_CP_STATUS_OVF p) = true) ∧
        (¬ bad → bitOf f.flags 1 = false → lines.length < 4 →
          (t.port p).lines =
            lines ++ [{ ctx := c, frame := f.no, run := f.run, y := f.seen, pix := if ten then raw10 payload else raw12 payload }] ∧
          t.get (CAM_CP_LINES_USED p) = lines.length + 1) ∧ checked t) ∧
    ((s.ctx c).opened.all (fun f => f.norec && !f.mute) = true →
      ∃ t, exec (.pixelLine h payload crc) s = .next t ∧ kept t ∧ checked t ∧ (wrong → lenErr t) ∧
        (¬ wrong → t.rd (CAM_CP_LEN_ERR_CNT p) = s.rd (CAM_CP_LEN_ERR_CNT p) ∧ t.ctx c = s.ctx c) ∧
        (∀ d, d ≠ c → t.ctx d = s.ctx d) ∧ sameRegs regs s t ∧ sameBut [.ctxs] s t)

/-- The pipeline, the records and the archive (R284, R298, R305, R312): the line chosen leaves its place, and its cycles count in
this Volley, of whose last line some may fall later; the oldest closed frame
whose lines have entered the pipeline becomes the latest record, but for a paused context's; a record of the archive is written
unless the DRAM is frozen or migrates, and ARC_WR advances; a frame without a Frame End in time closes with a SYNC error.

It rests also on the model's own choices of log entries 7, 48 and 104. -/
def Obligations.CameraRecords : Prop :=
  ∀ s : State, s.alive = true →
    (∃ t, exec .linePick s = .next t ∧
      (s.pick = none → sameRegs [EVR_DROP] s t ∧ sameBut [] s t) ∧
      (∀ p u l rest, s.pick = some (p, u) → (s.port p).lines = l :: rest → rest.length < 8 →
        (t.port p).lines = rest ∧ t.get (CAM_CP_LINES_USED p) = rest.length ∧
        t.pipeBusy = s.pipeBusy + ceilDiv l.pix.length 8 ∧ t.pipeOver = ceilDiv l.pix.length 8)) ∧
    (∀ c : Fin 36, ∃ t, exec (.recordComplete c) s = .next t ∧
      let x := s.ctx c
      ∀ f rest, x.frames = f :: rest →
        (f.open_ = true ∨ (f.wait ≠ 0 ∧ bitOf f.flags 5 = false) → sameRegs [EVR_DROP] s t ∧ sameBut [] s t) ∧
        (f.open_ = false → (f.wait = 0 ∨ bitOf f.flags 5 = true) → (t.ctx c).frames = rest ∧
          (s.paused c = true ∨ f.norec = true → (t.ctx c).rcd = x.rcd) ∧
          (s.paused c = false → f.norec = false →
            let r := if 32 ≤ c.val then s.lyRecord c f else s.mpRecord c f
            (t.ctx c).rcd = some r ∧
            (32 ≤ c.val → (∀ (i : Fin 64) w, r[i.val]? = some w → t.rd (CAM_LYREC (c - 32) i) = w) ∧
              ∀ i, f.slot = some i → (t.ctx c).arc = x.arc ++ [(i, r.flatMap fun w => leBytes 4 w.toNat)])) ∧
          sameRegs (EVR_DROP :: (List.range 64).map (CAM_LYREC (c - 32))) s t ∧ sameBut [.ctxs, .cal] s t)) ∧
    (∀ (m : Fin 4) (x : Seen), ∃ t, exec (.archiveRecordWritten ⟨m, x⟩) s = .next t ∧
      let c := 32 + m.val
      ∀ i bytes rest, (s.ctx c).arc = (i, bytes) :: rest → s.throttled = false →
        let r := State.arcWrite { s with seen := x } (s.arcAddr m i + s.get (CAM_CTX_GEOM_W c) * s.get (CAM_CTX_GEOM_H c) * 2) bytes
        if r.2 = .frozen ∨ r.2 = .migrating then sameRegs [EVR_DROP] s t ∧ sameBut [] s t
        else (t.ctx c).arc = rest ∧ t.rd (CAM_LY_ARC_WR m) = BitVec.ofNat 32 ((i + 1) % s.arcSlots m) ∧
          sameRegs (CAM_LY_ARC_WR m :: dramRegs) s t ∧ sameBut (.ctxs :: dramParts) s t) ∧
    (∀ c : Fin 36, ∃ t, exec (.frameTimeout c) s = .next t ∧
      let p := s.get (CAM_CTX_CTRL_PORT c)
      let fto := s.get (CAM_CTX_CFG_FTO c)
      if (s.ctx c).opened.any (fun f => decide (fto ≤ f.vols) && !f.mute) = true ∧ fto ≠ 0 then
        (t.ctx c).opened = none ∧ t.rd (CAM_CP_SYNC_ERR_CNT p) = satInc (s.rd (CAM_CP_SYNC_ERR_CNT p)) ∧
          recorded s t 0x103 p ∧ sameRegs [EVR_ALERT_PEND, EVR_DROP, CAM_CP_STATUS p, CAM_CP_SYNC_ERR_CNT p] s t ∧ sameBut [.ctxs] s t
      else sameRegs [EVR_DROP] s t ∧ sameBut [] s t)

/-- Contexts (R278 to R282, R307): EN set in OFF starts generation 0 with every count at 0, or fails with a reported FAULT; the
other fields change only while the context is OFF, in a write that does not set EN, and are refused and reported otherwise; EN
cleared stops the context; COMMIT of a live context falls due at an edge.

It rests also on the model's own choices of log entry 59. -/
def Obligations.CameraContexts : Prop :=
  ∀ (s : State) (c : Fin 36) (v : Word), s.up = true →
    let st := s.get (CAM_CTX_STATUS_STATE c)
    let en := s.flag (CAM_CTX_CTRL_EN c)
    let x := s.ctx c
    let rest := 0xFFFEFFFE#32
    let changed := (s.rd (CAM_CTX_CTRL c) &&& rest) ≠ (v &&& rest)
    let starts := en = false ∧ st = 0 ∧ s.ctxOk c = true
    let due (d : Nat) (t : State) : Prop := (t.ctx c).due =
      if bitOf v.toNat 16 = true ∧ (t.get (CAM_CTX_STATUS_STATE c) = 1 ∨ t.get (CAM_CTX_STATUS_STATE c) = 2) then
        d ||| s.dueIn else d
    let refused (t : State) : Prop := t.flag (CAM_CTX_STATUS_CFG_REFUSED c) = true ∧ recorded s t 0x109 c
    let regs := [CAM_CTX_CTRL c, CAM_CTX_STATUS c, CAM_CTX_GEN c, CAM_CTX_FRAME c] ++ wrRegs
    (∃ t, exec (.ctxEnable c v) s = .next t ∧ t.flag (CAM_CTX_CTRL_EN c) = true ∧
      t.get (CAM_CTX_STATUS_STATE c) = lifeNext en true st (if s.ctxOk c then 1 else 4) 3 ∧
      t.rd (CAM_CTX_CTRL c) &&& rest = s.rd (CAM_CTX_CTRL c) &&& rest ∧ (changed → refused t) ∧
      (starts → (t.ctx c).count = 0 ∧ (t.ctx c).run = x.run + 1 ∧ (t.ctx c).gens = [] ∧ (t.ctx c).forced = false ∧ t.rd (CAM_CTX_FRAME c) = 0 ∧
        t.rd (CAM_CTX_GEN c) = 0 ∧ due s.dueIn t) ∧
      (¬ starts → due x.due t ∧ (t.ctx c).gens = x.gens ∧ (t.ctx c).count = x.count ∧ (t.ctx c).run = x.run) ∧
      (en = false → st = 0 → s.ctxOk c = false → recorded s t 0x10B c) ∧
      (∀ d, d ≠ c → t.ctx d = s.ctx d) ∧ sameRegs regs s t ∧ sameBut [.ctxs] s t) ∧
    (∃ t, exec (.ctxDisable c v) s = .next t ∧ t.flag (CAM_CTX_CTRL_EN c) = false ∧
      t.get (CAM_CTX_STATUS_STATE c) = lifeNext en false st 1 3 ∧ due x.due t ∧
      t.rd (CAM_CTX_CTRL c) &&& rest = (if st = 0 then v else s.rd (CAM_CTX_CTRL c)) &&& rest ∧ (st ≠ 0 → changed → refused t) ∧
      (∀ d, d ≠ c → t.ctx d = s.ctx d) ∧ sameRegs [CAM_CTX_CTRL c, CAM_CTX_STATUS c, EVR_ALERT_PEND, EVR_DROP, TST_STATUS,
        TST_PT_CNT 0, TST_PT_CNT 1, TST_PT_CNT 2, TST_PT_CNT 3, TST_PT_CNT 4, TST_PT_CNT 5, TST_PT_CNT 6, TST_PT_CNT 7] s t ∧
      sameBut [.ctxs] s t) ∧
    exec (.ctxCommit c v) s =
      if bitOf v.toNat 0 then exec (.ctxEnable c (v ||| 0x10000)) s else exec (.ctxDisable c (v ||| 0x10000)) s

/-- Sensor writes (R308, R309, R311): a write that is acknowledged is followed by the generation's next item, and by its commit
instant after the last; one that fails or takes too long is counted and reported, and its generation's commit instant is reached
without the items left; the next generation of the port then begins.

Reads and writes of camera data, and the layer triggers (R294, R299, R301, R302, R305): a read of FEAT0 copies the latest record;
a table that a live context selects keeps its words; ARC_RD frees slots within the permitted range; a trigger output falls at the
end of its pulse; a strobe request rises once for each trigger, and falls.

It rests also on the model's own choices of log entries 7 and 49. -/
def Obligations.SensorsAndTriggers : Prop :=
  (∀ (s : State) (n : Fin 8) (c num : Nat) (q : List (Nat × Nat)), s.alive = true → (s.port n).cci = (c, num) :: q →
    let live := (s.ctx c).gens.any fun g => g.num == num
    let left := q.filter fun x => (s.ctx x.1).gens.any fun g => g.num == x.2
    let ended (t : State) : Prop := (t.port n).cci = left ∧ (live = true → (t.ctx c).go = true) ∧
      (left = [] → t.outbox = s.outbox) ∧
      (∀ d k r, left = (d, k) :: r → ∃ bytes, t.outbox = s.outbox ++ [.cci n bytes])
    let failed (t : State) : Prop := live = true → t.rd (CAM_CTX_CCI_ERR_CNT c) = satInc (s.rd (CAM_CTX_CCI_ERR_CNT c)) ∧
      t.flag (CAM_CTX_STATUS_CCI_ERR c) = true ∧ recorded s t 0x107 c
    let frame (t : State) : Prop :=
      sameRegs [EVR_ALERT_PEND, EVR_DROP, CAM_CTX_STATUS c, CAM_CTX_CCI_ERR_CNT c] s t ∧ sameBut [.ports, .ctxs, .outbox] s t
    (∃ t, exec (.cciTimeout n) s = .next t ∧ ended t ∧ failed t ∧ frame t) ∧
    (∃ t, exec (.cciWriteDone n false) s = .next t ∧ ended t ∧ failed t ∧ frame t) ∧
    (∃ t, exec (.cciWriteDone n true) s = .next t ∧ sameRegs [EVR_DROP] s t ∧ frame t ∧
      ∀ g, (s.ctx c).gens.find? (fun g => g.num == num) = some g →
        (∀ i, s.cciNext c (g.item + 1) = some i →
          (t.port n).cci = (s.port n).cci ∧ t.outbox = s.outbox ++ [.cci n (s.cciBytes c i g.sets)]) ∧
        (s.cciNext c (g.item + 1) = none → ended t))) ∧
  (∀ (s : State) (m : Fin 4) (v : Word),
    let c := 32 + m.val
    let x := s.ctx c
    let frame (t : State) : Prop := (∀ d, d ≠ c → t.ctx d = s.ctx d) ∧ sameRegs [EVR_DROP] s t ∧ sameBut [.ctxs] s t
    (∀ d : Fin 36, s.up = true → ∃ t, exec (.featRead d) s = .next t ∧
      (d.val < 32 → ∀ i : Fin 8, t.rd (CAM_CTX_FEAT d i) = ((s.ctx d).rcd.getD []).getD i 0) ∧
      sameRegs ((if d.val < 32 then (List.range 8).map (CAM_CTX_FEAT d) else []) ++ wrRegs) s t ∧ sameBut [] s t) ∧
    (∀ i : Fin 2048, s.up = true → ∃ t, exec (.tableWrite m i v) s = .next t ∧ sameBut [] s t ∧
      if s.tabUsed m then t.flag CAM_STATUS_TAB_REFUSED = true ∧ recorded s t 0x109 0 ∧ sameRegs (CAM_STATUS :: wrRegs) s t
      else t.rd (CAM_TABLE m i) = v ∧ sameRegs (CAM_TABLE m i :: wrRegs) s t) ∧
    (s.up = true → ∃ t, exec (.arcRdWrite m v) s = .next t ∧
      let n := s.arcSlots m
      let rd := s.rdN (CAM_LY_ARC_RD m) % n
      let wr := s.rdN (CAM_LY_ARC_WR m) % n
      t.rd (CAM_LY_ARC_RD m) =
        (if v.toNat < n ∧ (v.toNat + n - rd) % n ≤ (wr + n - rd) % n then v else s.rd (CAM_LY_ARC_RD m)) ∧
      sameRegs (CAM_LY_ARC_RD m :: wrRegs) s t ∧ sameBut [] s t) ∧
    (s.alive = true →
      (∃ t, exec (.triggerPulseEnd m) s = .next t ∧ t.ctx c = { x with pin := false } ∧ frame t) ∧
      (∃ t, exec (.strobeRequestRise m) s = .next t ∧
        t.ctx c = (if x.strbN ≠ 0 then { x with strbN := x.strbN - 1, strb := true } else x) ∧ frame t) ∧
      (∃ t, exec (.strobeRequestFall m) s = .next t ∧ t.ctx c = { x with strb := false } ∧ frame t)))

/-! ### Lighting (R517 to R531) -/

/-- Current sinks (R518 to R525): EN starts a sink, which is READY at the next common period start; that start numbers the
active sinks and gives them their offsets; a sink's own period takes new codes and switches it on, its on-time ends but for a duty of
0xFFFF, a strobe request that lasts too long is cut and reported, be the sink on or held off; the thermal shut-down puts every sink that is not OFF into FAULT, until the key releases it.

Lamp wires (R528 to R531, R575, R622): EN makes an output READY at once; cleared in a frame it leaves the bit under way, in
STOPPING, after which what has left of the frame is cut and not counted, and a frame whose gap is under way ends at once; GO sends
the buffered shares and SYNC a SYNC frame, GO first; a start while the output is busy is refused and reported, and LGT_LW_SYNC has no
effect at all where it selects a busy output; a frame that completes is sent and counted.

It rests also on the model's own choices of log entries 7, 64 and 117. -/
def Obligations.Lighting : Prop :=
  (∀ (s : State) (n : Fin 12) (v : Word),
    let st := s.get (LGT_LS_STATUS_STATE n)
    let en := s.flag (LGT_LS_CTRL_EN n)
    let r := s.sink n
    let kept := s.rd (LGT_LS_CTRL n) &&& 0x32
    let refused (t : State) : Prop := t.flag (LGT_LS_STATUS_CFG_REFUSED n) = true ∧ recorded s t 0x284 n
    let frame (t : State) : Prop := (∀ m, m ≠ n → t.sink m = s.sink m) ∧ sameBut [.sinks] s t
    let nothing (t : State) : Prop := sameRegs [EVR_DROP] s t ∧ sameBut [] s t
    (s.up = true →
      (∃ t, exec (.sinkEnable n v) s = .next t ∧ t.flag (LGT_LS_CTRL_EN n) = true ∧
        t.get (LGT_LS_STATUS_STATE n) = lifeNext en true st 1 0 ∧ t.rd (LGT_LS_CTRL n) &&& 0x32 = kept ∧
        (v &&& 0x32 ≠ kept → refused t) ∧ t.sink n = (if en = false ∧ st = 0 then default else r) ∧ frame t ∧
        sameRegs ([LGT_LS_CTRL n, LGT_LS_STATUS n] ++ wrRegs) s t) ∧
      (∃ t, exec (.sinkDisable n v) s = .next t ∧ t.flag (LGT_LS_CTRL_EN n) = false ∧
        t.get (LGT_LS_STATUS_STATE n) = lifeNext en false st 1 0 ∧
        t.rd (LGT_LS_CTRL n) &&& 0x32 = (if st = 0 then v &&& 0x32 else kept) ∧ (st ≠ 0 → v &&& 0x32 ≠ kept → refused t) ∧
        (en = true → st = 1 ∨ st = 2 → t.flag (LGT_LS_STATUS_ON n) = false) ∧ sameBut [] s t ∧
        sameRegs ([LGT_LS_CTRL n, LGT_LS_STATUS n] ++ wrRegs) s t) ∧
      (∃ t, exec (.tsdRelease v) s = .next t ∧ sameBut [] s t ∧
        if v = 0x00003A5C#32 ∧ s.flag LGT_STATUS_HOT = false then
          t.flag LGT_STATUS_TSD = false ∧ recorded s t 0x281 0 ∧ sameBeside LGT_STATUS [LGT_STATUS_TSD] s t ∧
            (∀ n : Fin 12, t.flag (LGT_LS_STATUS_ON n) = (s.flag (LGT_LS_STATUS_ON n) || s.strobing n) ∧
              sameBeside (LGT_LS_STATUS n) [LGT_LS_STATUS_ON n] s t) ∧
            sameRegs (LGT_STATUS :: (List.range 12).map LGT_LS_STATUS ++ wrRegs) s t
        else recorded s t 0x285 0 ∧ sameRegs wrRegs s t)) ∧
    (s.alive = true →
      (∃ t, exec .commonPeriodStart s = .next t ∧ sameBut [.sinks] s t ∧
        sameRegs (EVR_DROP :: LGT_ACTIVE :: (List.range 12).map LGT_LS_STATUS) s t ∧
        t.get LGT_ACTIVE_K = countBelow (t.get LGT_ACTIVE_MASK) 12 ∧
        ∀ m : Fin 12,
          let was := s.get (LGT_LS_STATUS_STATE m)
          let act := s.flag (LGT_LS_CTRL_EN m) = true ∧ s.flag (LGT_LS_CTRL_MODE m) = false ∧ (was = 1 ∨ was = 2) ∧
            s.rdN (LGT_LS_DUTY m) % 65536 ≠ 0
          let strobes := was = 1 ∧ s.flag (LGT_LS_CTRL_MODE m) = true ∧ (s.ctx (32 + s.get (LGT_LS_CTRL_LYSEL m))).strb = true
          t.get (LGT_LS_STATUS_STATE m) = (if was = 1 then 2 else was) ∧
          (bitOf (t.get LGT_ACTIVE_MASK) m = true ↔ act) ∧
          (act → t.sink m = { s.sink m with
            off := some (countBelow (t.get LGT_ACTIVE_MASK) m * 16384 / t.get LGT_ACTIVE_K) }) ∧
          (strobes → (t.sink m).code = s.get (LGT_LS_I_ISTRB m) ∧ t.flag (LGT_LS_STATUS_ON m) = !s.flag LGT_STATUS_TSD) ∧
          (¬ act → ¬ strobes → t.sink m = s.sink m) ∧
          (¬ strobes → t.flag (LGT_LS_STATUS_ON m) = s.flag (LGT_LS_STATUS_ON m))) ∧
      (∃ t, exec (.sinkPeriodStart n) s = .next t ∧ frame t ∧ sameRegs [EVR_DROP, LGT_LS_STATUS n] s t ∧
        let d := s.rdN (LGT_LS_DUTY n) % 65536
        if st = 2 ∧ s.flag (LGT_LS_CTRL_MODE n) = false then
          let on := if d = 0xFFFF then 16384 else d / 4 + if r.p % 4 < d % 4 then 1 else 0
          t.sink n = { r with code := s.get (LGT_LS_I_ICODE n), duty := d, p := (r.p + 1) % 4, on := on, off := none } ∧
            (∀ o, r.off = some o → t.get (LGT_LS_STATUS_OFFSET n) = o % 16384) ∧
            t.flag (LGT_LS_STATUS_ON n) = (decide (0 < on) && !s.flag LGT_STATUS_TSD)
        else nothing t) ∧
      (∃ t, exec (.sinkOnTimeEnd n) s = .next t ∧ sameBut [] s t ∧ sameRegs [EVR_DROP, LGT_LS_STATUS n] s t ∧
        sameBeside (LGT_LS_STATUS n) [LGT_LS_STATUS_ON n] s t ∧ t.flag (LGT_LS_STATUS_ON n) =
          (s.flag (LGT_LS_STATUS_ON n) && (s.flag (LGT_LS_CTRL_MODE n) || r.duty == 0xFFFF))) ∧
      (∃ t, exec (.strobeLong n) s = .next t ∧
        if s.rdN (LGT_LS_SMAX n) % 65536 ≠ 0 ∧ s.strobing n = true then
          t.sink n = { r with cut := true } ∧ t.flag (LGT_LS_STATUS_ON n) = false ∧ t.flag (LGT_LS_STATUS_SLONG n) = true ∧
            recorded s t 0x282 n ∧ frame t ∧ sameRegs [EVR_ALERT_PEND, EVR_DROP, LGT_LS_STATUS n] s t
        else nothing t) ∧
      (∃ t, exec .lsTsd s = .next t ∧ sameBut [] s t ∧ t.flag LGT_STATUS_TSD = true ∧ recorded s t 0x280 0 ∧
        sameBeside LGT_STATUS [LGT_STATUS_TSD] s t ∧
        sameRegs ([EVR_ALERT_PEND, EVR_DROP, LGT_STATUS] ++ (List.range 12).map LGT_LS_STATUS) s t ∧
        ∀ m : Fin 12, t.flag (LGT_LS_STATUS_ON m) = false ∧
          t.get (LGT_LS_STATUS_STATE m) = if s.get (LGT_LS_STATUS_STATE m) = 0 then 0 else 4) ∧
      (∀ hot, ∃ t, exec (.sinkArrayHot hot) s = .next t ∧ t.flag LGT_STATUS_HOT = hot ∧ sameBut [] s t ∧
        sameRegs [EVR_DROP, LGT_STATUS] s t ∧ sameBeside LGT_STATUS [LGT_STATUS_HOT] s t))) ∧
  (∀ (s : State) (n : Fin 2) (v : Word),
    let st := s.get (LGT_LW_STATUS_STATE n)
    let en := s.flag (LGT_LW_CTRL_EN n)
    let busy := s.flag (LGT_LW_STATUS_BUSY n)
    let refused (m : Nat) (t : State) : Prop := t.flag (LGT_LW_STATUS_CFG_REFUSED m) = true ∧ recorded s t 0x284 m
    let starts (go sync : Bool) (t : State) : Prop :=
      let l := (if go then [t.lampFrame n] else []) ++ if sync then [[syncShare]] else []
      if busy = true ∧ l ≠ [] then t.lamp n = s.lamp n ∧ t.flag (LGT_LW_STATUS_BUSY n) = true ∧ refused n t
      else if st = 2 ∧ l ≠ [] then t.lamp n = l ∧ t.flag (LGT_LW_STATUS_BUSY n) = true
      else t.lamp n = s.lamp n ∧ t.flag (LGT_LW_STATUS_BUSY n) = busy
    let written (t : State) : Prop := t.get (LGT_LW_CTRL_COUNT n) = min 64 (fldOf (LGT_LW_CTRL_COUNT n).lo (LGT_LW_CTRL_COUNT n).w v) ∧
      (∀ m, m ≠ n → t.lamp m = s.lamp m) ∧ sameRegs ([LGT_LW_CTRL n, LGT_LW_STATUS n] ++ wrRegs) s t ∧ sameBut [.lamps] s t
    (s.up = true →
      (∃ t, exec (.lwEnable n v) s = .next t ∧ t.flag (LGT_LW_CTRL_EN n) = true ∧
        t.get (LGT_LW_STATUS_STATE n) = lifeNext en true st 2 0 ∧ starts (bitOf v.toNat 1) (bitOf v.toNat 2) t ∧ written t) ∧
      (∃ t, exec (.lwDisable n v) s = .next t ∧ t.flag (LGT_LW_CTRL_EN n) = false ∧ written t ∧
        (busy = true → bitOf v.toNat 1 = true ∨ bitOf v.toNat 2 = true → refused n t) ∧
        (en = true → st = 1 ∨ st = 2 →
          (s.lamp n = [] → t.get (LGT_LW_STATUS_STATE n) = 0 ∧ t.lamp n = []) ∧
          (∀ f rest, s.lamp n = f :: rest →
            (t.get (LGT_LW_STATUS_STATE n) = 0 ∧ t.lamp n = [] ∧ t.flag (LGT_LW_STATUS_BUSY n) = false) ∨
            (t.get (LGT_LW_STATUS_STATE n) = 3 ∧ t.lamp n = [f] ∧ t.flag (LGT_LW_STATUS_BUSY n) = true))) ∧
        (en = true → st ≠ 1 → st ≠ 2 → t.get (LGT_LW_STATUS_STATE n) = lifeNext en false st 2 0 ∧ t.lamp n = s.lamp n)) ∧
      (∃ t, exec (.lwGo n v) s = .next t ∧ written t ∧ (bitOf v.toNat 0 = true → starts true (bitOf v.toNat 2) t)) ∧
      (∃ t, exec (.lwSync n v) s = .next t ∧ written t ∧ (bitOf v.toNat 0 = true → starts (bitOf v.toNat 1) true t)) ∧
      (∃ t, exec (.lgtLwSync v) s = .next t ∧ sameRegs ([LGT_LW_STATUS 0, LGT_LW_STATUS 1] ++ wrRegs) s t ∧
        sameBut [.lamps] s t ∧
        let meets (m : Fin 2) : Prop := bitOf v.toNat m = true ∧ s.flag (LGT_LW_STATUS_BUSY m) = true
        ∀ m : Fin 2,
          ((∃ k, meets k) → t.lamp m = s.lamp m ∧ (meets m → refused m t) ∧
            (¬ meets m → t.rd (LGT_LW_STATUS m) = s.rd (LGT_LW_STATUS m))) ∧
          ((∀ k, ¬ meets k) → if bitOf v.toNat m = true ∧ s.get (LGT_LW_STATUS_STATE m) = 2 then
              t.lamp m = [[syncShare]] ∧ t.flag (LGT_LW_STATUS_BUSY m) = true
            else t.lamp m = s.lamp m ∧ t.rd (LGT_LW_STATUS m) = s.rd (LGT_LW_STATUS m)))) ∧
    (s.alive = true → ∃ t, exec (.lwDone n) s = .next t ∧
      (s.lamp n = [] → sameRegs [EVR_DROP] s t ∧ sameBut [] s t) ∧
      (∀ f rest, s.lamp n = f :: rest → (∀ m, m ≠ n → t.lamp m = s.lamp m) ∧ sameBut [.lamps, .outbox] s t ∧
        (st ≠ 3 → st ≠ 5 → t.lamp n = rest ∧ t.flag (LGT_LW_STATUS_BUSY n) = !rest.isEmpty ∧
          t.outbox = s.outbox ++ [.lamp n f] ∧ t.rd (LGT_LW_SENT_CNT n) = s.rd (LGT_LW_SENT_CNT n) + 1 ∧ recorded s t 0x283 n ∧
          sameRegs [EVR_ALERT_PEND, EVR_DROP, LGT_LW_STATUS n, LGT_LW_SENT_CNT n] s t) ∧
        (st = 3 ∨ st = 5 → t.lamp n = [] ∧ t.flag (LGT_LW_STATUS_BUSY n) = false ∧
          t.get (LGT_LW_STATUS_STATE n) = (if st = 3 then 0 else 2) ∧
          (∃ bits, 0 < bits ∧ (f ≠ [] → bits ≤ 48 * f.length) ∧ t.outbox = s.outbox ++ [.lampCut n f bits]) ∧
          sameRegs [EVR_DROP, LGT_LW_STATUS n] s t))))

/-! ### Management, firmware, events, thermal control and Proof (R535 to R557) -/

/-- Boot, firmware updates and the watchdog (R535, R536, R538, R540, R541): the ROM boots the slot that the rules choose, or none; an
update operation starts while firmware runs and none is in progress, and ends with its result; the key restarts the watchdog's
timer, and its expiry resets the processor alone, and cuts an update short (R607). The ROM and the updates reach the flash by the
commands of R615: a slot's image is written to its address, and each change of a slot's state to the state sector (R536).

It rests also on the model's own choices of log entries 7, 29, 65, 66, 116 and 119. -/
def Obligations.BootUpdateAndWatchdog : Prop :=
  ∀ (s : State) (v : Word),
    let valid (k : Nat) : Prop := s.imageValid (s.slot k).img = true
    let ver (k : Nat) : Nat := hdrN (s.slot k).img 4 4
    let boots (k : Nat) (t : State) : Prop := t.get MGT_FW_STATUS_FSTATE = 1 ∧ t.get MGT_FW_STATUS_SLOT = k ∧
      t.flag MGT_FW_STATUS_TRYING = ((t.slot k).st == .trying) ∧ t.rd MGT_FW_VERSION = BitVec.ofNat 32 (ver k)
    let ended (res : Nat) (t : State) : Prop := t.flag MGT_UPD_CTRL_BUSY = false ∧ t.flag MGT_UPD_CTRL_DONE = true ∧
      t.get MGT_UPD_CTRL_RESULT = res ∧ t.upd = none ∧ recorded s t (if res = 0 then 0x003 else 0x004) 0
    let started (op : Nat) (t : State) : Prop := sameRegs (MGT_UPD_CTRL :: wrRegs) s t ∧ sameBut [.upd] s t ∧
      if s.flag MGT_UPD_CTRL_BUSY then t.upd = s.upd ∧ t.flag MGT_UPD_CTRL_BUSY = true
      else if s.get MGT_FW_STATUS_FSTATE = 1 then t.flag MGT_UPD_CTRL_BUSY = true ∧
        t.upd = some (op, (s.rdN MGT_UPD_ADDR_LO + s.rdN MGT_UPD_ADDR_HI * 2 ^ 32) % 2 ^ 40, s.rdN MGT_UPD_LEN)
      else ended 5 t
    (s.up = true →
      (∃ t, exec (.image v) s = .next t ∧ started 0 t) ∧
      (∃ t, exec (.confirm v) s = .next t ∧ started 1 t) ∧
      (∃ t, exec (.key v) s = .next t ∧ started 2 t) ∧
      (∃ t, exec (.wdtKick v) s = .next t ∧ sameRegs wrRegs s t ∧ sameBut [.wdt] s t ∧
        t.wdt = if v = 0x00006B1C#32 ∧ s.flag MGT_WDT_CFG_EN = true then orOne (s.get MGT_WDT_CFG_MS) else s.wdt)) ∧
    (s.alive = true →
      (∃ t, exec .wdtExpire s = .next t ∧
        if s.flag MGT_WDT_CFG_EN = true ∧ s.wdt ≠ 0 then
          t.get MGT_FW_STATUS_FSTATE = 0 ∧ t.get MGT_FW_STATUS_CAUSE = 2 ∧ t.flag MGT_UPD_CTRL_BUSY = false ∧ t.upd = none ∧
            t.wdt = orOne (s.get MGT_WDT_CFG_MS) ∧ t.rd MGT_WDT_CNT = satInc (s.rd MGT_WDT_CNT) ∧ recorded s t 0x006 0 ∧
            sameRegs [EVR_ALERT_PEND, EVR_DROP, MGT_FW_STATUS, MGT_FW_VERSION, MGT_UPD_CTRL, MGT_WDT_CNT] s t ∧
            sameBut [.upd, .wdt, .fw, .fuses, .keyhash, .outbox] s t ∧
            (s.upd = none → sameBut [.upd, .wdt] s t) ∧
            (∀ op a len, s.upd = some (op, a, len) →
              let k := s.get MGT_FW_STATUS_SLOT
              (op = 0 → t.fuses = s.fuses ∧ t.keyhash = s.keyhash ∧ t.slot k = s.slot k) ∧
              (op = 1 → t.keyhash = s.keyhash ∧ s.fuses ≤ t.fuses ∧ t.fuses ≤ max s.fuses (hdrN (s.slot k).img 8 1)) ∧
              (2 ≤ op → t.fuses = s.fuses ∧ t.fw = s.fw ∧ t.outbox = s.outbox ∧ (s.keyhash ≠ 0 → t.keyhash = s.keyhash)))
        else sameRegs [EVR_DROP] s t ∧ sameBut [] s t) ∧
      (∃ t, exec .bootDone s = .next t ∧
        if s.fabricUp = true ∧ s.get MGT_FW_STATUS_FSTATE = 0 then
          recorded s t 0x000 0 ∧ t.flag MGT_FW_STATUS_OPEN = (s.keyhash == 0) ∧
            sameRegs [EVR_ALERT_PEND, EVR_DROP, MGT_FW_STATUS, MGT_FW_VERSION] s t ∧ sameBut [.fw, .outbox] s t ∧
            (s.bootSel = 1 → t.outbox = s.outbox ++ [.flash (.read (slotAddr 0) slotBytes)]) ∧ (s.bootSel = 2 → t.outbox = s.outbox) ∧
            (s.bootSel = 1 → valid 0 → boots 0 t) ∧
            (s.bootSel = 1 → ¬ valid 0 → t.get MGT_FW_STATUS_FSTATE = 2 ∧ t.flag MGT_FW_STATUS_A_BAD = true ∧ recorded s t 0x001 0) ∧
            (s.bootSel = 2 → t.get MGT_FW_STATUS_FSTATE = 3) ∧
            (s.bootSel ≠ 1 → s.bootSel ≠ 2 →
              let good (k : Nat) (st : SlotSt) : Prop := s.keyhash ≠ 0 ∧ (s.slot k).st = st ∧ valid k
              (∃ l, t.outbox = s.outbox ++ .flash (.read stateSector sectorBytes) :: l) ∧
              (∀ k < 2, (s.slot k).st = .trying → (t.slot k).st = .bad ∧ recorded s t 0x002 0) ∧
              ((s.slot 0).st = .trial → ¬ good 0 .trial → recorded s t 0x002 0) ∧
              ((s.slot 1).st = .trial → (s.slot 0).st ≠ .trial → ¬ good 1 .trial → recorded s t 0x002 0) ∧
              (good 0 .trial → boots 0 t ∧ (t.slot 0).st = .trying) ∧
              (good 1 .trial → ¬ good 0 .trial → boots 1 t ∧ (t.slot 1).st = .trying) ∧
              (¬ good 0 .trial → ¬ good 1 .trial →
                (good 0 .confirmed → ¬ (good 1 .confirmed ∧ ver 0 < ver 1) → boots 0 t) ∧
                (good 1 .confirmed → ¬ (good 0 .confirmed ∧ ver 1 ≤ ver 0) → boots 1 t) ∧
                (¬ good 0 .confirmed → ¬ good 1 .confirmed → t.get MGT_FW_STATUS_FSTATE = 2)))
        else sameRegs [EVR_DROP] s t ∧ sameBut [] s t) ∧
      (∀ (x : Seen) (flashOk : Bool), ∃ t, exec (.updateDone x flashOk) s = .next t ∧
        (s.upd = none → sameRegs [EVR_DROP] s t ∧ sameBut [] s t) ∧
        (∀ a len, s.upd = some (0, a, len) →
          let r := State.unitRead { s with seen := x } true a (min len 459008)
          let k := 1 - s.get MGT_FW_STATUS_SLOT
          let ok : Prop := s.imageValid r.2.2 = true ∧ 256 + hdrN r.2.2 12 4 = len
          (r.2.1 ≠ .ok → ended 2 t ∧ t.fw = s.fw) ∧ (r.2.1 = .ok → ¬ ok → ended 1 t ∧ t.fw = s.fw) ∧
          (r.2.1 = .ok → ok → flashOk = false → ended 3 t ∧ (t.slot k).st = .bad) ∧
          (r.2.1 = .ok → ok → flashOk = true → ended 0 t ∧ t.slot k = { st := .trial, img := r.2.2 } ∧
            t.outbox = r.1.outbox ++ (flashWrite (slotAddr k) r.2.2 ++ [FlashCmd.read (slotAddr k) len] ++
              flashWrite stateSector (Config.slotMarks (t.slot 0).st.num (t.slot 1).st.num)).map Out.flash)) ∧
        (∀ a len, s.upd = some (1, a, len) →
          let k := s.get MGT_FW_STATUS_SLOT
          let n := max s.fuses (hdrN (s.slot k).img 8 1)
          ((s.slot k).st ≠ .trying → ended 4 t ∧ t.fw = s.fw ∧ t.fuses = s.fuses) ∧
          ((s.slot k).st = .trying → t.flag MGT_FW_STATUS_TRYING = false) ∧
          ((s.slot k).st = .trying → flashOk = false → ended 3 t ∧ (t.slot k).st = .bad ∧ t.fuses = s.fuses) ∧
          ((s.slot k).st = .trying → flashOk = true → ended 0 t ∧ (t.slot k).st = .confirmed ∧ t.fuses = n ∧
            (s.fuses < n → recorded s t 0x005 0))) ∧
        (∀ a len, s.upd = some (2, a, len) →
          let r := State.unitRead { s with seen := x } true a 32
          (s.keyhash ≠ 0 → ended 4 t ∧ t.keyhash = s.keyhash) ∧
          (s.keyhash = 0 → r.2.1 ≠ .ok → ended 2 t ∧ t.keyhash = 0) ∧
          (s.keyhash = 0 → r.2.1 = .ok → ended 0 t ∧ t.keyhash = leNat r.2.2 ∧
            t.flag MGT_FW_STATUS_OPEN = (leNat r.2.2 == 0))) ∧
        sameRegs (MGT_UPD_CTRL :: MGT_FW_STATUS :: dramRegs) s t ∧
        sameBut ([.fw, .upd, .fuses, .keyhash] ++ dramParts) s t))

/-- The event recorder (R542 to R547): the recorder takes the oldest entry of its queue, and raises the repeat count of the latest
record where that event's repeats are absorbed, or writes the next record with its snapshots; after the last number the event is
counted as dropped. A read of EVR_D0 copies the selected record. -/
def Obligations.EventRecorder : Prop :=
  ∀ s : State,
    (s.alive = true → s.evNew = [] → ∃ t, exec .eventRecord s = .next t ∧ (s.evq = [] → t.evq = [] ∧ sameRegs [] s t ∧ sameBut [] s t) ∧
      ∀ e rest, s.evq = e :: rest →
        let k := s.rdN EVR_WR
        let last := recPos (k - 1)
        let absorbs (r : EvRec) : Prop := s.record last = some r ∧ k ≠ 0 ∧ evAbsorbs e.id = true ∧ r.id = e.id ∧ r.inst = e.inst ∧
          r.rep < 65535
        t.evq = rest ∧ sameBut [.recs] s t ∧
        (k = 0xFFFFFFFF → t.rd EVR_DROP = satInc (s.rd EVR_DROP) ∧ t.recs = s.recs ∧ sameRegs [EVR_DROP] s t) ∧
        (k ≠ 0xFFFFFFFF →
          (∀ r, absorbs r → t.record last = some { r with rep := r.rep + 1, lastv := e.volley % 2 ^ 32 } ∧
            (∀ p, p ≠ last → t.record p = s.record p) ∧ sameRegs [] s t) ∧
          ((¬ ∃ r, absorbs r) →
            t.record (recPos k) = some { seq := k, id := e.id, inst := e.inst, rep := 0, volley := e.volley,
                                         lastv := e.volley % 2 ^ 32, arg := e.arg, tns := e.tns, loss := s.evLoss,
                                         snaps := State.snapshots { s with evq := rest } e.id } ∧
            t.rd EVR_WR = BitVec.ofNat 32 (k + 1) ∧ (∀ p, p ≠ recPos k → t.record p = s.record p) ∧ t.evLoss = false ∧
            sameRegs [EVR_WR] s t))) ∧
    (s.up = true → ∃ t, exec .evrD0Read s = .next t ∧ (∀ i : Fin 16, t.rd (EVR_D i) = s.recWord i) ∧
      sameRegs ((List.range 16).map EVR_D ++ wrRegs) s t ∧ sameBut [] s t)

/-- Thermal control and the voltage monitors (R549 to R554): at a sample the level rises to the highest whose threshold Tmax
reaches, is CRITICAL with two broken sensors, and falls by one step at most; CRITICAL puts every running beam into safe stop with
cause THERMAL; the throttle gate moves from THROTTLE on; a monitor out of its limits four times in a row latches its bit.

It rests also on the model's own choices of log entries 8 and 67. -/
def Obligations.ThermalAndVoltage : Prop :=
  ∀ s : State,
    let regs := [EVR_ALERT_PEND, EVR_DROP, CPT_TS_BROKEN, CPT_TH_STATUS, CPT_TH_THROT_CNT] ++ (List.range 12).map CPT_TS ++
      (List.range 32).map BIO_SS_CAUSE
    let holds (t : State) : Prop := t.get CPT_TH_STATUS_LEVEL = 3 → ∀ b : Fin 32, s.running b = true → stopAsked b 0xA s t
    (s.alive = true →
      (∀ xs : List Int, ∃ t, exec (.thermalSample xs) s = .next t ∧ sameRegs (CPT_TH_MAX :: regs) s t ∧
        sameBut [.beams, .thBelow] s t ∧ holds t ∧
        (∀ (i : Fin 12) x, xs[i.val]? = some x → s.tsBad i = false →
          (-880 ≤ x → x ≤ 2400 → t.tsBad i = false ∧ t.rd (CPT_TS i) = BitVec.ofNat 32 (low 16 x)) ∧
          (x < -880 ∨ 2400 < x → t.tsBad i = true ∧ recorded s t 0x2C3 i)) ∧
        (∀ i : Fin 12, t.tsRead i ≤ t.tmax) ∧ (∃ i : Fin 12, t.tsRead i = t.tmax) ∧
        (∀ l, 1 ≤ l → l ≤ 3 → s.levelLim l ≤ t.tmax → l ≤ t.get CPT_TH_STATUS_LEVEL) ∧
        (2 ≤ t.tsBadCount → t.get CPT_TH_STATUS_LEVEL = 3) ∧ s.get CPT_TH_STATUS_LEVEL ≤ t.get CPT_TH_STATUS_LEVEL + 1 ∧
        t.flag CPT_TH_STATUS_FAST = (if t.tmax < s.thLim CPT_TH_LIM_WARN - 112 then false
          else if s.thLim CPT_TH_LIM_WARN - 80 ≤ t.tmax then true else s.flag CPT_TH_STATUS_FAST)) ∧
      (∀ i : Fin 12, ∃ t, exec (.tsBroken i) s = .next t ∧
        if s.tsBad i then sameRegs [EVR_DROP] s t ∧ sameBut [] s t
        else t.rd CPT_TS_BROKEN = s.rd CPT_TS_BROKEN ||| (1#32 <<< i.val) ∧ recorded s t 0x2C3 i ∧
          t.rd (CPT_TS i) = BitVec.ofNat 32 (16 * s.get CPT_TH_LIM_THROTTLE) ∧
          (2 ≤ t.tsBadCount → t.get CPT_TH_STATUS_LEVEL = 3) ∧ holds t ∧ sameRegs regs s t ∧ sameBut [.beams, .thBelow] s t) ∧
      (∃ t, exec .throttleGate s = .next t ∧ sameBut [] s t ∧ sameRegs [EVR_DROP, CPT_TH_STATUS] s t ∧
        sameBeside CPT_TH_STATUS [CPT_TH_STATUS_GATE] s t ∧ t.flag CPT_TH_STATUS_GATE =
          (s.flag CPT_TH_STATUS_GATE ^^ decide (2 ≤ s.get CPT_TH_STATUS_LEVEL))) ∧
      (∀ mv : List (BitVec 16), ∃ t, exec (.vmSample mv) s = .next t ∧ sameBut [.vms] s t ∧
        sameRegs ([EVR_ALERT_PEND, EVR_DROP, CPT_VM_STATUS] ++ (List.range 16).map CPT_VM) s t ∧
        ∀ m : Fin 16,
          let r := recGet s.vms m
          let u := recGet t.vms m
          (mv[m.val]? = none → t.rd (CPT_VM m) = s.rd (CPT_VM m) ∧ u = r) ∧
          ∀ x, mv[m.val]? = some x → t.rd (CPT_VM m) = x.setWidth 32 ∧
            u.lo = (if x.toNat < s.get ⟨CPT_VM_LIM m, 0, 16⟩ then min 4 (r.lo + 1) else 0) ∧
            u.hi = (if s.get ⟨CPT_VM_LIM m, 16, 16⟩ < x.toNat then min 4 (r.hi + 1) else 0) ∧
            bitOf (t.rdN CPT_VM_STATUS) m = (bitOf (s.rdN CPT_VM_STATUS) m || u.lo == 4) ∧
            bitOf (t.rdN CPT_VM_STATUS) (16 + m) = (bitOf (s.rdN CPT_VM_STATUS) (16 + m) || u.hi == 4) ∧
            (u.lo = 4 → r.loEv = false → recorded s t 0x2C8 m) ∧ (u.hi = 4 → r.hiEv = false → recorded s t 0x2C9 m))) ∧
    (s.up = true → ∀ (v : Word) (healthy : BitVec 12), ∃ t, exec (.tsBrokenClear v healthy) s = .next t ∧ sameBut [] s t ∧
      sameRegs (CPT_TS_BROKEN :: wrRegs) s t ∧
      ∀ i : Fin 12, t.tsBad i = (s.tsBad i && !(bitOf v.toNat i && bitOf healthy.toNat i)))

/-- Proof (R555 to R558): GO starts the items that the steps and masks select, in order, and skips those whose condition fails; a GO
while Proof runs has no effect; ABORT ends it after the item in progress; at the end DONE is set and reported. DRAMTRAIN trains both
channels at once and goes on when neither trains; GRID writes the nodes that it read, or leaves the grid; HEAD waits 1,000 slots at
each reference, takes the mean of 100 and keeps the largest error; PD_DARK takes the OFFSET whose Volley value lies nearest the
target, the lowest of several, and reports the residual and the deviation; GRATIO takes the first frame without a mark, and reports
its ratio; MOTOFS reports the means of its samples.

It rests also on the model's own choices of log entries 7, 31 and 68. -/
def Obligations.ProofItems : Prop :=
  ∀ (s : State) (v : Word),
    let live (l : List (Nat × Nat)) : List (Nat × Nat) := l.dropWhile fun x => !s.calCond x.1 x.2
    let ended (t : State) : Prop := t.flag CAL_STATUS_BUSY = false ∧ t.get CAL_STATUS_STEP = 0 ∧ t.flag CAL_STATUS_DONE = true ∧
      t.cal = default ∧ recorded s t 0x010 0
    let goesOn (l : List (Nat × Nat)) (t : State) : Prop :=
      (∀ x ∈ l.takeWhile (fun x => !s.calCond x.1 x.2), x.1 < 6 →
        bitOf (t.get CAL_STATUS_ERR) x.1 = true ∧ recorded s t 0x011 0) ∧
      (live l = [] → ended t) ∧
      (∀ step i rest, live l = (step, i) :: rest → t.cal.q = live l ∧ (step < 6 → t.get CAL_STATUS_STEP = step) ∧
        (step = 0 → ∀ x ∈ live l, x.1 = 0 → x.2 < 2 → t.flag (MEM_M_TRAIN_BUSY x.2) = true))
    let regs := CAL_STATUS :: (List.range 32).map CAL_MP_G ++ (List.range 32).map CAL_HEAD_X ++ (List.range 32).map CAL_HEAD_Y ++
      [MEM_M_TRAIN 0, MEM_M_TRAIN 1]
    let busy := s.flag CAL_STATUS_BUSY
    let steps := (List.range 6).filter fun k => bitOf (s.get CAL_STEPS_STEPS) k
    let items := steps.flatMap fun k => (s.calItems k).map fun i => (k, i)
    (s.up = true →
      (∃ t, exec (.proof v) s = .next t ∧ sameRegs (regs ++ wrRegs) s t ∧ sameBut [.cal] s t ∧
        (busy = false → goesOn items t ∧ (live items ≠ [] → t.flag CAL_STATUS_BUSY = true ∧ t.cal.abort = bitOf v.toNat 1)) ∧
        (busy = true → t.cal = { s.cal with abort := s.cal.abort || bitOf v.toNat 1 } ∧ sameRegs wrRegs s t)) ∧
      (bitOf v.toNat 0 = true → exec (.calAbort v) s = exec (.proof (v ||| 2)) s) ∧
      (bitOf v.toNat 0 = false → ∃ t, exec (.calAbort v) s = .next t ∧ sameRegs wrRegs s t ∧ sameBut [.cal] s t ∧
        t.cal = if busy then { s.cal with abort := true } else s.cal)) ∧
    (s.alive = true → ∀ (x : Seen) (vals : List Int), ∃ t, exec (.proofItemDone x vals) s = .next t ∧
      sameRegs (CAL_STATUS :: dramRegs ++ s.cal.q.flatMap fun x => [MEM_M_TRAIN x.2, CAL_HEAD_X x.2, CAL_HEAD_Y x.2,
        BIO_PD_CFG x.2, CAL_PD x.2, CAL_MP_G x.2, MOT_AX_SENSE_OFS x.2]) s t ∧
      sameBut ([.cal, .grids] ++ dramParts) s t ∧
      (s.cal.q = [] → sameRegs [EVR_DROP] s t ∧ sameBut [] s t) ∧
      ∀ step i rest, s.cal.q = (step, i) :: rest → (∀ x ∈ s.cal.q, x.1 < 6 ∧ x.2 < [2, 32, 32, 64, 32, 8].getD x.1 0) →
        let next (l : List (Nat × Nat)) : Prop := if s.cal.abort then ended t else goesOn l t
        let holds := s.calCond step i = true
        let skipped := bitOf (t.get CAL_STATUS_ERR) step = true ∧ recorded s t 0x011 0 ∧ next rest
        (step ≠ 0 → ¬ holds → skipped ∧ t.grids = s.grids) ∧
        (step = 0 → if s.flag (MEM_M_TRAIN_BUSY 0) = true ∨ s.flag (MEM_M_TRAIN_BUSY 1) = true then
            sameRegs [EVR_DROP] s t ∧ sameBut [] s t
          else next (rest.filter fun x => x.1 != 0)) ∧
        (step = 1 → holds →
          let r := State.unitRead { s with seen := x } true
            (s.rdN CAL_GRID_LO / 4096 * 4096 + s.rdN CAL_GRID_HI % 256 * 2 ^ 32 + i * 0x9000) 33800
          (r.2.1 = .ok → ∀ k : Fin 4225, t.node i k = BitVec.ofNat 64 (hdrN r.2.2 (8 * k) 8)) ∧ (r.2.1 ≠ .ok → t.grids = s.grids) ∧
          (∀ b : Fin 32, b.val ≠ i → ∀ k : Fin 4225, t.node b k = s.node b k) ∧ ((∀ y ∈ rest, y.1 ≠ 0) → next rest)) ∧
        (step = 2 → holds → if s.cal.ref = 4 ∧ (s.beam i).codes = s.cal.home then next rest
          else sameRegs [EVR_DROP] s t ∧ sameBut [] s t) ∧
        (step = 3 → holds → next rest ∧
          let tgt : Int := s.rdN CAL_PD_TGT % 2 ^ 16
          let off (o : Nat) : Nat := (vals.getD o 0 - tgt).natAbs
          let samples := vals.drop 1024
          (1024 ≤ vals.length → ∃ o : Nat, o < 1024 ∧ t.get (BIO_PD_CFG_OFFSET i) = low 10 (o - 512) ∧
            (∀ k : Nat, k < 1024 → off o ≤ off k) ∧ ∀ k : Nat, k < o → off o < off k) ∧
          ∃ k, t.rd (CAL_PD i) = BitVec.ofNat 32 (low 16 (calMean k (volleyValues samples) - tgt) +
            low 16 (calRms (k + 1) samples) * 2 ^ 16)) ∧
        (step = 4 → holds → (s.cal.g = none → skipped) ∧
          (∀ a b, s.cal.g = some (a, b) → next rest ∧
            ∃ k, t.rd (CAL_MP_G i) = BitVec.ofNat 32 (calRatio a b k + 2 ^ 16))) ∧
        (step = 5 → holds → next rest ∧ ∃ k, t.rd (MOT_AX_SENSE_OFS i) = BitVec.ofNat 32
          (low 12 (calMean k (vals.take 1024)) + low 12 (calMean (k + 1) (vals.drop 1024)) * 2 ^ 16))) ∧
    (s.alive = true → ∀ (j : Fin 10) (b : Fin 32), s.calHead b = true → (s.beam b).ssPend = 0 →
      let c := s.cal
      let r := s.beam b
      let g := s.calTarget
      let sx := c.sx + s.rdI (BIO_ACT_X b)
      let sy := c.sy + s.rdI (BIO_ACT_Y b)
      let step := orOne (s.get (BIO_PARK_STEP_STEP b))
      ∃ t, exec (.pointSlot j) s = .next t ∧ (t.beam b).gate = false ∧
        (r.codes ≠ g → t.cal = c ∧ (t.beam b).codes =
          ⟨parkStep step r.codes.x g.x, parkStep step r.codes.y g.y, parkStep step r.codes.z g.z⟩) ∧
        (r.codes = g → (t.beam b).codes = g ∧
          (c.ref = 4 → t.cal = c) ∧
          (c.ref ≠ 4 → c.n < 1000 → t.cal = { c with n := c.n + 1 }) ∧
          (c.ref ≠ 4 → 1000 ≤ c.n → c.n < 1099 → t.cal = { c with n := c.n + 1, sx := sx, sy := sy }) ∧
          (c.ref ≠ 4 → 1099 ≤ c.n → t.cal = { c with ref := c.ref + 1, n := 0, sx := 0, sy := 0 } ∧
            ∃ k, t.rd (CAL_HEAD_X b) = BitVec.ofNat 32 (max (calError sx g.x k) (s.rdN (CAL_HEAD_X b))) ∧
              t.rd (CAL_HEAD_Y b) = BitVec.ofNat 32 (max (calError sy g.y (k + 1)) (s.rdN (CAL_HEAD_Y b)))))) ∧
    (s.alive = true → ∀ (c : Fin 32) (f : CamFrame) (rest : List CamFrame), busy = true → s.cal.q.head? = some (4, c.val) →
      s.cal.g = none → (s.ctx c).frames = f :: rest → f.open_ = false → f.wait = 0 → f.norec = false → s.paused c = false →
      ∃ t w, exec (.recordComplete ⟨c.val, by omega⟩) s = .next t ∧ (t.ctx c).rcd = some w ∧
        t.cal = if fldOf 17 8 (w.getD 3 0) = 0 then { s.cal with g := some (s.chanSum c f true, s.chanSum c f false) } else s.cal)

/-! ### Time bases and network time (R497 to R513) -/

/-- Time bases (R497 to R506): EN makes a base READY, clearing it makes the base invalid; a read of NS and a capture hold one
instant; SET loads and ADJ steps a base, unless it is OFF; a sample that replaces a waiting one is counted as lost; the servo applies a sample by a
step, unless a command acts in the same cycle, at the limit of F while an engine runs, or by its PI rule, and then decides the lock; holdover clears it.

It rests also on the model's own choices of log entries 7, 22 and 111. -/
def Obligations.TimeBases : Prop :=
  ∀ (s : State) (n : Fin 4) (v : Word),
    let st := s.get (TIM_TB_STATUS_STATE n)
    let en := s.flag (TIM_TB_CTRL_EN n)
    let r := s.tb n
    let lock := s.flag (TIM_TB_STATUS_LOCK n)
    let frame (regs : List Nat) (t : State) : Prop :=
      (∀ m, m ≠ n → t.tb m = s.tb m) ∧ sameRegs (TIM_TB_STATUS n :: regs) s t ∧ sameBut [.tbs] s t
    let unlocked (t : State) : Prop := t.flag (TIM_TB_STATUS_LOCK n) = false ∧
      (lock = true → t.flag (TIM_TB_STATUS_UNLOCKED n) = true ∧ recorded s t 0x201 n)
    let stepped (t : State) : Prop := unlocked t ∧ t.rd (TIM_TB_STEP_CNT n) = satInc (s.rd (TIM_TB_STEP_CNT n)) ∧
      t.flag (TIM_TB_STATUS_STEPPED n) = true ∧ recorded s t 0x202 n
    let moved (d : Int) : Nat := (((r.t : Int) + d) % (tbWrap : Int)).toNat
    let delivered (th : Int) (t : State) : Prop := t.tb n = { r with meas := some th } ∧
      (r.meas.isSome = true → t.rd (TIM_TB_MEAS_LOST_CNT n) = satInc (s.rd (TIM_TB_MEAS_LOST_CNT n)) ∧ recorded s t 0x204 n) ∧
      (r.meas.isSome = false → t.rd (TIM_TB_MEAS_LOST_CNT n) = s.rd (TIM_TB_MEAS_LOST_CNT n))
    let shows (x : Tb) (lo hi ns frac : Nat) (t : State) : Prop := t.rd lo = BitVec.ofNat 32 x.sec ∧
      t.rd hi = BitVec.ofNat 32 (x.sec / 2 ^ 32) ∧ t.rd ns = BitVec.ofNat 32 x.ns ∧ t.rd frac = BitVec.ofNat 32 x.frac
    (s.up = true →
      (∃ t, exec (.tbEnable n v) s = .next t ∧ t.flag (TIM_TB_CTRL_EN n) = true ∧
        t.get (TIM_TB_STATUS_STATE n) = lifeNext en true st 2 0 ∧ frame (TIM_TB_CTRL n :: wrRegs) t ∧ sameBut [] s t) ∧
      (∃ t, exec (.tbDisable n v) s = .next t ∧ t.flag (TIM_TB_CTRL_EN n) = false ∧
        t.get (TIM_TB_STATUS_STATE n) = lifeNext en false st 2 0 ∧
        (en = true → st = 1 ∨ st = 2 → t.flag (TIM_TB_STATUS_VALID n) = false) ∧ frame (TIM_TB_CTRL n :: wrRegs) t ∧
        sameBut [] s t) ∧
      (∃ t, exec (.tbNsRead n) s = .next t ∧ sameBut [] s t ∧
        shows r (TIM_TB_SEC_LO n) (TIM_TB_SEC_HI n) (TIM_TB_NS n) (TIM_TB_FRAC n) t ∧
        sameRegs ([TIM_TB_SEC_LO n, TIM_TB_SEC_HI n, TIM_TB_NS n, TIM_TB_FRAC n] ++ wrRegs) s t) ∧
      (∃ t, exec (.timCap v) s = .next t ∧ sameBut [] s t ∧
        (∀ m : Fin 4, shows (s.tb m) (TIM_CAP_SEC_LO m) (TIM_CAP_SEC_HI m) (TIM_CAP_NS m) (TIM_CAP_FRAC m) t) ∧
        sameRegs (((List.range 4).flatMap fun m => [TIM_CAP_SEC_LO m, TIM_CAP_SEC_HI m, TIM_CAP_NS m, TIM_CAP_FRAC m]) ++ wrRegs) s t) ∧
      (∃ t, exec (.set n v) s = .next t ∧ frame (TIM_TB_STEP_CNT n :: wrRegs) t ∧
        if 999999999 < s.rdN (TIM_TB_SET_NS n) then
          t.tb n = r ∧ t.flag (TIM_TB_STATUS_CFG_REFUSED n) = true ∧ recorded s t 0x205 n
        else if st ≠ 2 then t.tb n = r ∧ sameRegs wrRegs s t
        else
          t.tb n = { r with
            t := ((s.rdN (TIM_TB_SET_SEC_LO n) + s.rdN (TIM_TB_SET_SEC_HI n) % 65536 * 2 ^ 32) * 10 ^ 9 + s.rdN (TIM_TB_SET_NS n)) *
              tbUnit
            run := 0 } ∧ t.flag (TIM_TB_STATUS_VALID n) = true ∧ stepped t) ∧
      (bitOf v.toNat 0 = true → exec (.adj n v) s = exec (.set n (v ||| 2)) s) ∧
      (bitOf v.toNat 0 = false → ∃ t, exec (.adj n v) s = .next t ∧ frame (TIM_TB_STEP_CNT n :: wrRegs) t ∧
        if st = 2 then t.tb n = { r with t := moved (s.rdI (TIM_TB_ADJ n) * tbUnit), run := 0 } ∧ stepped t
        else t.tb n = r ∧ sameRegs wrRegs s t) ∧
      (∃ t, exec (.measSample n v) s = .next t ∧ frame (TIM_TB_MEAS_LOST_CNT n :: wrRegs) t ∧
        if s.tbSrc n = 1 then delivered (sgn 48 (r.lo.toNat + v.toNat % 65536 * 2 ^ 32)) t else t.tb n = r)) ∧
    (s.alive = true →
      (∀ same : Bool, ∃ t, exec (.servoSample ⟨n, same⟩) s = .next t ∧
        (r.meas = none ∨ st ≠ 2 → sameRegs [EVR_DROP] s t ∧ sameBut [] s t) ∧
        frame [EVR_ALERT_PEND, EVR_DROP, TIM_TB_LAST_OFS_LO n, TIM_TB_LAST_OFS_HI n, TIM_TB_SAMPLE_CNT n, TIM_TB_FREQ n,
          TIM_TB_INTEG n, TIM_TB_STEP_CNT n] t ∧
        ∀ th, r.meas = some th → st = 2 →
          let fmax := s.tbLim (TIM_TB_FMAX n)
          let big := s.rdN (TIM_TB_STEP_THR n) ≠ 0 ∧ s.rdN (TIM_TB_STEP_THR n) * 65536 < th.natAbs
          let slew := n = 0 ∧ s.flag (TIM_TB_CTRL_STEP_RUN n) = false ∧ s.anyRunning = true
          let run := min 255 (r.run + 1)
          let locks (t : State) : Prop := (t.tb n).t = r.t ∧
            if th.natAbs ≤ s.get (TIM_TB_LOCK_THR n) * 4096 then (t.tb n).run = run ∧
              t.flag (TIM_TB_STATUS_LOCK n) = (lock || decide (orOne (s.get (TIM_TB_LOCK_N n)) ≤ run)) ∧
              (lock = false → orOne (s.get (TIM_TB_LOCK_N n)) ≤ run →
                t.flag (TIM_TB_STATUS_VALID n) = true ∧ recorded s t 0x200 n)
            else (t.tb n).run = 0 ∧ unlocked t
          (t.tb n).meas = none ∧ t.flag (TIM_TB_STATUS_HOLDOVER n) = false ∧
          t.rd (TIM_TB_SAMPLE_CNT n) = s.rd (TIM_TB_SAMPLE_CNT n) + 1 ∧
          t.rd (TIM_TB_LAST_OFS_LO n) = BitVec.ofInt 32 th ∧ t.rdN (TIM_TB_LAST_OFS_HI n) = low 48 th / 2 ^ 32 ∧
          (big → slew → locks t ∧ t.rd (TIM_TB_FREQ n) = wordOf (if th < 0 then fmax else -fmax)) ∧
          (big → ¬ slew → same = true → (t.tb n).t = r.t ∧ (t.tb n).run = r.run ∧ t.flag (TIM_TB_STATUS_LOCK n) = lock ∧
            t.rd (TIM_TB_STEP_CNT n) = s.rd (TIM_TB_STEP_CNT n) ∧ t.rd (TIM_TB_FREQ n) = s.rd (TIM_TB_FREQ n) ∧
            t.rd (TIM_TB_INTEG n) = s.rd (TIM_TB_INTEG n)) ∧
          (big → ¬ slew → same = false → (t.tb n).t = moved (-th * ((tbUnit / 2 ^ 16 : Nat) : Int)) ∧ (t.tb n).run = 0 ∧ stepped t ∧
            t.flag (TIM_TB_STATUS_VALID n) = true) ∧
          (¬ big → locks t ∧
            let i := s.rdI (TIM_TB_INTEG n)
            let kp := gain (s.rdN (TIM_TB_KP n)) th
            let i1 := clampI (-s.tbLim (TIM_TB_IMAX n)) (s.tbLim (TIM_TB_IMAX n)) (i + gain (s.rdN (TIM_TB_KI n)) th)
            let wound := fmax < (-(kp + i1)).natAbs ∧ ((s.rdN (TIM_TB_KI n) : Int) * th).sign = -(-(kp + i1)).sign
            (wound → t.rd (TIM_TB_INTEG n) = s.rd (TIM_TB_INTEG n) ∧
              t.rd (TIM_TB_FREQ n) = wordOf (clampI (-fmax) fmax (-(kp + i)))) ∧
            (¬ wound → t.rd (TIM_TB_INTEG n) = wordOf i1 ∧
              t.rd (TIM_TB_FREQ n) = wordOf (clampI (-fmax) fmax (-(kp + i1)))))) ∧
      (∃ t, exec (.baseOffsetCapture n) s = .next t ∧ frame [EVR_ALERT_PEND, EVR_DROP, TIM_TB_MEAS_LOST_CNT n] t ∧
        let d := r.units16 - (s.tb (s.get (TIM_TB_CTRL_SRCTB n))).units16
        if s.tbSrc n = 3 ∧ st = 2 then
          (-(2 ^ 47) ≤ d → d < 2 ^ 47 → delivered d t) ∧ ∃ th, delivered th t
        else t.tb n = r ∧ sameRegs [EVR_DROP] s t) ∧
      (∃ t, exec (.tbHoldover n) s = .next t ∧
        if s.tbSrc n ≠ 0 ∧ st = 2 ∧ s.flag (TIM_TB_STATUS_HOLDOVER n) = false then
          t.flag (TIM_TB_STATUS_HOLDOVER n) = true ∧ recorded s t 0x203 n ∧ t.tb n = { r with run := 0 } ∧ unlocked t ∧
            frame [EVR_ALERT_PEND, EVR_DROP] t
        else sameRegs [EVR_DROP] s t ∧ sameBut [] s t))

/-- PTP and the TIME exchange (R507 to R513): an accepted PTP frame enters the receive queue with its timestamp, or is counted as
dropped; a write of TXCTL gives the port a frame, which departs with its timestamp, padding and FCS, ahead of the command responses
that wait; FEC moves a timestamp only where it is on; POP removes the oldest entry; a device asks its upstream neighbour for the time
every PERIOD Volleys and answers others, each at the price of a credit, and takes the offset and the delay from the
answer.

It rests also on the model's own choices of log entries 7, 23, 61, 63 and 118. -/
def Obligations.NetworkTime : Prop :=
  ∀ (s : State) (e : Fin 2) (v : Word),
    let x := s.net e
    let nothing (t : State) : Prop := sameRegs [EVR_DROP] s t ∧ sameBut [] s t
    let txRegs := [NET_TXTS_TAG e, NET_TXTS_SEC_LO e, NET_TXTS_SEC_HI e, NET_TXTS_NS e, NET_TXTS_FRAC e]
    let frame (regs : List Nat) (parts : List Part) (t : State) : Prop :=
      (∀ m, m ≠ e → t.net m = s.net m) ∧ sameRegs (regs ++ wrRegs) s t ∧ sameBut (.nets :: parts) s t
    let ptp := s.get (NET_PTP_STATUS_STATE e) = 2
    (s.alive = true →
      (∀ frm fec, ∃ t, exec (.ptpFrame e frm fec) s = .next t ∧
        frame [NET_RX_FRAMES e, NET_RX_DROP e, NET_RXQ_DROP e, NET_RXQ_COUNT e, NET_PTP_STATUS e] [.outbox] t ∧
        t.outbox = s.outbox ++ (if s.far e then [.farFrame e frm] else []) ∧
        let own := s.ear e = .own ∧ frm ∈ x.echo
        if s.get (NET_STATUS_STATE e) = 2 ∧ (own ∨ s.ear e = .peer) then
          let y : Net := if own then { x with echo := x.echo.erase frm } else x
          let taken := ptp ∧ ∃ fr, s.ethAccept e frm = some fr ∧ s.isPtp e fr = true
          t.rd (NET_RX_FRAMES e) = s.rd (NET_RX_FRAMES e) + 1 ∧
          (¬ taken → t.rd (NET_RX_DROP e) = satInc (s.rd (NET_RX_DROP e)) ∧ t.net e = y) ∧
          (taken → 256 < frm.length ∨ 32 ≤ x.rxq.length → t.rd (NET_RXQ_DROP e) = satInc (s.rd (NET_RXQ_DROP e)) ∧
            t.flag (NET_PTP_STATUS_RXQ_DROP_F e) = true ∧ recorded s t 0x209 e ∧ t.net e = y) ∧
          (taken → frm.length ≤ 256 → x.rxq.length < 32 →
            let n := s.get (NET_PTP_CTRL_TB e)
            t.net e = { y with rxq := x.rxq ++
              [{ tag := 0, tb := n, t := s.stamp n (-(s.rdI (NET_PTP_RXLAT e)) - s.fecDelay e fec), bytes := frm }] } ∧
            t.rd (NET_RXQ_COUNT e) = BitVec.ofNat 32 (x.rxq.length + 1))
        else sameRegs [EVR_DROP] s t ∧ sameBut [.outbox] s t) ∧
      (∀ fec, ∃ t, exec (.ptpDeparture e fec) s = .next t ∧ (x.tx = none → nothing t) ∧
        ∀ p, x.tx = some p →
          let tb := s.get (NET_PTP_CTRL_TB e)
          let ts := s.stamp tb (s.rdI (NET_PTP_TXLAT e) + s.fecDelay e fec)
          let stamp : PtpStamp := { tag := p.tag, tb := tb, t := ts, bytes := [] }
          let first := (x.txts ++ [stamp]).headD stamp
          let bytes := padded (if bitOf p.ctl.toNat 10 then oneStep p.ctl ts p.bytes else p.bytes)
          t.outbox = s.outbox ++ (if s.speaks e then .ptp e (bytes ++ fcs bytes) :: x.resp else []) ∧ (t.net e).resp = [] ∧
          (t.net e).echo = (if s.ear e = .own then x.echo ++ [bytes] else []) ∧
          t.rd (NET_TX_FRAMES e) = s.rd (NET_TX_FRAMES e) + BitVec.ofNat 32 (1 + x.resp.length) ∧ (t.net e).tx = none ∧ (t.net e).rxq = x.rxq ∧
          (bitOf p.ctl.toNat 9 = false → (t.net e).txts = x.txts) ∧
          (bitOf p.ctl.toNat 9 = true → 16 ≤ x.txts.length → (t.net e).txts = x.txts ∧ recorded s t 0x208 e ∧
            t.rd (NET_TXTS_DROP e) = satInc (s.rd (NET_TXTS_DROP e)) ∧ t.flag (NET_PTP_STATUS_TXTS_OVF e) = true) ∧
          (bitOf p.ctl.toNat 9 = true → x.txts.length < 16 →
            (t.net e).txts = x.txts ++ [stamp] ∧
            t.rd (NET_TXTS_TAG e) = BitVec.ofNat 32 (first.tag + 2 ^ 31 + (x.txts.length + 1) * 2 ^ 24) ∧
            t.rd (NET_TXTS_NS e) = BitVec.ofNat 32 (stampNs first.t)) ∧
          frame ([NET_TX_FRAMES e, NET_TXTS_DROP e, NET_PTP_STATUS e] ++ txRegs) [.outbox] t) ∧
      (∃ t, exec .timeExchange s = .next t ∧
        let l := s.lnk 0
        let now := (s.tb 0).units16
        if s.get (LNK_STATUS_LSTATE 0) = 5 ∧ s.exch = none ∧ .req ∉ l.txt ∧ max 1 (s.rdN TIM_LINK_CFG % 256) ≤ s.linkVols then
          t.linkVols = 0 ∧
          (l.txt = [] → l.crT = 0 → (t.lnk 0).txt = [.req] ∧ t.exch = none) ∧
          (l.txt = [] → l.crT ≠ 0 → (t.lnk 0).txt = [] ∧ (t.lnk 0).crT = l.crT - 1 ∧ t.exch = some now ∧
            (l.txq = [] → t.outbox = s.outbox ++ (if (s.lnkLanes 0).all s.speaks then [.lnkTimeReq 0 now] else []) ∧
              t.rd (LNK_TX_PKT_CNT 0) = s.rd (LNK_TX_PKT_CNT 0) + 1)) ∧
          sameRegs sendRegs s t ∧ sameBut (.linkVols :: sendParts) s t
        else nothing t) ∧
      (∀ (p : Fin 4) (ok rsp : Bool) (t2 t3 : Int), ∃ t, exec (.time p ok rsp t2 t3) s = .next t ∧
        let l := s.lnk p
        let now := (s.tb 0).units16
        let out (o : List Out) : List Out := if (s.lnkLanes p).all s.speaks then o else []
        (s.lnkHears p = false → t.outbox = s.outbox ++ (if (s.lnkLanes p).all s.far then
            [if rsp then .lnkTimeRsp p t2 t3 else .lnkTimeReq p t2] else []) ∧ sameRegs [EVR_DROP] s t ∧ sameBut [.outbox] s t) ∧
        (s.lnkHears p = true → ok = false → t.rd (LNK_CRC_ERR_CNT p) = satInc (s.rd (LNK_CRC_ERR_CNT p)) ∧ recorded s t 0x1CC p ∧
          t.outbox = s.outbox ++ out [.lnkCredit p 1 0] ∧
          sameRegs [EVR_ALERT_PEND, EVR_DROP, LNK_CRC_ERR_CNT p] s t ∧ sameBut [.outbox] s t) ∧
        (s.lnkHears p = true → ok = true → t.rd (LNK_RX_PKT_CNT p) = s.rd (LNK_RX_PKT_CNT p) + 1) ∧
        (s.lnkHears p = true → ok = true → rsp = false →
          (l.txt = [] → l.crT = 0 → (t.lnk p).txt = [.rsp now]) ∧
          (l.txt = [] → l.crT ≠ 0 → (t.lnk p).txt = [] ∧ (t.lnk p).crT = l.crT - 1 ∧
            (l.txq = [] → t.outbox = s.outbox ++ out [.lnkCredit p 1 0, .lnkTimeRsp p now now] ∧
              t.rd (LNK_TX_PKT_CNT p) = s.rd (LNK_TX_PKT_CNT p) + 1)) ∧
          sameRegs (LNK_RX_PKT_CNT p :: sendRegs) s t ∧ sameBut sendParts s t) ∧
        (s.lnkHears p = true → ok = true → rsp = true → t.outbox = s.outbox ++ out [.lnkCredit p 1 0] ∧
          sameRegs [EVR_ALERT_PEND, EVR_DROP, LNK_RX_PKT_CNT p, TIM_LINK_BAD_CNT, TIM_LINK_DELAY, TIM_TB_MEAS_LOST_CNT 0] s t ∧
          sameBut [.exch, .tbs, .outbox] s t ∧ (p ≠ 0 ∨ s.exch = none → t.exch = s.exch ∧ t.tbs = s.tbs) ∧
          ∀ t1, p = 0 → s.exch = some t1 → t.exch = none ∧ ∃ up,
            let d := halfOf up ((now - t3) + (t2 - t1))
            (d < 0 → t.rd TIM_LINK_BAD_CNT = satInc (s.rd TIM_LINK_BAD_CNT) ∧ recorded s t 0x206 0 ∧ t.tbs = s.tbs) ∧
            (0 ≤ d → t.rd TIM_LINK_DELAY = wordOf d ∧
              t.tb 0 = if s.tbSrc 0 = 2 then
                { s.tb 0 with meas := some (sgn 48 (low 48 (halfOf up ((now - t3) - (t2 - t1)) + s.rdI TIM_LINK_ASYM))) }
              else s.tb 0))) ∧
      (∃ t, exec .linkTimeBad s = .next t ∧ (s.exch = none → nothing t) ∧
        (s.exch ≠ none → t.exch = none ∧ t.rd TIM_LINK_BAD_CNT = satInc (s.rd TIM_LINK_BAD_CNT) ∧ recorded s t 0x206 0 ∧
          sameRegs [EVR_ALERT_PEND, EVR_DROP, TIM_LINK_BAD_CNT] s t ∧ sameBut [.exch] s t))) ∧
    (s.up = true →
      (∃ t, exec (.ptpSend e v) s = .next t ∧
        let n := s.get (NET_PTP_CTRL_TB e)
        let len := v.toNat % 512
        frame [TIM_TB_STATUS n] [] t ∧ (t.net e).txts = x.txts ∧ (t.net e).rxq = x.rxq ∧
        (¬ ptp → (t.net e).tx = x.tx) ∧
        (ptp → x.tx ≠ none → (t.net e).tx = x.tx ∧ t.flag (TIM_TB_STATUS_CFG_REFUSED n) = true ∧ recorded s t 0x205 n) ∧
        (ptp → x.tx = none → 14 ≤ len → len ≤ 256 → ∃ p, (t.net e).tx = some p ∧ p.ctl = v ∧
          p.tag = s.rdN (NET_PTP_TXTAG e) % 65536 ∧
          p.bytes = (((List.range 64).map fun i => leBytes 4 (s.rdN (NET_PTP_TXBUF e i))).flatten).take len) ∧
        (ptp → x.tx = none → len < 14 ∨ 256 < len → (t.net e).tx = none)) ∧
      (∃ t, exec (.txtsPop e v) s = .next t ∧ frame txRegs [] t ∧
        if bitOf v.toNat 0 then t.net e = { x with txts := x.txts.tail } ∧
          (x.txts.tail = [] → t.rd (NET_TXTS_TAG e) = 0) ∧
          (∀ y l, x.txts.tail = y :: l → t.rd (NET_TXTS_TAG e) = BitVec.ofNat 32 (y.tag + 2 ^ 31 + (l.length + 1) * 2 ^ 24) ∧
            t.rd (NET_TXTS_SEC_LO e) = BitVec.ofNat 32 (stampSec y.t) ∧ t.rd (NET_TXTS_NS e) = BitVec.ofNat 32 (stampNs y.t) ∧
            t.rd (NET_TXTS_FRAC e) = BitVec.ofNat 32 (stampFrac y.t))
        else t.net e = x ∧ sameRegs wrRegs s t) ∧
      (∃ t, exec (.rxqPop e v) s = .next t ∧ frame [NET_RXQ_COUNT e] [] t ∧
        if bitOf v.toNat 0 then t.net e = { x with rxq := x.rxq.tail } ∧
          t.rd (NET_RXQ_COUNT e) = BitVec.ofNat 32 x.rxq.tail.length
        else t.net e = x ∧ sameRegs wrRegs s t))

/-! ### DMA and the codecs (R423 to R452, R586) -/

/-- DMA channels (R423 to R439): EN makes a channel READY, clearing it aborts; a ring starts the chain, marks it pending or has a
parked descriptor read again; a fetched descriptor is checked and started; a burst is issued from the channel that R435 chooses,
read and written, each failure being counted, and repeated with what was read ahead given up, or halting the channel; a descriptor that completes is followed.

It rests also on the model's own choices of log entries 7, 56 and 57. -/
def Obligations.DmaChannels : Prop :=
  ∀ (s : State) (c : Fin 32) (v : Word) (m : Seen),
    let r := s.dma c
    let life := s.get (DMA_CH_STATUS_STATE c)
    let cs := s.get (DMA_CH_STATUS_CSTATE c)
    let en := s.flag (DMA_CH_CTRL_EN c)
    let nothing (t : State) : Prop := sameRegs [EVR_DROP] s t ∧ sameBut [] s t
    let others (t : State) : Prop := ∀ k, k ≠ c.val → t.dma k = s.dma k
    let cregs := [DMA_CH_STATUS c, DMA_CH_CUR_LO c, DMA_CH_CUR_HI c, DMA_CH_REMAIN c, DMA_CH_OCNT c, DMA_CH_DPTR_LO c,
      DMA_CH_DPTR_HI c, DMA_CH_ERR_CNT c, DMA_CH_DONE_CNT c, DMA_RUNNING, DMA_HALTED, DMA_SLOTS]
    let xregs := (List.range 16).flatMap fun n => [CMP_STATUS n, CMP_SEQ n, CMP_SCRC n, CMP_IN_CNT n, CMP_OUT_CNT n, CMP_BLK_CNT n,
      CMP_ERR_CNT n, CMP_IDX_WR n]
    let aborted (t : State) : Prop := t.dma c = default ∧ t.get (DMA_CH_STATUS_CSTATE c) = 0 ∧
      t.flag (DMA_CH_STATUS_DOOR_PEND c) = false ∧ others t ∧
      (∀ n : Fin 16, s.owns c n = true → t.codec n = default ∧ t.flag (CMP_STATUS_OWNED n) = false ∧ t.get (CMP_STATUS_SSTATE n) = 0) ∧
      (∀ n : Fin 16, s.owns c n = false → t.codec n = s.codec n ∧ t.rd (CMP_STATUS n) = s.rd (CMP_STATUS n)) ∧
      (r.bursts.filter Burst.wr = [] → sameBut [.dmas, .codecs] s t)
    let halted (cause : Nat) (t : State) : Prop := t.get (DMA_CH_STATUS_CSTATE c) = 3 ∧ t.get (DMA_CH_STATUS_CAUSE c) = cause ∧
      t.flag (DMA_CH_STATUS_HALT c) = true ∧ recorded s t 0x182 c ∧ (t.dma c).bursts = [] ∧ (t.dma c).fetch = 0
    let failed (cause : Nat) (b : Option Burst) (t : State) : Prop :=
      t.rd (DMA_CH_ERR_CNT c) = satInc (s.rd (DMA_CH_ERR_CNT c)) ∧ recorded s t 0x181 c ∧
      if s.get (DMA_CH_CTRL_RETRY c) ≤ r.fails then halted cause t
      else (t.dma c).gap = true ∧ (t.dma c).fails = r.fails + 1 ∧ (t.dma c).failed = b ∧ (t.dma c).bursts = [] ∧
        (t.dma c).k = match b with
          | some x => x.k + x.len
          | none => (r.bursts.head?.map Burst.k).getD r.k
    let follows (link : Nat) (t : State) : Prop :=
      if link % 32 ≠ 0 then halted 4 t
      else t.get (DMA_CH_STATUS_CSTATE c) = 1 ∧ t.rdN (DMA_CH_CUR_LO c) = link % 2 ^ 32 ∧ (t.dma c).fetch = 1 ∧ (t.dma c).desc = none
    let free (n : Nat) : Prop := s.get (CMP_STATUS_STATE n) = 2 ∧ (s.flag (CMP_STATUS_OWNED n) = false ∨ s.owns c n = true)
    (s.up = true →
      (∃ t, exec (.dmaEnable c v) s = .next t ∧ t.flag (DMA_CH_CTRL_EN c) = true ∧ sameBut [] s t ∧
        t.get (DMA_CH_STATUS_STATE c) = lifeNext en true life 2 0 ∧
        (en = false → life = 0 → t.get (DMA_CH_STATUS_CAUSE c) = 0) ∧
        sameRegs ([DMA_CH_CTRL c, DMA_CH_STATUS c] ++ wrRegs) s t) ∧
      (∃ t, exec (.dmaDisable c v) s = .next t ∧ t.flag (DMA_CH_CTRL_EN c) = false ∧
        t.get (DMA_CH_STATUS_STATE c) = lifeNext en false life 2 0 ∧
        (if en = true ∧ (life = 1 ∨ life = 2) then aborted t else sameBut [] s t) ∧
        sameRegs (DMA_CH_CTRL c :: cregs ++ xregs ++ dramRegs ++ wrRegs) s t) ∧
      (∃ t, exec (.abort c v) s = .next t ∧ aborted t ∧ sameRegs (cregs ++ xregs ++ dramRegs ++ wrRegs) s t) ∧
      (∃ t, exec (.doorbell c v) s = .next t ∧ others t ∧ sameBut [.dmas] s t ∧ sameRegs (cregs ++ wrRegs) s t ∧
        (life ≠ 2 ∨ cs = 3 → t.dma c = r ∧ sameRegs wrRegs s t) ∧
        (life = 2 → cs = 0 → t.rd (DMA_CH_CUR_LO c) = s.rd (DMA_CH_HEAD_LO c) ∧
          t.rdN (DMA_CH_CUR_HI c) = s.rdN (DMA_CH_HEAD_HI c) % 256 ∧ t.get (DMA_CH_STATUS_CSTATE c) = 1 ∧
          bitOf (t.rdN DMA_RUNNING) c = true ∧ t.dma c = { r with fetch := 1, desc := none }) ∧
        (life = 2 → cs = 1 → t.flag (DMA_CH_STATUS_DOOR_PEND c) = true ∧ t.dma c = r) ∧
        (life = 2 → cs = 2 → t.dma c = (if r.fetch = 0 then { r with fetch := 2 } else r) ∧ sameRegs wrRegs s t))) ∧
    (s.alive = true →
      (∃ t, exec (.descFetchDone c m) s = .next t ∧ others t ∧ sameBut (.dmas :: dramParts) s t ∧
        sameRegs (cregs ++ xregs ++ dramRegs) s t ∧
        if r.fetch ≠ 0 ∧ r.gap = false then
          let a := s.rdN (DMA_CH_CUR_LO c) + s.rdN (DMA_CH_CUR_HI c) * 2 ^ 32
          let y := State.unitRead { s with seen := m } true a 32
          let d : BitVec 256 := BitVec.ofNat 256 (leNat y.2.2)
          (y.2.1 ≠ .ok → failed 1 none t) ∧
          (y.2.1 = .ok → r.fetch = 1 → (t.dma c).desc = some d ∧ t.rd (DMA_CH_REMAIN c) = BitVec.ofNat 32 (dLen d) ∧
            (descBad d = true → halted 4 t) ∧
            (descBad d = false → dCodecN d = none → t.dma c =
                { r with fetch := 0, desc := some d, k := 0, bursts := [], fails := 0, out := 0, pages := [], ended := false } ∧
              t.get (DMA_CH_STATUS_CSTATE c) = cs) ∧
            (∀ n, descBad d = false → dCodecN d = some n →
              (free n → t.flag (CMP_STATUS_OWNED n) = true ∧ t.get (CMP_STATUS_OWNER n) = c) ∧ (¬ free n → halted 6 t))) ∧
          (y.2.1 = .ok → r.fetch ≠ 1 → if dEnd d then t.get (DMA_CH_STATUS_CSTATE c) = 2 ∧ (t.dma c).fetch = 0 else follows (dLink d) t)
        else nothing t) ∧
      (∃ t, exec .burstIssue s = .next t ∧ sameRegs (DMA_SLOTS :: wrRegs) s t ∧ sameBut [.dmas, .dmaPtr] s t ∧
        (64 ≤ s.bursts ∨ s.throttled = true ∨ s.burstChoice = none → nothing t) ∧
        ∀ k d, s.bursts < 64 → s.throttled = false → s.burstChoice = some k → (s.dma k).desc = some d →
          let q := s.dma k
          let n := s.burstLen k d
          t.dma k = { q with k := q.k + n, bursts := q.bursts ++ [{ k := q.k, len := n, data := [], wr := false }] } ∧
          (∀ j, j ≠ k → t.dma j = s.dma j) ∧ tabGet (fun _ => 31) t.dmaPtr (s.get (DMA_CH_CTRL_PRI k)) = k) ∧
      (∃ t, exec (.burstComplete c m) s = .next t ∧ others t ∧ sameBut ([.dmas, .codecs, .lmem] ++ dramParts) s t ∧
        sameRegs (cregs ++ xregs ++ dramRegs ++ wrRegs) s t ∧ (r.desc = none ∨ r.bursts = [] → nothing t) ∧
        ∀ d b rest, r.desc = some d → r.bursts = b :: rest →
          let x := State.dmaPut { s with seen := m } c d b.data
          let y := State.dmaTake { s with seen := m } d b.k b.len
          (b.wr = true → x.2 ≠ .ok → failed 3 (some b) t) ∧
          (b.wr = true → x.2 = .ok → (t.dma c).bursts = rest ∧ (t.dma c).fails = 0 ∧ (t.dma c).out = r.out + b.data.length ∧
            t.rd (DMA_CH_OCNT c) = BitVec.ofNat 32 (r.out + b.data.length) ∧ t.dram = x.1.dram ∧ t.lmem = x.1.lmem) ∧
          (b.wr = false → y.2.1 ≠ .ok → failed 2 (some b) t) ∧
          (b.wr = false → y.2.1 = .ok → t.rd (DMA_CH_REMAIN c) = s.rd (DMA_CH_REMAIN c) - BitVec.ofNat 32 b.len) ∧
          (b.wr = false → y.2.1 = .ok → dCodecN d = none →
            t.dma c = { r with bursts := { b with data := y.2.2, wr := true } :: rest, fails := 0 }) ∧
          (∀ n, b.wr = false → y.2.1 = .ok → dCodecN d = some n →
            (¬ free n → halted 6 t) ∧
            (free n → t.rd (CMP_IN_CNT n) = s.rd (CMP_IN_CNT n) + BitVec.ofNat 32 b.len ∧
              (n < 12 → t.codec n = { s.codec n with inb := (s.codec n).inb ++ y.2.2 } ∧
                t.dma c = { r with bursts := rest, fails := 0 })))) ∧
      (∃ t, exec (.accessRetry c) s = .next t ∧ others t ∧ sameRegs [EVR_DROP, DMA_SLOTS] s t ∧ sameBut [.dmas] s t ∧
        t.dma c = match r.gap, r.failed with
          | false, _ => r
          | true, none => { r with gap := false }
          | true, some b => if s.bursts < 64 then { r with gap := false, failed := none, bursts := [b] } else r) ∧
      (∃ t, exec (.descComplete c) s = .next t ∧ (r.desc = none → nothing t) ∧
        ∀ d, r.desc = some d →
          let done := cs = 1 ∧ s.allRead c d = true ∧ s.codecDone c d = true
          let p := dPool d
          let base := (s.rdN (ARB_POOL_BASE_LO p) + s.rdN (ARB_POOL_BASE_HI p) * 2 ^ 32) % 2 ^ 40
          let n := min 8191 ((dDst d + r.out - base) / 32)
          (¬ done → nothing t) ∧ (done → s.blockOpen d = true → halted 4 t) ∧
          (done → s.blockOpen d = false → (∀ k ∈ r.pages, 0xC00 ≤ k ∧ k < 0x1400) →
            t.rd (DMA_CH_DONE_CNT c) = s.rd (DMA_CH_DONE_CNT c) + 1 ∧ others t ∧ (dEvt d = true → recorded s t 0x180 c) ∧
            (dPage d = true → ∀ k ∈ r.pages, t.present ((k - 0xC00) / 64) (k % 64 * 1024) = true) ∧
            (dLoaded d = true → base ≤ dDst d + r.out → t.get (ARB_POOL_LOADED_LOADED p) =
              if s.get (ARB_POOL_STATUS_STATE p) = 0 then min n (s.get (ARB_POOL_SIZE_SIZE p))
              else if n < s.get (ARB_POOL_LOADED_LOADED p) then s.get (ARB_POOL_LOADED_LOADED p) else min n (s.pool p).size) ∧
            (dEnd d = false → follows (dLink d) t) ∧
            (dEnd d = true → t.get (DMA_CH_STATUS_CSTATE c) = 2 ∧ (t.dma c).desc = none ∧
              t.flag (DMA_CH_STATUS_DOOR_PEND c) = false ∧
              (t.dma c).fetch = if s.flag (DMA_CH_STATUS_DOOR_PEND c) then 2 else r.fetch) ∧
            (dPage d = false → sameRegs (ARB_POOL_LOADED p :: EVR_ALERT_PEND :: EVR_DROP :: cregs) s t ∧ sameBut [.dmas] s t))))

/-- Codecs (R440, R445 to R450, R454, R586): EN makes a codec READY; clearing it, which halts a channel that runs a descriptor of it, a reset while the owner does not run, and a
halt of the owner that lasts drop the stream and the ownership; a decompressor works through its input to the end of one block,
a compressor ends a full block, or the last of a descriptor that says so; the output is written first, and at OLIM the channel
halts; a stream error halts the channel.

It rests also on the model's own choices of log entries 7, 57 and 58. -/
def Obligations.Codecs : Prop :=
  ∀ (s : State) (n : Fin 16) (v : Word) (m : Seen),
    let x := s.codec n
    let life := s.get (CMP_STATUS_STATE n)
    let en := s.flag (CMP_CTRL_EN n)
    let old := s.get (CMP_CTRL_MAXW n)
    let new := clampN 9 14 (fldOf 8 4 v)
    let nothing (t : State) : Prop := sameRegs [EVR_DROP] s t ∧ sameBut [] s t
    let frame (regs : List Nat) (t : State) : Prop :=
      (∀ k, k ≠ n.val → t.codec k = s.codec k) ∧ sameRegs (CMP_STATUS n :: regs) s t ∧ sameBut [.codecs] s t
    let refused (t : State) : Prop := t.flag (CMP_STATUS_CFG_REFUSED n) = true ∧ recorded s t 0x189 n
    let dropped (t : State) : Prop := t.codec n = default ∧ t.flag (CMP_STATUS_OWNED n) = false ∧ t.get (CMP_STATUS_SSTATE n) = 0
    let width (t : State) : Prop :=
      if s.ownerRuns n then t.get (CMP_CTRL_MAXW n) = old ∧ (new ≠ old → refused t) else t.get (CMP_CTRL_MAXW n) = new
    (s.up = true →
      (∃ t, exec (.codecEnable n v) s = .next t ∧ t.flag (CMP_CTRL_EN n) = true ∧
        t.get (CMP_STATUS_STATE n) = lifeNext en true life 2 0 ∧ width t ∧ t.codec n = x ∧ frame (CMP_CTRL n :: wrRegs) t) ∧
      (∃ t, exec (.codecDisable n v) s = .next t ∧ t.flag (CMP_CTRL_EN n) = false ∧
        t.get (CMP_STATUS_STATE n) = lifeNext en false life 2 0 ∧ width t ∧
        (if en = true ∧ (life = 1 ∨ life = 2) then dropped t else t.codec n = x) ∧
        let c := s.get (CMP_STATUS_OWNER n)
        if en = true ∧ (life = 1 ∨ life = 2) ∧ s.ownerRuns n = true ∧ (s.dma c).desc.any (fun d => dCodecN d == some n.val) = true then
          t.get (DMA_CH_STATUS_CSTATE c) = 3 ∧ t.get (DMA_CH_STATUS_CAUSE c) = 6 ∧ recorded s t 0x182 c ∧
            (∀ k, k ≠ n.val → t.codec k = s.codec k) ∧ (∀ k, k ≠ c → t.dma k = s.dma k) ∧
            sameRegs ([CMP_STATUS n, CMP_CTRL n, DMA_CH_STATUS c, DMA_RUNNING, DMA_HALTED, DMA_SLOTS] ++ wrRegs) s t ∧
            sameBut [.codecs, .dmas] s t
        else frame (CMP_CTRL n :: wrRegs) t) ∧
      (∃ t, exec (.codecReset n v) s = .next t ∧ frame wrRegs t ∧
        if s.ownerRuns n then t.codec n = x ∧ refused t else dropped t)) ∧
    (s.alive = true →
      (∃ t, exec (.codecRevoked n) s = .next t ∧
        if s.flag (CMP_STATUS_OWNED n) = true ∧ s.get (DMA_CH_STATUS_CSTATE (s.get (CMP_STATUS_OWNER n))) = 3 then
          dropped t ∧ recorded s t 0x18A n ∧ frame [EVR_ALERT_PEND, EVR_DROP] t
        else nothing t) ∧
      (∃ t, exec (.decompressBlock n m) s = .next t ∧ (s.feeder n = none ∨ 12 ≤ n.val → nothing t) ∧
        ∀ c d, s.feeder n = some (c, d) → n.val < 12 → x.outq = [] →
          let y := Codec.decRun (cmpIndep n) { x with inb := [] } x.inb
          (t.codec n).inb = y.2 ∧
          t.rd (CMP_BLK_CNT n) = (if x.inb ≠ [] ∧ y.1.open_ = false ∧ y.1.part = [] ∧ y.1.err = 0 then s.rd (CMP_BLK_CNT n) + 1
            else s.rd (CMP_BLK_CNT n)) ∧
          (y.1.outq = [] → y.1.err ≠ 0 → t.get (CMP_STATUS_SSTATE n) = 2 ∧ t.get (CMP_STATUS_SERR n) = y.1.err % 16 ∧
            t.flag (CMP_STATUS_ERR n) = true ∧ t.rd (CMP_ERR_CNT n) = satInc (s.rd (CMP_ERR_CNT n)) ∧ recorded s t 0x188 n ∧
            t.get (DMA_CH_STATUS_CSTATE c) = 3 ∧ t.get (DMA_CH_STATUS_CAUSE c) = 7 ∧ recorded s t 0x182 c)) ∧
      (∃ t, exec (.compressBlockEnd n m) s = .next t ∧ (s.feeder n = none ∨ n.val < 12 → nothing t) ∧
        ∀ c d, s.feeder n = some (c, d) → 12 ≤ n.val → x.outq = [] → x.idxQ = [] → x.open_ = true →
          let full := x.olen = 65536 ∧ x.inb ≠ []
          let last := s.allRead c d = true ∧ x.inb = [] ∧ (dFlush d = true ∨ dEos d = true) ∧ (s.dma c).ended = false
          (¬ full → ¬ last → nothing t) ∧
          (full ∨ last → t.rd (CMP_BLK_CNT n) = s.rd (CMP_BLK_CNT n) + 1 ∧ ((t.dma c).ended = true ↔ (s.dma c).ended = true ∨ last))) ∧
      (∀ cmd, cmd = .decompressBlock n m ∧ n.val < 12 ∨ cmd = .compressBlockEnd n m ∧ 12 ≤ n.val →
        ∀ c d, s.feeder n = some (c, d) → x.outq ≠ [] →
          let lim := if dOlim d = 0 then x.outq.length else dOlim d - (s.dma c).out
          let y := State.dmaPut { s with seen := m } c d (x.outq.take lim)
          ∃ t, exec cmd s = .next t ∧
            (lim = 0 ∨ (y.2 = .ok ∧ lim < x.outq.length) → (t.codec n).outq = x.outq.drop lim ∧
              t.get (DMA_CH_STATUS_CSTATE c) = 3 ∧ t.get (DMA_CH_STATUS_CAUSE c) = 5 ∧ recorded s t 0x182 c) ∧
            (lim ≠ 0 → y.2 ≠ .ok → t.codec n = x ∧ t.rd (DMA_CH_ERR_CNT c) = satInc (s.rd (DMA_CH_ERR_CNT c)) ∧ recorded s t 0x181 c) ∧
            (lim ≠ 0 → y.2 = .ok → x.outq.length ≤ lim → (t.codec n).outq = [] ∧
              t.rd (CMP_OUT_CNT n) = s.rd (CMP_OUT_CNT n) + BitVec.ofNat 32 x.outq.length)))

/-! ### DRAM (R390 to R419) -/

/-- The DRAM channels (R390, R404, R410 to R416): EN starts a channel, or fails with a reported FAULT; training makes it READY with
every eighth LOST; clearing EN stops it; the key ends a freeze; the fill, self-refresh and training start and end, refused where
the rules forbid them; the temperature, the margin and the guard are followed; a refresh changes nothing that software sees.

It rests also on the model's own choices of log entries 7, 17, 36, 42, 44, 45 and 121. -/
def Obligations.MemoryChannels : Prop :=
  ∀ (s : State) (m : Fin 2) (v : Word),
    let st := s.get (MEM_M_STATUS_STATE m)
    let en := s.flag (MEM_M_CTRL_EN m)
    let r := s.mch m
    let lost := s.rd (MEM_M_LOST m)
    let nothing (t : State) : Prop := sameRegs [EVR_DROP] s t ∧ sameBut [] s t
    let refused (t : State) : Prop := t.flag MEM_STATUS_CFG_REFUSED = true ∧ recorded s t 0x14E 0
    let busy := s.anyRunning = true ∨ s.frozen = true
    (s.up = true →
      (∃ t, exec (.memChannelEnable m v) s = .next t ∧ t.flag (MEM_M_CTRL_EN m) = true ∧
        t.get (MEM_M_STATUS_STATE m) = lifeNext en true st (if s.memBad m then 4 else 1) 3 ∧
        (en = false → st = 0 → s.memBad m = true → recorded s t 0x14B m) ∧
        sameRegs ([MEM_M_CTRL m, MEM_M_STATUS m] ++ wrRegs) s t ∧ sameBut [] s t) ∧
      (∃ t, exec (.memChannelDisable m v) s = .next t ∧ t.flag (MEM_M_CTRL_EN m) = false ∧
        t.get (MEM_M_STATUS_STATE m) = lifeNext en false st 1 (if st = 1 ∨ r.jobs = [] then 0 else 3) ∧
        (en = true → st = 1 ∨ (st = 2 ∧ r.jobs = []) → t.get (MEM_M_MIG_STATE m) = 0 ∧ t.get (MEM_M_MIG_PTR_BLOCK m) = 0 ∧
          t.flag (MEM_M_SPARE_BAD m) = false ∧ t.flag (MEM_M_SPARE_USED m) = false ∧ t.flag (MEM_M_SR_ACTIVE m) = false) ∧
        sameRegs ([MEM_M_CTRL m, MEM_M_STATUS m, MEM_M_MIG m, MEM_M_MIG_PTR m, MEM_M_SPARE m, MEM_M_SR m] ++ wrRegs) s t ∧
        sameBut [] s t) ∧
      (∃ t, exec (.memFreezeRelease v) s = .next t ∧ sameBut [] s t ∧
        if v = 0x0000A5C3#32 ∧ s.frozen = true then
          t.flag MEM_STATUS_FROZEN = false ∧ recorded s t 0x143 0 ∧ sameRegs (MEM_STATUS :: wrRegs) s t ∧
            sameBeside MEM_STATUS [MEM_STATUS_FROZEN] s t
        else sameRegs wrRegs s t) ∧
      (∃ t, exec (.lostClear m v) s = .next t ∧ t.rd (MEM_M_LOST m) = lost &&& ~~~v ∧ sameRegs (MEM_M_LOST m :: wrRegs) s t ∧
        sameBut [] s t) ∧
      (∃ t, exec (.selfRefreshEnter m v) s = .next t ∧ sameRegs (dramRegs ++ wrRegs) s t ∧ sameBut dramParts s t ∧
        (bitOf v.toNat 1 = false → s.dramWait = [] →
          if st = 2 ∧ ¬ busy ∧ s.get (MEM_M_MIG_STATE 0) ≠ 1 ∧ s.get (MEM_M_MIG_STATE 1) ≠ 1 then
            t.flag (MEM_M_SR_ACTIVE m) = true ∧ (s.flag (MEM_M_SR_ACTIVE m) = true → sameRegs wrRegs s t ∧ sameBut [] s t) ∧
              (s.flag (MEM_M_SR_ACTIVE m) = false → (t.mch m).jobs = [] ∧ (t.mch m).kept = s.rd (MEM_M_PASR m) ∧
                (r.jobs = [] → sameRegs (MEM_M_SR m :: wrRegs) s t ∧ sameBut [.mchs] s t))
          else refused t ∧ sameRegs (MEM_STATUS :: wrRegs) s t ∧ sameBut [] s t)) ∧
      (∃ t, exec (.selfRefreshExit m v) s = .next t ∧ sameRegs (dramRegs ++ wrRegs) s t ∧ sameBut dramParts s t ∧
        (bitOf v.toNat 0 = false → t.flag (MEM_M_SR_ACTIVE m) = false ∧
          if s.flag (MEM_M_SR_ACTIVE m) then
            t.rd (MEM_M_LOST m) = lost ||| ~~~r.kept ∧
            (∀ a, memGet t.dram a = if a / 2 ^ 38 = m ∧
                bitOf r.kept.toNat (a / 2 ^ 36 % 4 * 8 + s.eighth m (a % 2 ^ 36)) = false then 0 else memGet s.dram a) ∧
            sameRegs ([MEM_M_SR m, MEM_M_LOST m] ++ wrRegs) s t ∧ sameBut [.dram, .poison] s t
          else sameRegs wrRegs s t ∧ sameBut [] s t)) ∧
      (∃ t, exec (.init m v) s = .next t ∧ sameRegs (MEM_M_INIT m :: wrRegs) s t ∧ sameBut [.mchs] s t ∧
        t.flag (MEM_M_INIT_BUSY m) = true ∧
        t.get (MEM_M_INIT_RANK m) = v.toNat / 2 ^ 4 % 4 ∧ t.get (MEM_M_INIT_MASK m) = v.toNat / 2 ^ 8 % 256 ∧
        t.flag (MEM_M_INIT_DONE m) = (s.flag (MEM_M_INIT_DONE m) && !bitOf v.toNat 17) ∧ (∀ k, k ≠ m → t.mch k = s.mch k) ∧
        t.mch m = if s.flag (MEM_M_INIT_BUSY m) then r
          else { r with fillAt := 0, fillRk := v.toNat / 2 ^ 4 % 4, fillMk := v.toNat / 2 ^ 8 % 256 }) ∧
      (∃ t, exec (.fullTraining m v) s = .next t ∧ sameRegs ([MEM_M_TRAIN m, MEM_STATUS] ++ wrRegs) s t ∧ sameBut [] s t ∧
        t.flag (MEM_M_TRAIN_DONE m) = (s.flag (MEM_M_TRAIN_DONE m) && !bitOf v.toNat 9) ∧
        t.flag (MEM_M_TRAIN_ERR m) = (s.flag (MEM_M_TRAIN_ERR m) && !bitOf v.toNat 10) ∧
        (busy → refused t ∧ t.flag (MEM_M_TRAIN_BUSY m) = s.flag (MEM_M_TRAIN_BUSY m)) ∧
        (¬ busy → t.flag (MEM_M_TRAIN_BUSY m) = true))) ∧
    (s.alive = true →
      (∀ trained, ∃ t, exec (.memChannelReady m trained) s = .next t ∧
        sameRegs [EVR_ALERT_PEND, EVR_DROP, MEM_M_STATUS m, MEM_M_LOST m] s t ∧ sameBut [.dram, .poison] s t ∧
        (st ≠ 1 → nothing t) ∧
        (st = 1 → if trained = true ∧ s.memBad m = false then t.get (MEM_M_STATUS_STATE m) = 2 ∧
            t.rd (MEM_M_LOST m) = 0xFFFFFFFF#32 ∧ ∀ a, memGet t.dram a = if a / 2 ^ 38 = m then 0 else memGet s.dram a
          else t.get (MEM_M_STATUS_STATE m) = 4 ∧ recorded s t 0x14B m ∧ sameBut [] s t)) ∧
      (∃ t, exec (.refresh m) s = .next t ∧ nothing t) ∧
      (∀ hot, ∃ t, exec (.mr4Read m hot) s = .next t ∧ sameBut [] s t ∧
        sameRegs [EVR_ALERT_PEND, EVR_DROP, MEM_M_STATUS m] s t ∧ sameBeside (MEM_M_STATUS m) [MEM_M_STATUS_HOT m] s t ∧
        (st ≠ 0 → t.flag (MEM_M_STATUS_HOT m) = hot ∧
          (hot = true → s.flag (MEM_M_STATUS_HOT m) = false → recorded s t 0x151 m)) ∧
        (st = 0 → nothing t)) ∧
      (∃ t, exec (.acgTableClear m) s = .next t ∧ t.mch m = { r with acg := [] } ∧ (∀ k, k ≠ m → t.mch k = s.mch k) ∧
        sameRegs [EVR_DROP] s t ∧ sameBut [.mchs] s t) ∧
      (∃ t, exec (.initDone m) s = .next t ∧
        if s.filling m = true ∧ r.jobs = [] then
          t.rd (MEM_M_LOST m) = (s.srExit m).rd (MEM_M_LOST m) &&& ~~~BitVec.ofNat 32 (r.fillMk * 2 ^ (8 * r.fillRk)) ∧
          t.flag (MEM_M_INIT_BUSY m) = false ∧ t.flag (MEM_M_INIT_DONE m) = true ∧
          (∀ a, memGet t.dram a =
            if a / 2 ^ 38 = m ∧ s.fillHits m r.fillAt (8 * s.perEighth m) (a / 2 ^ 36 % 4) (a % 2 ^ 36) = true then 0
            else memGet (s.srExit m).dram a) ∧
          sameRegs (MEM_M_INIT m :: dramRegs) s t ∧ sameBut dramParts s t
        else nothing t) ∧
      (∀ beyond, ∃ t, exec (.retrain m beyond) s = .next t ∧
        if st = 2 ∧ s.get (MEM_M_RETRAIN_PERIOD m) ≠ 0 ∧ s.flag (MEM_M_SR_ACTIVE m) = false then
          t.mch m = { r with rtRank := (r.rtRank + 1) % orOne (s.get (MEM_M_CFG_RANKS m)) } ∧
            (beyond = true → t.flag (MEM_M_STATUS_MARGIN m) = true ∧ recorded s t 0x149 m) ∧
            (beyond = false → sameRegs [EVR_DROP] s t) ∧
            sameRegs [EVR_ALERT_PEND, EVR_DROP, MEM_M_STATUS m] s t ∧ sameBut [.mchs] s t
        else nothing t) ∧
      (∀ failed, ∃ t, exec (.trainDone m failed) s = .next t ∧
        if s.flag (MEM_M_TRAIN_BUSY m) then
          t.flag (MEM_M_TRAIN_BUSY m) = false ∧ t.flag (MEM_M_TRAIN_DONE m) = true ∧ recorded s t 0x14A m ∧
            t.flag (MEM_M_TRAIN_ERR m) = (s.flag (MEM_M_TRAIN_ERR m) || failed) ∧ (failed = true → recorded s t 0x14B m) ∧
            sameRegs [EVR_ALERT_PEND, EVR_DROP, MEM_M_TRAIN m] s t ∧ sameBut [] s t
        else nothing t))

/-- DRAM accesses (R392, R396 to R402, R407, R418, R419): each block of a request enters the queue of its class, a full write completing
as it does, waits where the queue is full, or is answered at once; an entry that its turn brings, the oldest of its block and of the
class that VMIN asks for, is carried out, with the bytes, OK or UE; the returns of a blocked requester are revoked; the mover copies a block to the spare, after what waits for it; scrub moves on while nothing waits; the
diagnostic port takes an address, then shows the block.

It rests also on the model's own choices of log entries 7, 14, 15, 16, 36, 41, 42, 43, 102 and 123. -/
def Obligations.MemoryAccesses : Prop :=
  ∀ (s : State) (m : Fin 2) (chk : RdCheck) (v : Word),
    let nothing (t : State) : Prop := sameRegs [EVR_DROP] s t ∧ sameBut [] s t
    let regs := dramRegs ++ [MEM_M_HAZ_CNT 0, MEM_M_HAZ_CNT 1, MEM_M_STATUS 0, MEM_M_STATUS 1, MEM_M_MIG_POISON_CNT m,
      MEM_M_RANKMAP m, MEM_M_SCRUB_POS m, MEM_M_SCRUB_PASS m] ++ wrRegs
    let corrected (t : State) : Prop := t.rd (MEM_M_CE_CNT m) = satInc (s.rd (MEM_M_CE_CNT m)) ∧ recorded s t 0x140 m
    let live (t : State) : Prop := sameRegs regs s t ∧ sameBut dramParts s t
    (s.alive = true →
      (∀ r : DramReq, ∃ t, exec (.dramRequest r) s = .next t ∧ live t ∧
        let fits := ∀ d, r.data = some d → d.length = r.len
        (¬ fits → nothing t) ∧
        (fits → ∀ x ∈ blockParts r.addr.toNat r.len,
          (∀ e, s.blockPlace r.classK x.1 = .inl e → .dram r.requester x.1 e [] ∈ t.outbox) ∧
          (∀ k rank ra, s.blockPlace r.classK x.1 = .inr (k, rank, ra) → (r, x.1, x.2) ∈ t.dramWait ∨
            ∃ j ∈ (t.mch k).jobs, j.req = r.requester ∧ j.addr = x.1 ∧ j.len = x.2 ∧ j.rank = rank ∧ j.ra = ra ∧ j.classK = r.classK)) ∧
        (fits → s.filling 0 = false → s.filling 1 = false → s.dramWait = [] → ∀ a n, blockParts r.addr.toNat r.len = [(a, n)] →
          (∀ e, s.blockPlace r.classK a = .inl e → t.outbox = s.outbox ++ [.dram r.requester a e []] ∧ t.mchs = s.mchs ∧
            t.dram = s.dram ∧ t.dramWait = [] ∧ (e = .nomap → t.rd MEM_NOMAP_CNT = satInc (s.rd MEM_NOMAP_CNT) ∧
              recorded s t 0x150 ((s.dramChan a).elim 0 fun x => x.1))) ∧
          (∀ k rank ra, s.blockPlace r.classK a = .inr (k, rank, ra) →
            let full := (if r.classK then 32 else 64) ≤ ((s.mch k).jobs.filter fun j => j.classK == r.classK).length
            (full → t.dramWait = [(r, a, n)] ∧ nothing { t with dramWait := [] }) ∧ (¬ full →
            let u := (s.srExit k).activate k rank ra
            let waits (data : List Byte) (kind : JobKind) : Prop := (t.mch k).jobs = (s.mch k).jobs ++
              [{ req := r.requester, classK := r.classK, addr := a, rank := rank, ra := ra, len := n, data := data, kind := kind }]
            let held := (s.mch k).jobs.any fun j => !j.reads && j.at_ rank ra
            t.dram = u.dram ∧ t.dramWait = [] ∧
            (r.data = none → waits [] .read ∧ t.outbox = u.outbox ∧
              t.rd (MEM_M_HAZ_CNT k) = s.rd (MEM_M_HAZ_CNT k) + if held then 1 else 0) ∧
            (∀ d, r.data = some d → n = 64 → waits d .full ∧ t.outbox = u.outbox ++ [.dram r.requester a .ok []]) ∧
            (∀ d, r.data = some d → n ≠ 64 → waits d .merge ∧ t.outbox = u.outbox))))) ∧
      (∀ (k : Bool) (i : Nat), ∃ t, exec (.dramReadComplete m ⟨k, i, chk⟩) s = .next t ∧ live t ∧
        let r := s.mch m
        let vmin := s.get MEM_QOS_VMIN
        (r.jobs = [] → nothing t) ∧ (r.jobs ≠ [] → ∃ j, r.nextJob vmin k i = some j) ∧
        ∀ j, r.nextJob vmin k i = some j → j ∈ r.jobs ∧ r.jobs.find? (fun y => y.at_ j.rank j.ra) = some j ∧
          (r.hasReady false = true → r.hasReady true = true → (vmin ≤ r.slotsV → j.classK = true) ∧
            (r.slotsV < vmin → 16 - r.slots ≤ vmin - r.slotsV → j.classK = false)) ∧ (s.dramWait = [] →
          let key := dramKey m j.rank j.ra
          let lost := s.isLost m j.rank j.ra = true
          let bad := ¬ lost ∧ (s.poisoned key = true ∨ chk = .uncorrectable)
          let cnt := if j.classK then MEM_M_UE_K_CNT m else MEM_M_UE_V_CNT m
          let goes := j.kind = .merge ∨ (j.kind = .read ∧ s.frozen = false)
          (j.kind = .full → j.data.length = 64 → j.ra % 64 = 0 → memTake t.dram key 64 = j.data ∧ t.poisoned key = false ∧ t.outbox = s.outbox) ∧
          (j.kind = .read → s.frozen = true → t.outbox = s.outbox ++ [.dram j.req j.addr .frozen []] ∧ t.dram = s.dram) ∧
          (goes → bad → (∃ l, t.outbox = s.outbox ++ .dram j.req j.addr .ue [] :: l) ∧ t.rd cnt = satInc (s.rd cnt) ∧
            recorded s t (if j.classK then 0x142 else 0x141) m ∧ t.dram = s.dram ∧
            (j.kind = .merge → t.poisoned key = true) ∧
            (j.classK = true → s.frozen = false → t.frozen = true ∧ t.get MEM_STATUS_FCAUSE = m ∧
              t.rd MEM_FREEZE_CNT = satInc (s.rd MEM_FREEZE_CNT) ∧ ∀ b : Fin 32, stopAsked b 0xB s t)) ∧
          (goes → ¬ bad → (∀ g, chk = .correctable g → ¬ lost → corrected t) ∧
            (j.kind = .read → t.dram = s.dram ∧ t.outbox = s.outbox ++ [.dram j.req j.addr .ok
              (if s.isLost m j.rank j.ra then List.replicate j.len 0 else memTake s.dram key j.len)]) ∧
            (j.kind = .merge → memTake t.dram key j.data.length = j.data ∧ t.poisoned key = false ∧
              t.outbox = s.outbox ++ [.dram j.req j.addr .ok []])) ∧
          (¬ bad ∨ j.kind = .full → (t.mch m).jobs = r.jobs.erase j))) ∧
      (∀ q, ∃ t, exec (.retRevoke q) s = .next t ∧ live t ∧
        let mine (j : RdJob) : Bool := j.req == q && j.reads
        let gone := (s.mch 0).jobs.filter mine ++ (s.mch 1).jobs.filter mine
        (gone = [] → nothing t) ∧
        (gone ≠ [] → s.dramWait = [] → t.rd MEM_RET_REVOKE_CNT = satInc (s.rd MEM_RET_REVOKE_CNT) ∧ recorded s t 0x14D 0 ∧
          (∀ k : Fin 2, (t.mch k).jobs = (s.mch k).jobs.filter fun j => !mine j) ∧
          t.outbox = s.outbox ++ gone.map fun j => .dram j.req j.addr .revoked [])) ∧
      (∃ t, exec (.migrationBlockCopy m chk) s = .next t ∧ live t ∧
        let p := (s.mch m).migP
        let sp := s.get (MEM_M_SPARE_RANK m)
        let blk := s.get (MEM_M_MIG_PTR_BLOCK m)
        let ra := blk * 64
        let u := s.settleBlock m p ra
        let bad := s.isLost m p ra = false ∧ (u.poisoned (dramKey m p ra) = true ∨ chk = .uncorrectable)
        if s.get (MEM_M_MIG_STATE m) = 1 ∧ s.frozen = false ∧ s.get (MEM_M_STATUS_STATE m) = 2 then
          (bad → t.rd (MEM_M_MIG_POISON_CNT m) = satInc (s.rd (MEM_M_MIG_POISON_CNT m)) ∧ recorded s t 0x146 m ∧
            t.poisoned (dramKey m sp ra) = true ∧ t.dram = u.dram) ∧
          (¬ bad → t.poisoned (dramKey m sp ra) = false ∧ memTake t.dram (dramKey m sp ra) 64 =
            (if s.isLost m p ra then List.replicate 64 0 else memTake u.dram (dramKey m p ra) 64)) ∧
          t.get (MEM_M_MIG_PTR_BLOCK m) = (blk + 1) % 2 ^ 30 ∧
          (if s.rankCap m ≤ (blk + 1) * 64 then
            t.get (MEM_M_MIG_STATE m) = 2 ∧ t.get (MEM_M_MIG_FAILED m) = p % 4 ∧ recorded s t 0x145 m
          else t.get (MEM_M_MIG_STATE m) = 1 ∧ t.rd (MEM_M_RANKMAP m) = s.rd (MEM_M_RANKMAP m))
        else nothing t) ∧
      (∃ t, exec (.scrubRead m chk) s = .next t ∧ live t ∧
        let per := 8 * s.perEighth m
        let works := s.flag (MEM_M_SCRUB_EN m) = true ∧ s.throttled = false ∧ s.get (MEM_M_STATUS_STATE m) = 2 ∧ s.frozen = false ∧
          s.flag (MEM_M_SR_ACTIVE m) = false ∧ s.get (MEM_M_MIG_STATE m) ≠ 1 ∧ (s.mch m).jobs = []
        (¬ works → nothing t) ∧
        ∀ i, works → s.scrubFrom m (s.get (MEM_M_SCRUB_POS_RANK m) * per + s.get (MEM_M_SCRUB_POS_BLOCK m)) = some i →
          let key := dramKey m (i / per) (i % per * 64)
          let bad := s.poisoned key = true ∨ chk = .uncorrectable
          (bad → t.poisoned key = true ∧ t.rd (MEM_M_UE_V_CNT m) = satInc (s.rd (MEM_M_UE_V_CNT m)) ∧ recorded s t 0x141 m) ∧
          (¬ bad → t.poison = s.poison ∧ (∀ g, chk = .correctable g → corrected t) ∧
            (∀ k, s.scrubFrom m (i + 1) = some k → t.get (MEM_M_SCRUB_POS_BLOCK m) = k % per % 2 ^ 30 ∧
              t.get (MEM_M_SCRUB_POS_RANK m) = k / per % 4) ∧
            (s.scrubFrom m (i + 1) = none → t.rd (MEM_M_SCRUB_PASS m) = s.rd (MEM_M_SCRUB_PASS m) + 1 ∧ recorded s t 0x14C m))) ∧
      (∀ flip ecc, ∃ t, exec (.diagReadDone flip ecc) s = .next t ∧
        if s.flag MEM_DIAG_CTRL_BUSY then
          let raw := (match s.diagAt with
            | some k => leNat (memTake s.dram k 64)
            | none => 0) ^^^ flip.toNat
          (∀ i : Fin 16, t.rd (MEM_DIAG_DATA i) = BitVec.ofNat 32 (raw / 2 ^ (32 * i.val))) ∧
          (∀ i : Fin 4, t.rd (MEM_DIAG_CHK i) = BitVec.ofNat 32 (ecc.toNat / 2 ^ (32 * i.val))) ∧
          t.flag MEM_DIAG_CTRL_BUSY = false ∧ t.flag MEM_DIAG_CTRL_DONE = true ∧ t.diagAt = none ∧
          sameRegs ([EVR_ALERT_PEND, EVR_DROP, MEM_DIAG_CTRL, MEM_M_ACG_CNT 0, MEM_M_ACG_CNT 1] ++ (List.range 16).map MEM_DIAG_DATA ++
            (List.range 4).map MEM_DIAG_CHK) s t ∧
          sameBut [.diagAt, .mchs, .outbox] s t
        else nothing t)) ∧
    (s.up = true → ∃ t, exec (.diagRead v) s = .next t ∧ sameRegs (MEM_DIAG_CTRL :: wrRegs) s t ∧ sameBut [.diagAt] s t ∧
      t.flag MEM_DIAG_CTRL_BUSY = true ∧
      let a := s.rdN MEM_DIAG_ADDR_LO / 64 * 64 + s.rdN MEM_DIAG_ADDR_HI % 256 * 2 ^ 32
      (s.flag MEM_DIAG_CTRL_BUSY = true → t.diagAt = s.diagAt) ∧
      (s.flag MEM_DIAG_CTRL_BUSY = false → bitOf v.toNat 1 = true →
        t.diagAt = some (dramKey (v.toNat / 2 ^ 4 % 2) (v.toNat / 2 ^ 6 % 4) (a % 2 ^ 36))) ∧
      (s.flag MEM_DIAG_CTRL_BUSY = false → bitOf v.toNat 1 = false →
        t.diagAt = (s.dramPlace a).map fun x => dramKey x.1 x.2.1 x.2.2))

/-! ### Recoat motion and position feedback (R349 to R382) -/

/-- Axes (R349 to R356, R369 to R372): EN starts an axis, clearing it stops it at once; a command that falls due acts on a READY
axis: GO moves it to TARGET, RUN without end, STOP brings it to rest, RESUME goes on, HOME searches; a limit holds a move from
starting; the profile moves the axis tick by tick, until the edge at which it is OFF.

It rests also on the model's own choices of log entries 7, 53, 54 and 101. -/
def Obligations.AxisMotion : Prop :=
  ∀ (s : State) (a : Fin 8) (v : Word),
    let r := s.ax a
    let st := s.get (MOT_AX_STATUS_STATE a)
    let ms := s.get (MOT_AX_STATUS_MSTATE a)
    let en := s.flag (MOT_AX_CTRL_EN a)
    let others (t : State) : Prop := (∀ k, k ≠ a.val → t.ax k = s.ax k) ∧ sameBut [.axes] s t
    let nothing (t : State) : Prop := sameRegs [EVR_DROP] s t ∧ sameBut [] s t
    let irun := (s.axEff a).get (MOT_AX_CUR_IRUN a)
    let moving (plan : AxPlan) (t : State) : Prop := t.get (MOT_AX_STATUS_MSTATE a) = 1 ∧ t.get (MOT_AX_LOAD_SCALE a) = irun ∧
      (t.ax a).plan = plan
    let limit (pos : Bool) (t : State) : Prop :=
      t.flag (if pos then MOT_AX_STATUS_LIM_P a else MOT_AX_STATUS_LIM_N a) = true ∧ recorded s t 0x241 a
    let same (t : State) : Prop := t.ax a = { r with due := 0, strong := s.strongNext a } ∧ t.get (MOT_AX_STATUS_MSTATE a) = ms
    let signed (pos : Bool) (n : Nat) : Int := if pos then (n : Int) else -(n : Int)
    let tgt := (s.axEff a).rdI (MOT_AX_TARGET a)
    let u := s.axTo a tgt
    let blocked := u ≠ 0 ∧ s.limActive a (decide (0 < u)) = true
    let goes (t : State) : Prop := (ms = 4 → same t) ∧ (ms ≠ 4 → blocked → limit (decide (0 < u)) t ∧ same t) ∧
      (ms ≠ 4 → ¬ blocked → (t.ax a).tgt = tgt ∧
        if (ms = 1 ∨ ms = 2) ∧ r.v ≠ 0 then (t.ax a).v = r.v ∧ (t.ax a).kept = true ∧
          moving (if 0 < u * r.v ∧ r.v.natAbs * r.v.natAbs ≤ s.axVstop a * s.axVstop a + s.axD a * u.natAbs then .toTarget false
            else .brake .go) t
        else if u = 0 then t.get (MOT_AX_STATUS_MSTATE a) = 0 ∧ (t.ax a).plan = .rest ∧ t.rd (MOT_AX_VACT a) = 0 ∧
          t.rd (MOT_AX_REMAIN a) = 0
        else (t.ax a).v = signed (decide (0 < u)) (min (s.axVstart a) (s.axVmax a)) ∧ (t.ax a).kept = true ∧
          moving (.toTarget (s.axVstart a != 0 && shortMove (s.axVstart a) (s.axVstop a) (s.axA a) (s.axD a) u.natAbs)) t)
    let runs (pos : Bool) (t : State) : Prop := (ms = 4 → same t) ∧
      (ms ≠ 4 → s.limActive a pos = true → limit pos t ∧
        if r.v = 0 ∧ ms = 1 then t.get (MOT_AX_STATUS_MSTATE a) = 0 ∧ (t.ax a).plan = .rest else same t) ∧
      (ms ≠ 4 → s.limActive a pos = false →
        if r.v = 0 then moving (.run pos) t ∧ (t.ax a).v = signed pos (min (s.axVstart a) (s.axVmax a))
        else moving (if decide (0 < r.v) = pos then .run pos else .brake (.run pos)) t ∧ (t.ax a).v = r.v)
    let stops (hard : Bool) (t : State) : Prop :=
      let kept := r.kept && ms != 4
      (ms = 4 → t.flag (MOT_AX_STATUS_HOMED a) = false ∧ t.flag (MOT_AX_STATUS_HOME_FAIL a) = true ∧ recorded s t 0x243 a) ∧
      if ms = 1 ∨ ms = 2 ∨ ms = 4 then
        if hard = true ∨ r.v = 0 then t.get (MOT_AX_STATUS_MSTATE a) = (if kept then 3 else 0) ∧ (t.ax a).v = 0 ∧
          (t.ax a).plan = .rest ∧ t.rd (MOT_AX_VACT a) = 0
        else t.get (MOT_AX_STATUS_MSTATE a) = 2 ∧ (t.ax a).plan = .brake (if kept then .stopped else .idle) ∧ (t.ax a).v = r.v
      else t.get (MOT_AX_STATUS_MSTATE a) = ms ∧ (t.ax a).v = r.v
    let taken (code : Nat) (cmd : Instr) (effect : State → Prop) : Prop := ∃ t, exec cmd s = .next t ∧ others t ∧
      sameRegs [EVR_ALERT_PEND, EVR_DROP, MOT_AX_STATUS a, MOT_AX_REMAIN a, MOT_AX_VACT a, MOT_AX_LOAD a] s t ∧
      (r.due ≠ code → nothing t) ∧ (r.due = code → (t.ax a).due = 0) ∧
      (r.due = code → st ≠ 2 → t.ax a = { r with due := 0 } ∧ sameRegs [EVR_DROP] s t) ∧ (r.due = code → st = 2 → effect t)
    (s.up = true →
      (∃ t, exec (.axisEnable a v) s = .next t ∧ t.flag (MOT_AX_CTRL_EN a) = true ∧
        t.get (MOT_AX_STATUS_STATE a) = lifeNext en true st 1 3 ∧ sameRegs ([MOT_AX_CTRL a, MOT_AX_STATUS a] ++ wrRegs) s t ∧
        sameBut [] s t) ∧
      (∃ t, exec (.axisDisable a v) s = .next t ∧ t.flag (MOT_AX_CTRL_EN a) = false ∧
        t.get (MOT_AX_STATUS_STATE a) = lifeNext en false st 1 3 ∧ others t ∧
        (en = true → st = 1 ∨ st = 2 → stops true t) ∧
        sameRegs ([MOT_AX_CTRL a, MOT_AX_STATUS a, MOT_AX_REMAIN a, MOT_AX_VACT a] ++ wrRegs) s t)) ∧
    (s.alive = true →
      taken 1 (.go a) goes ∧ taken 2 (.runPos a) (runs true) ∧ taken 3 (.runNeg a) (runs false) ∧
      taken 4 (.stopSoft a) (stops false) ∧ taken 5 (.stopHard a) (stops true) ∧
      taken 6 (.resume a) (fun t => (ms = 3 → goes t) ∧ (ms ≠ 3 → same t ∧ sameRegs [EVR_DROP] s t)) ∧
      taken 7 (.home a) (fun t => t.get (MOT_AX_STATUS_MSTATE a) = 4 ∧ t.get (MOT_AX_LOAD_SCALE a) = irun ∧ (t.ax a).moved = 0 ∧
        (t.ax a).plan = if s.get (MOT_AX_HOME_CFG_MODE a) < 2 ∧ s.homeActive a = true then .backOff else .search) ∧
      ∀ x y : BitVec 12, ∃ t, exec (.profileTick a x y) s = .next t ∧ others t ∧
        sameRegs ([EVR_ALERT_PEND, EVR_DROP, MOT_AX_STATUS a, MOT_AX_POS a, MOT_AX_TARGET a, MOT_AX_REMAIN a, MOT_AX_VACT a,
          MOT_AX_LOAD a, MOT_AX_HOME_REF a, MOT_AX_SENSE a] ++ (List.range 8).map PFB_QE_POS) s t ∧
        t.rd (MOT_AX_SENSE a) = BitVec.ofNat 32 (x.toNat + y.toNat * 2 ^ 16) ∧
        if s.axLive a = true then
          let moved (d : Int) : Prop := t.rd (MOT_AX_POS a) = wordOf (s.axPos a + (r.frac + d) / (axUnit : Int))
          let speed (w : Int) : Prop := (t.ax a).v = w ∧ t.rd (MOT_AX_VACT a) = wordOf (Int.tdiv w axHz) ∧ moved (r.v + w)
          let u := s.axTo a r.tgt
          ((t.ax a).v ≠ 0 → t.flag (MOT_AX_STATUS_STRONG a) = true → (s.axEff a).flag (MOT_AX_CTRL_LA_EN a) = false →
            t.get (MOT_AX_LOAD_SCALE a) = irun) ∧
          (r.stop ≠ 0 → stops (decide (r.stop = 2)) t ∧ t.rd (MOT_AX_POS a) = s.rd (MOT_AX_POS a)) ∧
          (r.stop = 0 → r.plan = .rest → (t.ax a).rest = r.rest + 1 ∧ t.rd (MOT_AX_POS a) = s.rd (MOT_AX_POS a)) ∧
          (∀ pos, r.stop = 0 → r.plan = .run pos → speed (axApproach r.v (signed pos (s.axVmax a)) (s.axA a) (s.axD a))) ∧
          (∀ flat, r.stop = 0 → r.plan = .toTarget flat →
            let w := if flat then r.v.natAbs
              else axSpeed r.v.natAbs u.natAbs (s.axVmax a) (s.axVstop a) (s.axA a) (s.axD a)
            if u.natAbs ≤ r.v.natAbs + w then t.get (MOT_AX_STATUS_MSTATE a) = 0 ∧ (t.ax a).v = 0 ∧ t.rd (MOT_AX_REMAIN a) = 0 ∧
              t.rd (MOT_AX_VACT a) = 0 ∧ moved u
            else speed (signed (decide (0 < u)) w)) ∧
          (∀ fin, r.stop = 0 → r.plan = .brake fin → fin = .idle ∨ fin = .stopped →
            let w := axApproach r.v 0 (s.axA a) (s.axD a)
            speed w ∧ (w = 0 → t.get (MOT_AX_STATUS_MSTATE a) = if fin = .idle then 0 else 3))
        else sameRegs [EVR_DROP, MOT_AX_SENSE a] s t ∧ sameBut [] s t)

/-- Coils, load, limits, quadrature inputs and encoder outputs (R359 to R368, R373 to R382): a PWM period drives the coils in the
mode that the speed gives until the axis is OFF; the standstill current falls to IHOLD; a stall in mode STALL ends the search; a stall and an overcurrent are reported and stop the axis; an
active limit stops an axis that moves towards it; a quadrature input counts, and reports what is wrong; an output follows.

It rests also on the model's own choices of log entries 7, 20, 53, 55, 114 and 115. -/
def Obligations.DriveAndFeedback : Prop :=
  ∀ (s : State) (a q : Fin 8) (e : Fin 4) (v : Word),
    let r := s.ax a
    let x := s.qe q
    let nothing (t : State) : Prop := sameRegs [EVR_DROP] s t ∧ sameBut [] s t
    let axis (t : State) : Prop := (∀ k, k ≠ a.val → t.ax k = s.ax k) ∧ sameBut [.axes] s t
    let ready := s.get (MOT_AX_STATUS_STATE a) = 2
    let works := s.axLive a = true
    let ms := s.get (MOT_AX_STATUS_MSTATE a)
    let act := (s.axEff a).flag (MOT_AX_CTRL_STALL_ACT a)
    let live := s.get (PFB_QE_STATUS_STATE q) = 2
    let lvl := s.get (PFB_QE_STATUS_LVL q)
    let pos := s.rd (PFB_QE_POS q)
    let inputs (regs : List Nat) (t : State) : Prop :=
      (∀ k, k ≠ q.val → t.qe k = s.qe k) ∧ sameRegs (EVR_ALERT_PEND :: EVR_DROP :: PFB_QE_STATUS q :: regs) s t ∧
      sameBut [.qes, .axes] s t
    let index := [PFB_QE_POS q, PFB_QE_IDX_POS q, PFB_QE_IDX_CNT q, PFB_QE_IDX_ERR_CNT q]
    (s.alive = true →
      (∃ t, exec (.axisPwmPeriod a) s = .next t ∧
        if works then t.flag (MOT_AX_STATUS_STRONG a) = s.strongNext a ∧
          (s.strongNext a = false → t.get (MOT_AX_LOAD_LOAD a) = 0) ∧
          t.ax a = { r with strong := s.strongNext a, a := t.coilStart a false r.a, b := t.coilStart a true r.b } ∧ axis t ∧
          sameRegs [EVR_DROP, MOT_AX_STATUS a, MOT_AX_LOAD a] s t
        else nothing t) ∧
      (∀ coilB, ∃ t, exec (.coilDriveEnd a coilB) s = .next t ∧
        if works then t.ax a = (if coilB then { r with b := s.coilEnd a r.b } else { r with a := s.coilEnd a r.a }) ∧ axis t ∧
          sameRegs [EVR_DROP] s t
        else nothing t) ∧
      (∃ t, exec (.standstillCurrentStep a) s = .next t ∧
        let hold := (s.axEff a).get (MOT_AX_CUR_IHOLD a)
        let scale := s.get (MOT_AX_LOAD_SCALE a)
        if works ∧ r.v = 0 ∧ (s.axEff a).get (MOT_AX_CUR_HOLD_DLY a) * 1000 ≤ r.rest ∧
            hold < (s.axEff a).get (MOT_AX_CUR_IRUN a) ∧ hold < scale then
          t.get (MOT_AX_LOAD_SCALE a) = scale - 1 ∧ sameRegs [EVR_DROP, MOT_AX_LOAD a] s t ∧
            sameBeside (MOT_AX_LOAD a) [MOT_AX_LOAD_SCALE a] s t ∧ sameBut [] s t
        else nothing t) ∧
      (∃ t, exec (.axStall a) s = .next t ∧
        if ready ∧ orOne ((s.axEff a).get (MOT_AX_STALL_N a)) ≤ r.stall then
          t.flag (MOT_AX_STATUS_STALL a) = true ∧ t.rd (MOT_AX_STALL_CNT a) = satInc (s.rd (MOT_AX_STALL_CNT a)) ∧
            recorded s t 0x240 a ∧ (t.ax a).stall = 0 ∧
            (if ms = 4 ∧ s.get (MOT_AX_HOME_CFG_MODE a) = 2 then
              (if r.plan = .search then (t.ax a).plan = .brake .home ∧ (t.ax a).ref = s.axPos a
                else (t.ax a).plan = r.plan ∧ (t.ax a).ref = r.ref) ∧
              (t.ax a).stop = r.stop ∧ t.get (MOT_AX_STATUS_MSTATE a) = 4 ∧ (t.ax a).v = if act then 0 else r.v
            else (t.ax a).stop = (if act then max r.stop 2 else if ms = 4 then max r.stop 1 else r.stop) ∧ (t.ax a).v = r.v) ∧
            axis t ∧ sameRegs [EVR_ALERT_PEND, EVR_DROP, MOT_AX_STATUS a, MOT_AX_STALL_CNT a] s t
        else nothing t) ∧
      (∃ t, exec (.axOvercurrent a) s = .next t ∧
        if works ∧ (2 ≤ r.a.oc ∨ 2 ≤ r.b.oc) then
          t.get (MOT_AX_STATUS_STATE a) = (if ready then 4 else s.get (MOT_AX_STATUS_STATE a)) ∧ t.flag (MOT_AX_STATUS_OC a) = true ∧ recorded s t 0x244 a ∧
            (t.ax a).a = r.a.slow ∧ (t.ax a).b = r.b.slow ∧ (t.ax a).v = 0 ∧ t.rd (MOT_AX_VACT a) = 0 ∧
            t.get (MOT_AX_STATUS_MSTATE a) = (if r.kept = true ∧ ms ≠ 4 ∧ ms ≠ 0 then 3 else 0) ∧ axis t ∧
            sameRegs [EVR_ALERT_PEND, EVR_DROP, MOT_AX_STATUS a, MOT_AX_REMAIN a, MOT_AX_VACT a] s t
        else nothing t) ∧
      (∀ (i : Fin 16) (level : Bool), ∃ t, exec (.limitInputChange i level) s = .next t ∧
        t.limLvl = (if level then s.limLvl ||| 2 ^ i.val else s.limLvl ^^^ (s.limLvl &&& 2 ^ i.val)) ∧
        t.rdN PFB_LIM_ACT = (t.limLvl ^^^ s.rdN PFB_LIM_POL) % 65536 ∧
        sameRegs ([EVR_ALERT_PEND, EVR_DROP, PFB_LIM_ACT] ++ (List.range 8).map MOT_AX_STATUS) s t ∧
        sameBut [.axes, .limLvl] s t ∧
        ∀ p : Bool,
          let sel := if p then s.get (MOT_AX_LIMSEL_POS_SEL a) else s.get (MOT_AX_LIMSEL_NEG_SEL a)
          let meets := t.limActive a p = true ∧ bitOf (s.rdN PFB_LIM_ACT) (sel % 16) = false ∧ ready ∧
            if p then 0 < r.v else r.v < 0
          (meets → t.flag (if p then MOT_AX_STATUS_LIM_P a else MOT_AX_STATUS_LIM_N a) = true ∧ recorded s t 0x241 a ∧
            (t.ax a).stop = max r.stop (if (s.axEff a).flag (MOT_AX_CTRL_LIM_STOP a) then 2 else 1)) ∧
          (¬ meets → t.flag (if p then MOT_AX_STATUS_LIM_P a else MOT_AX_STATUS_LIM_N a) =
            s.flag (if p then MOT_AX_STATUS_LIM_P a else MOT_AX_STATUS_LIM_N a))) ∧
      (∀ (a b : Bool) (heldA heldB dt : Nat), ∃ t, exec (.qeCount q ⟨a, heldA⟩ ⟨b, heldB⟩ dt) s = .next t ∧
        inputs (PFB_QE_ILL_CNT q :: PFB_QE_SPEED q :: index) t ∧
        let na := s.qeLine q 0 a heldA
        let nb := s.qeLine q 1 b heldB
        let raw := BitVec.ofNat 3 (x.raw.toNat / 4 * 4 + (if a then 1 else 0) + (if b then 2 else 0))
        let d := (qeSeq na nb + 4 - qeSeq (bitOf lvl 0) (bitOf lvl 1)) % 4
        let up := (d == 1) != s.flag (PFB_QE_CFG_DIR q)
        let sp : Int := ((100000000 / orOne dt : Nat) : Int)
        (t.qe q).raw = raw ∧ (¬ live ∨ d = 0 → t.qe q = { x with raw := raw } ∧ sameRegs [EVR_DROP] s t) ∧
        (live → d ≠ 0 → (t.qe q).rejA = (if bitOf lvl 0 = na then x.rejA else 0) ∧
          (t.qe q).rejB = (if bitOf lvl 1 = nb then x.rejB else 0) ∧ t.get (PFB_QE_STATUS_LVL q) = lvl / 4 * 4 + (if na then 1 else 0) + (if nb then 2 else 0)) ∧
        (live → d = 2 → t.rd (PFB_QE_ILL_CNT q) = satInc (s.rd (PFB_QE_ILL_CNT q)) ∧ t.flag (PFB_QE_STATUS_ILLEGAL q) = true ∧
          recorded s t 0x248 q ∧ (s.flag (PFB_QE_CFG_IGATE q) = false → t.rd (PFB_QE_POS q) = pos)) ∧
        (live → d = 1 ∨ d = 3 → (t.qe q).seen = true ∧
          t.rd (PFB_QE_SPEED q) = (if x.seen then wordOf (if up then sp else -sp) else s.rd (PFB_QE_SPEED q)) ∧
          (s.flag (PFB_QE_CFG_IGATE q) = false → t.rd (PFB_QE_POS q) = if up then pos + 1 else pos - 1))) ∧
      (∀ (line : Fin 3) (held : Nat), ∃ t, exec (.qeReject q ⟨line, held⟩) s = .next t ∧
        if live ∧ held < orOne (s.get (PFB_QE_CFG_FILT q)) then t.rd (PFB_QE_REJ_CNT q) = satInc (s.rd (PFB_QE_REJ_CNT q)) ∧ t.qe q =
            { x with rejA := if line = 0 then x.rejA + 1 else x.rejA, rejB := if line = 1 then x.rejB + 1 else x.rejB } ∧
          inputs [PFB_QE_REJ_CNT q] t
        else nothing t) ∧
      (∀ line : Fin 2, ∃ t, exec (.qeOverspeed q line) s = .next t ∧
        if live ∧ 8 ≤ (if line = 0 then x.rejA else x.rejB) then
          t.flag (PFB_QE_STATUS_OVERSPEED q) = true ∧ recorded s t 0x24A q ∧
            t.qe q = (if line = 0 then { x with rejA := 0 } else { x with rejB := 0 }) ∧ inputs [] t
        else nothing t) ∧
      (∀ (i : Bool) (held : Nat), ∃ t, exec (.qeIndex q ⟨i, held⟩) s = .next t ∧ inputs index t ∧
        let level := s.qeLine q 2 i held
        let raw := BitVec.ofNat 3 (x.raw.toNat % 4 + if i then 4 else 0)
        (t.qe q).raw = raw ∧ (¬ live → t.qe q = { x with raw := raw } ∧ sameRegs [EVR_DROP] s t) ∧
        (live → t.get (PFB_QE_STATUS_LVL q) = lvl % 4 + if level then 4 else 0) ∧
        (live → level = false → (t.qe q).idx = false ∧ t.rd (PFB_QE_IDX_CNT q) = s.rd (PFB_QE_IDX_CNT q)) ∧
        (live → level = true → s.flag (PFB_QE_CFG_IGATE q) = false → bitOf lvl 2 = false →
          let d := sgn 32 (low 32 (pos.toInt - s.rdI (PFB_QE_IDX_POS q)))
          let c : Int := 4 * (s.rdN (PFB_QE_LINES q) % 2 ^ 20 : Nat)
          let tol : Int := (s.rdN (PFB_QE_IDX_TOL q) % 256 : Nat)
          t.rd (PFB_QE_IDX_CNT q) = s.rd (PFB_QE_IDX_CNT q) + 1 ∧ t.flag (PFB_QE_STATUS_IDX_SEEN q) = true ∧
          t.rd (PFB_QE_IDX_POS q) = t.rd (PFB_QE_POS q) ∧
          (s.flag (PFB_QE_STATUS_IDX_SEEN q) = true → c ≠ 0 → tol < d.natAbs → tol < ((d.natAbs : Int) - c).natAbs →
            t.rd (PFB_QE_IDX_ERR_CNT q) = satInc (s.rd (PFB_QE_IDX_ERR_CNT q)) ∧ recorded s t 0x249 q) ∧
          (s.flag (PFB_QE_CFG_REZERO q) = false ∨ s.flag (PFB_QE_STATUS_IDX_SEEN q) = false → t.rd (PFB_QE_POS q) = pos))) ∧
      (∀ line : Fin 3, ∃ t, exec (.qeStuck q line) s = .next t ∧
        if live ∧ bitOf (s.get (PFB_QE_CFG_STUCK_EN q)) line = true ∧ bitOf lvl line = true ∧ bitOf x.stuck.toNat line = false then
          bitOf (t.get (PFB_QE_STATUS_STUCK q)) line = true ∧ bitOf (t.qe q).stuck.toNat line = true ∧ recorded s t 0x24B q ∧
            inputs [] t
        else nothing t) ∧
      (∃ t, exec (.qeSpeedTimeout q) s = .next t ∧ t.rd (PFB_QE_SPEED q) = 0 ∧ sameRegs [EVR_DROP, PFB_QE_SPEED q] s t ∧
        sameBut [] s t) ∧
      (∃ t, exec (.eoStep e) s = .next t ∧
        let u := s.eoFollow e
        let d := u.eoTarget e - (u.eo e).n
        let n := (u.eo e).n + d.sign
        if s.get (PFB_EO_STATUS_STATE e) = 2 then
          t.eo e = { u.eo e with n := n } ∧ t.rd (PFB_EO_POS e) = (if d = 0 then s.rd (PFB_EO_POS e) else wordOf n) ∧
            t.flag (PFB_EO_STATUS_LAG e) = (s.flag (PFB_EO_STATUS_LAG e) || decide (16 < d.natAbs)) ∧
            (16 < d.natAbs → s.flag (PFB_EO_STATUS_LAG e) = false → recorded s t 0x24C e) ∧
            sameRegs [EVR_ALERT_PEND, EVR_DROP, PFB_EO_STATUS e, PFB_EO_POS e] s t ∧ sameBut [.eos] s t
        else nothing t)) ∧
    (s.up = true →
      (∀ raw : BitVec 3, ∃ t, exec (.qeEnable q raw v) s = .next t ∧ t.flag (PFB_QE_CFG_EN q) = true ∧
        let en := s.flag (PFB_QE_CFG_EN q)
        let st := s.get (PFB_QE_STATUS_STATE q)
        let old := s.rd (PFB_QE_CFG q)
        t.get (PFB_QE_STATUS_STATE q) = lifeNext en true st 1 0 ∧ t.rd (PFB_QE_CFG q) &&& qeGuarded = old &&& qeGuarded ∧
          (old &&& qeGuarded ≠ v &&& qeGuarded → t.flag (PFB_QE_STATUS_CFG_REFUSED q) = true ∧ recorded s t 0x24D q) ∧
          t.qe q = (if en = false ∧ st = 0 then { x with raw := raw } else x) ∧
          sameRegs ([PFB_QE_CFG q, PFB_QE_STATUS q] ++ wrRegs) s t ∧ sameBut [.qes] s t) ∧
      (∃ t, exec (.eoEnable e v) s = .next t ∧ t.flag (PFB_EO_CFG_EN e) = true ∧
        t.get (PFB_EO_STATUS_STATE e) = lifeNext (s.flag (PFB_EO_CFG_EN e)) true (s.get (PFB_EO_STATUS_STATE e)) 1 0 ∧
        sameRegs ([PFB_EO_CFG e, PFB_EO_STATUS e] ++ wrRegs) s t ∧ sameBut [] s t))

/-! ### The command function, Batches and the journal (R317 to R346) -/

/-- Frames (R318 to R328, R343, R474): a frame that fails the checks is dropped and counted; a frame for another device does
nothing here, nor does what a port in far-end loopback sends back; a broadcast goes up to the root first; a stale number is reported and refused; the last number again is a duplicate,
which returns the entry of the command and changes nothing; a new number is taken, and the command is rejected, queued for its
Volley, or carried out.

It rests also on the model's own choices of log entries 32, 35, 71, 75, 100, 112 and 118. -/
def Obligations.CommandFrames : Prop :=
  ∀ (s : State) (src : Fin 7) (y : List Byte) (m : Seen), ∀ row ∈ frameRows src y m, s.up = true → s.goPend = false →
    let nothing (t : State) : Prop := sameRegs [EVR_DROP] s t ∧ sameBut [.outbox] s t ∧
      t.outbox = s.outbox ++ (if src < 2 ∧ s.far src = true then [.farFrame src y] else [])
    ∃ t, exec row.1 s = .next t ∧
    (s.frameOf src y = none → if s.takes src = true then
      t.rd (NET_RX_FRAMES src) = s.rd (NET_RX_FRAMES src) + 1 ∧ t.rd (NET_RX_DROP src) = satInc (s.rd (NET_RX_DROP src)) ∧
        sameRegs [EVR_DROP, NET_RX_FRAMES src, NET_RX_DROP src] s t ∧ sameBut [] s t
      else nothing t) ∧
    ∀ peer f, s.frameOf src y = some (peer, f) →
      let c : QCmd := { src := src, frame := f, pkt := s.chainCopy src f, peer := peer, at_ := s.vnum }
      let reg := seqReg src f
      let d := s.seqAhead src f
      let w := s.spread (s.chainCopy src f)
      let mine := row.2 (frOp f) = true ∧ s.forMe src f = true
      let frame (ps : List Part) (t : State) : Prop := sameRegs (GLB_VOL_SCHED :: cmdRegs src) w t ∧ sameBut (.outbox :: .nets :: ps) w t
      let counted (t : State) : Prop := t.rd MGT_CMD_ACC_CNT = s.rd MGT_CMD_ACC_CNT + 1 ∧
        (src < 2 → t.rd (NET_RX_FRAMES src) = s.rd (NET_RX_FRAMES src) + 1)
      (s.accepts src f = true → ¬ mine → nothing t) ∧
      (s.takes src = false → nothing t) ∧
      (s.takes src = true → s.accepts src f = false →
        t.rd MGT_CMD_BAD_CNT = satInc (s.rd MGT_CMD_BAD_CNT) ∧ t.flag MGT_CMD_STATUS_BAD_FRAME = true ∧ recorded s t 0x340 0 ∧
          (src = 6 → t.flag MGT_CMD_GO_BUSY = false ∧ t.flag MGT_CMD_GO_DONE = true) ∧
          t.rd reg = s.rd reg ∧ t.rd MGT_JNL_WR = s.rd MGT_JNL_WR ∧ sameRegs (cmdRegs src) s t ∧ sameBut [] s t) ∧
      (∀ k, s.takes src = true → s.accepts src f = true → mine → s.chainCopy src f = some k → s.chainRoot = false →
        t.lnks = (s.lnkSend 0 (.pkt k) none).lnks ∧ t.outbox = (s.lnkSend 0 (.pkt k) none).outbox ∧ t.jnl = s.jnl ∧
          t.rd reg = s.rd reg ∧ t.rd MGT_CMD_ACC_CNT = s.rd MGT_CMD_ACC_CNT ∧ sameBut sendParts s t) ∧
      (s.commanded row.2 src y peer f →
        (frOp f ≠ 0x32 → 2 ^ 31 ≤ d →
          counted t ∧ t.rd MGT_CMD_STALE_CNT = satInc (s.rd MGT_CMD_STALE_CNT) ∧ recorded s t 0x342 0 ∧ t.rd reg = s.rd reg ∧
            answered src peer f 0 (.of rSTALE_SEQ (s.rdN reg)) s.vnum w t ∧ frame [.jnl] t) ∧
        (frOp f ≠ 0x32 → d = 0 → (opReads (frOp f) && cmdCheck f == 0) = false →
          let e := (s.entryOf c).getD (Config.noEntry s.fresh)
          let r := Reply.of rDUPLICATE (jnlF e 192 32 / 2 ^ 16 * 2 ^ 16 + jnlF e 160 16)
          counted t ∧ t.rd reg = s.rd reg ∧ t.rd MGT_JNL_WR = s.rd MGT_JNL_WR ∧
            replied src peer f (responseOf f r (jnlF e 224 32) (jnlF e 0 64)) w t ∧ frame [] t) ∧
        (∀ e, frOp f ≠ 0x32 → d = 0 → (opReads (frOp f) && cmdCheck f == 0) = true → s.entryOf c = some e →
          let u : State := if frOp f = 0x04 then { s with seen := m } else s
          let x := ((u.arrived src f).bumpWrap MGT_CMD_ACC_CNT).doOp f
          x.1.goPend = false →
            replied src peer f (responseOf f { x.2 with result := rDUPLICATE } (jnlF e 224 32) (jnlF e 0 64)) x.1 t) ∧
        (s.isNew src f → cmdCheck f ≠ 0 →
          counted t ∧ t.rdN reg = frSeq f ∧ answered src peer f 0 (.of (cmdCheck f)) s.vnum w t ∧ frame [.jnl] t) ∧
        (s.isNew src f → cmdCheck f = 0 → frTimed f = true → s.schedCheck f ≠ 0 →
          counted t ∧ t.rdN reg = frSeq f ∧ recorded s t 0x341 0 ∧ answered src peer f 0 (.of (s.schedCheck f)) s.vnum w t ∧
            frame [.jnl] t) ∧
        (s.isNew src f → cmdCheck f = 0 → frTimed f = true → s.schedCheck f = 0 →
          counted t ∧ t.rdN reg = frSeq f ∧ t.sched = s.sched ++ [c] ∧ t.get GLB_VOL_SCHED_USED = s.sched.length + 1 ∧
            answered src peer f 1 (.of rQUEUED) (frAt f) w t ∧ frame [.jnl, .sched] t))

/-- Commands that act at once (R322, R326, R327, R334, R338, R345, R568): each has its effect in the state in which its number has
been taken, is entered in the journal and answered; the reads and SESSION change nothing else, WRITE_REG writes its pairs in
order, WRITE_MEM writes DRAM, SNAP takes a snapshot, BATCH_ARM arms a Batch that is ready, BATCH_ABORT of an armed one ends it,
and CANCEL removes a queued command.

It rests also on the model's own choices of log entries 71, 73 and 75. -/
def Obligations.ImmediateCommands : Prop :=
  ∀ (s : State) (src : Fin 7) (y : List Byte) (m : Seen) (peer : Option EthPeer) (f : List Byte),
    ∀ row ∈ frameRows src y m, s.commanded row.2 src y peer f → s.isNew src f → cmdCheck f = 0 → frTimed f = false → frOp f ≠ 0x10 →
    (opEdge (frOp f) = false ∨ (frOp f = 0x15 ∧ s.get MGT_BATCH_STATUS_STATE = 3)) →
    let k := s.chainCopy src f
    let u : State := if frOp f = 0x04 ∨ frOp f = 0x05 then { s with seen := m } else s
    let x := (u.begun src f).doOp f
    let op := frOp f
    let a := argW f
    let addr := a 0 + a 1 % 256 * 2 ^ 32
    let bst := s.get MGT_BATCH_STATUS_STATE
    let r := x.2.result
    ∃ t, exec row.1 s = .next t ∧
      (x.1.goPend = false → answered src peer f 0 x.2 (if isReject r then s.vnum else x.1.vnum) (x.1.spread k) t ∧
        sameRegs (cmdRegs src) (x.1.spread k) t ∧ sameBut [.jnl, .outbox, .nets] (x.1.spread k) t) ∧
      (op = 0x01 ∨ op = 0x16 ∨ op = 0x31 ∨ op = 0x32 → r = rOK ∧ sameRegs (cmdRegs src) (s.spread k) t ∧
        sameBut [.jnl, .outbox, .nets] (s.spread k) t) ∧
      (op = 0x01 → x.2.data = leBytes 4 ((s.view GLB_IDENT).toNat) ++ leBytes 4 (s.get LNK_ADDR_ADDR) ++
        leBytes 4 (s.rdN GLB_VOL_NUM_LO) ++ leBytes 4 (s.rdN GLB_VOL_NUM_HI)) ∧
      (op = 0x32 → t.rdN (seqReg src f) = frSeq f) ∧
      (op = 0x02 → x.2.data = ((u.begun src f).readRegs (a 0) (a 1)).2 ∧ x.2.data.length = 4 * a 1) ∧
      (op = 0x03 → r = rOK ∧ x.2.detail = frLen f / 8 ∧
        (frLen f = 8 → x.1 = (u.begun src f).busWrite (a 0) (BitVec.ofNat 32 (a 1)))) ∧
      (op = 0x04 → r = rOK → x.2.data = ((u.begun src f).unitRead true addr (a 2)).2.2) ∧
      (op = 0x05 → t.dram = (u.unitWrite true addr ((frArgs f).drop 8)).1.dram ∧
        (r = rOK ↔ (u.unitWrite true addr ((frArgs f).drop 8)).2 = .ok) ∧ (r ≠ rOK → r = rMEM_ERR)) ∧
      (op = 0x06 → t.rd64 GLB_VOL_NUM_SN_LO = s.rd64 GLB_VOL_NUM_LO ∧
        ∀ b : Fin 32, t.rd64 (SCN_PT_CNT_SN_LO b) = s.rd64 (SCN_PT_CNT_LO b) ∧ t.rd64 (SCN_ON_CNT_SN_LO b) = s.rd64 (SCN_ON_CNT_LO b)) ∧
      (op = 0x11 → (bst ≠ 2 ∧ bst ≠ 3 → r = rBAD_STATE ∧ t.get MGT_BATCH_STATUS_STATE = bst) ∧
        (bst = 2 ∨ bst = 3 →
          (s.armOk = false → r = rREFUSED ∧ x.2.detail = 0xFFFFFFFF ∧ t.get MGT_BATCH_STATUS_STATE = bst) ∧
          (s.armOk = true → s.badBeams ≠ 0 → r = rREFUSED ∧ x.2.detail = s.badBeams ∧ t.get MGT_BATCH_STATUS_STATE = bst) ∧
          (s.armOk = true → s.badBeams = 0 → r = rOK ∧ t.get MGT_BATCH_STATUS_STATE = 3 ∧ (bst = 2 → recorded s t 0x343 0)))) ∧
      (op = 0x15 → r = rOK ∧ t.get MGT_BATCH_STATUS_STATE = 9 ∧ recorded s t 0x343 0 ∧
        t.sched = s.sched.filter fun q => !(frOp q.frame == 0x12)) ∧
      (op = 0x30 →
        let hit (q : QCmd) : Bool := q.src == a 0 && frSeq q.frame == a 1
        r = (if s.sched.any hit then rOK else rNOT_FOUND) ∧ t.sched = s.sched.filter fun q => !hit q)

/-- Commands that act at an edge, the loader, and the journal's mirror (R52 to R55, R320, R327, R333 to R344): untimed, such a command is
rejected at once, or waits for the next edge, or the one after once the deadline has passed; at its edge it acts and is answered. A
timed one acts at the edge of its Volley, the earlier of two first and before the untimed, and is entered in the journal. A load begins in the right
state and is answered at its end. GO submits the frame of the buffer; the mirror starts at the next entry and follows.

It rests also on the model's own choices of log entries 36, 71, 73, 74, 75, 76, 77, 106 and 112. -/
def Obligations.BatchCommands : Prop :=
  ∀ (s : State),
    let bst := s.get MGT_BATCH_STATUS_STATE
    (∀ (src : Fin 7) (y : List Byte) (m : Seen) (peer : Option EthPeer) (f : List Byte), ∀ row ∈ frameRows src y m,
      s.commanded row.2 src y peer f → s.isNew src f → cmdCheck f = 0 → frTimed f = false →
      let c : QCmd := { src := src, frame := f, pkt := s.chainCopy src f, peer := peer, at_ := s.vnum }
      let w := s.spread (s.chainCopy src f)
      (opEdge (frOp f) = true → ¬ (frOp f = 0x15 ∧ bst = 3) → ∃ t, exec row.1 s = .next t ∧
        let r := ((s.begun src f).doOp f).2
        t.rdN (seqReg src f) = frSeq f ∧ sameRegs (cmdRegs src) w t ∧
        if isReject r.result then answered src peer f 0 r s.vnum w t ∧ sameBut [.jnl, .outbox, .nets] w t
        else t.imm = s.imm ++ [(if s.late then 2 else 1, c)] ∧ sameBut [.imm] w t) ∧
      (frOp f = 0x10 → ∃ t, exec row.1 s = .next t ∧
        let bad := bst = 1 ∨ s.batchActive = true ∨ s.anyRunning = true
        (bad → answered src peer f 0 (.of rBAD_STATE) s.vnum w t ∧ t.load = s.load ∧ t.get MGT_BATCH_STATUS_STATE = bst) ∧
        (¬ bad → t.get MGT_BATCH_STATUS_STATE = 1 ∧ recorded s t 0x343 0 ∧
          t.load = some { cmd := c, desc := [], map := false, pools := [], edges := none } ∧
          t.sched = s.sched.filter (fun q => !(frOp q.frame == 0x12)) ∧
          ((∀ q ∈ s.sched, frOp q.frame ≠ 0x12) → answered src peer f 1 (.of rQUEUED) (frAt f) w t)) ∧
        sameRegs (MGT_BATCH_STATUS :: GLB_VOL_SCHED :: cmdRegs src) w t ∧ sameBut [.jnl, .outbox, .nets, .sched, .load] w t)) ∧
    (∀ (c : QCmd), c.pkt = none → c.src < 7 → s.imm = [(1, c)] →
      let x := State.doOp { s with imm := [] } c.frame
      answered c.src c.peer c.frame 0 x.2 (if isReject x.2.result then c.at_ else x.1.vnum) x.1 s.immEdge ∧ s.immEdge.imm = []) ∧
    (∀ (v : Nat) (c : QCmd) (l : List QCmd), (s.sched.filter fun q => frAt q.frame == v) = c :: l →
      let u : State := { s with sched := s.sched.erase c }
      let x := u.schedShow.doOp c.frame
      let i := x.1.rdN MGT_JNL_WR
      let t := State.timedOne v s c
      t.jnlAt i = jnlEntry c.src c.frame 2 x.2.result x.2.detail v i ∧ t.rd MGT_JNL_WR = x.1.rd MGT_JNL_WR + 1 ∧
        sameRegs jnlRegs x.1 t ∧ sameBut [.jnl] x.1 t ∧ u.schedShow.get GLB_VOL_SCHED_USED = (s.sched.length - 1) % 128 ∧
        ((t.sched.filter fun q => frAt q.frame == v) = l → s.timedEdge v = t.timedEdge v) ∧
        (l = [] → s.timedEdge v = t)) ∧
    (∀ v, let t := (s.timedEdge v).immEdge
      (∀ b : Fin 32, (t.eng b).first = false) → s.edgeCmds v = t) ∧
    (∀ (f : List Byte),
      let a := argW f
      let x := s.doOp f
      let r := x.2.result
      (frOp f = 0x12 → (bst ≠ 3 → x = (s, .of rBAD_STATE)) ∧
        (bst = 3 → s.armOk = true → s.badBeams ≠ 0 → r = rFAILED ∧ x.2.detail = s.badBeams ∧
          x.1.rdN MGT_BATCH_FAIL = s.badBeams % 2 ^ 32 ∧ x.1.get MGT_BATCH_STATUS_STATE = 3) ∧
        (bst = 3 → s.armOk = false → r = rFAILED ∧ x.1.rd MGT_BATCH_FAIL = s.rd MGT_BATCH_MASK) ∧
        (bst = 3 → s.armOk = true → s.badBeams = 0 → r = rOK ∧ x.1.get MGT_BATCH_STATUS_STATE = 4 ∧
          x.1.rd64 MGT_BATCH_START_VOL_LO = s.vnum ∧
          ∀ b : Fin 32, s.inBatch b = true → x.1.running b = true ∧ x.1.flag (BIO_STATUS_SAFE b) = false ∧
            x.1.flag (BIO_STATUS_PARKED b) = false ∧ x.1.rd (SCN_SLIP b) = 0 ∧ x.1.flag (SCN_STATUS_HALTED b) = false)) ∧
      (frOp f = 0x13 → (bst ≠ 4 → x = (s, .of rBAD_STATE)) ∧
        (bst = 4 → r = rOK ∧ ∀ b : Fin 32, x.1.eng b = (if s.inBatch b && s.running b then
          { s.eng b with holdReq := a 0 + 1, holdN := s.vnum, holdMax := a 1 } else s.eng b)) ∧
        (bst = 4 → (∃ b : Fin 32, s.inBatch b = true ∧ s.running b = true ∧ (s.eng b).paused = false) →
          x.1.get MGT_BATCH_STATUS_STATE = 5)) ∧
      (frOp f = 0x14 → (bst ≠ 5 ∧ bst ≠ 6 → x = (s, .of rBAD_STATE)) ∧
        (bst = 5 ∨ bst = 6 → r = rOK ∧ x.1.get MGT_BATCH_STATUS_STATE = 4 ∧
          ∀ b : Fin 32, x.1.eng b = (if s.inBatch b then { s.eng b with paused := false, holdReq := 0 } else s.eng b))) ∧
      (frOp f = 0x15 → (bst ≠ 3 → s.batchActive = false → x = (s, .of rBAD_STATE)) ∧
        (s.batchActive = true → r = rOK ∧ x.1.get MGT_BATCH_STATUS_STATE = 9 ∧
          (a 0 = 0 → ∀ b : Fin 32, s.inBatch b = true → stopAsked b 1 s x.1) ∧
          (a 0 ≠ 0 → ∀ b : Fin 32, s.inBatch b = true → s.running b = true →
            if (s.eng b).stopped = true then x.1.eng b = { s.eng b with paused := false, holdReq := 0 }
            else (x.1.eng b).halting = true ∧ x.1.rdN (SCN_HALT_CODE b) = 0xFFFF))) ∧
      (frOp f = 0x20 → r = rOK ∧ (∀ b : Fin 32, if bitOf (a 0) b then stopAsked b 1 s x.1 else x.1.beam b = s.beam b) ∧
        ∀ b : Fin 32, bitOf x.2.detail b = (bitOf (a 0) b && !s.flag (BIO_STATUS_SAFE b) &&
          ((s.beam b).ssPend == 0 || bitOf s.ssNow b))) ∧
      (∀ b : Fin 32, frOp f = 0x21 → a 0 = b →
        let force := s.flag SAF_ILK_STATUS_FORCE = true
        let refused := force ∨ s.flag (BIO_STATUS_PARKED b) = false ∨ s.isReady (BIO_STATUS_STATE b) = false
        (a 1 = 1 → s.inBatch b = false → x = (s, .of rBAD_ARG)) ∧
        (a 1 = 1 → s.inBatch b = true → s.batchActive = false → bst ≠ 8 → x = (s, .of rBAD_STATE)) ∧
        (a 1 ≠ 1 → refused → x = (s, .of rREFUSED (if force then 0xFFFFFFFF else 2 ^ b.val))) ∧
        (a 1 ≠ 1 → ¬ refused → r = rOK ∧ x.1.flag (BIO_STATUS_SAFE b) = false ∧ x.1.flag (BIO_STATUS_PARKED b) = false ∧
          sameRegs [BIO_STATUS b] s x.1) ∧
        (a 1 = 1 → s.inBatch b = true → (s.batchActive = true ∨ bst = 8) → ¬ refused → r = rOK ∧
          x.1.flag (BIO_STATUS_SAFE b) = false ∧ (s.isReady (SCN_STATUS_STATE b) = true → x.1.running b = true ∧
            (x.1.eng b).paused = (bst == 5 || bst == 6)) ∧ (bst = 8 → x.1.get MGT_BATCH_STATUS_STATE = 4)))) ∧
    (∀ (m : Seen), s.alive = true → ∃ t, exec (.batchLoadDone m) s = .next t ∧
      ((s.load = none ∨ ∃ l, s.load = some l ∧ l.desc ≠ []) → sameRegs [EVR_DROP] s t ∧ sameBut [] s t) ∧
      ∀ l, s.load = some l → l.desc = [] →
        let i := s.rdN MGT_JNL_WR
        let at_ := leNat ((frArgs l.cmd.frame).take 8)
        let head := State.unitRead { s with seen := m } true at_ 64
        let fails (code detail : Nat) : Prop := t.load = none ∧ t.get MGT_BATCH_STATUS_STATE = 10 ∧
          t.flag MGT_CMD_STATUS_LOAD_ERR = true ∧ recorded s t 0x346 0 ∧
          t.jnlAt i = jnlEntry l.cmd.src l.cmd.frame 2 code detail s.vnum i
        (at_ % 64 ≠ 0 → fails rDESC_ERR 0 ∧ sameBut [.load, .jnl] s t) ∧
        (at_ % 64 = 0 → head.2.1 ≠ .ok → fails rMEM_ERR 0) ∧
        (at_ % 64 = 0 → head.2.1 = .ok →
          let n := 64 * (dscBeams head.2.2).length + 16 * (dscPools head.2.2).length
          let rest := head.1.unitRead true (at_ + 64) n
          let d := head.2.2 ++ rest.2.2
          (rest.2.1 ≠ .ok → fails rMEM_ERR 0) ∧
          (∀ o, rest.2.1 = .ok → dscFault d = some o → fails rDESC_ERR o) ∧
          (rest.2.1 = .ok → dscFault d = none → dscPools d = [] → dscN d 24 5 = 0 →
            (∀ b ∈ dscBeams d, s.running b = false ∧ dscN d (64 + 64 * ((dscBeams d).filter (· < b)).length + 8) 4 = 0) →
            t.load = none ∧ t.get MGT_BATCH_STATUS_STATE = 2 ∧ t.rdN MGT_BATCH_MASK = dscN d 12 4 ∧ t.rdN MGT_BATCH_ID = dscN d 4 4 ∧
              t.rdN MGT_BATCH_LAYER = dscN d 8 4 ∧ t.batchPools = 0 ∧ t.mapBad = false ∧ t.rd MGT_BATCH_SAFE = 0 ∧
              t.jnlAt i = jnlEntry l.cmd.src l.cmd.frame 2 rOK 0 s.vnum i))) ∧
    (∀ v : Word, s.up = true → s.goPend = false →
      (∃ t, exec (.mgtCmdGo v) s = .next t ∧
        (s.flag MGT_CMD_GO_BUSY = true → sameRegs (MGT_CMD_GO :: wrRegs) s t ∧ sameBut [] s t) ∧
        (s.flag MGT_CMD_GO_BUSY = false → s.accepts 6 s.bufFrame = false →
          t.rd MGT_CMD_BAD_CNT = satInc (s.rd MGT_CMD_BAD_CNT) ∧ t.flag MGT_CMD_GO_BUSY = false ∧ t.flag MGT_CMD_GO_DONE = true ∧
            recorded s t 0x340 0 ∧ sameRegs (cmdRegs 6) s t ∧ sameBut [] s t) ∧
        (s.flag MGT_CMD_GO_BUSY = false → s.accepts 6 s.bufFrame = true → frBcast s.bufFrame = false → s.seqAhead 6 s.bufFrame = 0 →
          frOp s.bufFrame ≠ 0x32 → t.flag MGT_CMD_GO_BUSY = false ∧ t.flag MGT_CMD_GO_DONE = true ∧
            t.rd MGT_CMD_ACC_CNT = s.rd MGT_CMD_ACC_CNT + 1)) ∧
      (∃ t, exec (.journalMirrorEnable v) s = .next t ∧ t.flag MGT_JNL_MIR_HI_EN = true ∧
        t.rd MGT_JNL_MIR_WR = (if s.flag MGT_JNL_MIR_HI_EN then s.rd MGT_JNL_MIR_WR else s.rd MGT_JNL_WR) ∧
        sameRegs ([MGT_JNL_MIR_HI, MGT_JNL_MIR_WR] ++ wrRegs) s t ∧ sameBut [] s t)) ∧
    (∀ m : Seen, s.alive = true → ∃ t, exec (.journalMirrorWrite m) s = .next t ∧
      let i := s.rdN MGT_JNL_MIR_WR
      let y := State.unitWrite { s with seen := m } true (s.rdN MGT_JNL_MIR_LO / 4096 * 4096 + s.get MGT_JNL_MIR_HI_ADDR * 2 ^ 32 + i % 8192 * 32)
        (leBytes 32 (s.jnlAt i).toNat)
      if s.flag MGT_JNL_MIR_HI_EN = true ∧ i ≠ s.rdN MGT_JNL_WR ∧ y.2 ≠ .frozen then
        t.rd MGT_JNL_MIR_WR = s.rd MGT_JNL_MIR_WR + 1 ∧ t.dram = y.1.dram ∧ sameRegs (MGT_JNL_MIR_WR :: dramRegs) s t ∧
          sameBut dramParts s t
      else sameRegs [EVR_DROP] s t ∧ sameBut [] s t)

/-! ### The device's edge (R563 to R590, R603 to R618) -/

/-- Register accesses from outside (R13, R17, R563, R564, R580, R582, R587, R588, R616): a write takes effect while the fabric
accepts it, at an aligned offset that a register or a memory window occupies; the SPI target port writes and reads words the same
way; an access that times out is counted, a read giving all ones; a misaligned read gives 0; the keys of the test unlock and of the software reset act in their order alone.

It rests also on the model's own choices of log entries 7, 39, 80 and 103. -/
def Obligations.RegisterAccesses : Prop :=
  ∀ (s : State) (off : BitVec 24) (v : Word), s.alive = true →
    let o := off.toNat
    let nothing (t : State) : Prop := sameRegs [EVR_DROP] s t ∧ sameBut [] s t
    let writes (P : State → Prop) : Prop := ∀ same : Bool, ∃ t, exec (.registerWrite off ⟨v, same⟩) s = .next t ∧ P t
    let timeout (t : State) : Prop := t.rd GLB_FAB_TO_CNT = satInc (s.rd GLB_FAB_TO_CNT) ∧ recorded s t 0x020 0 ∧
      sameRegs [EVR_ALERT_PEND, EVR_DROP, GLB_FAB_TO_CNT] s t ∧ sameBut [] s t
    let cleared (f : Fld) (t : State) : Prop := t.flag f = (s.flag f && !bitOf v.toNat f.lo)
    (∀ w : Bool, ∃ t, exec (.fabricTimeout off w) s = .next t ∧ (s.fabricUp = false → nothing t) ∧
      (s.fabricUp = true → t.rd GLB_FAB_TO_CNT = satInc (s.rd GLB_FAB_TO_CNT) ∧ recorded s t 0x020 0 ∧
        t.outbox = s.outbox ++ (if w then [] else [.timedOut o]) ∧
        sameRegs [EVR_ALERT_PEND, EVR_DROP, GLB_FAB_TO_CNT] s t ∧ sameBut [.outbox] s t)) ∧
    (s.goPend = false →
      (s.fabricUp = false ∨ o % 4 ≠ 0 → writes nothing) ∧
      (s.fabricUp = true → o % 4 = 0 → s.dark o = true → writes timeout) ∧
      (s.fabricUp = true → o % 4 = 0 → s.dark o = false → regDesc o = none → ¬ (0x300000 ≤ o ∧ o < 0x500000) →
        writes fun t => sameRegs wrRegs s t ∧ sameBut [] s t) ∧
      (s.fabricUp = true → o % 4 = 0 → 0x300000 ≤ o → o < 0x500000 → writes fun t =>
        (∀ a, memGet t.lmem a = if o ≤ a ∧ a < o + 4 then BitVec.ofNat 8 (v.toNat / 256 ^ (a - o)) else memGet s.lmem a) ∧
          sameRegs wrRegs s t ∧ sameBut [.lmem] s t) ∧
      (∀ i : Fin 256, s.fabricUp = true → o = MGT_CMD_BUF i → writes fun t => t.rd (MGT_CMD_BUF i) = v ∧
        sameRegs (MGT_CMD_BUF i :: wrRegs) s t ∧ sameBut [] s t) ∧
      (∀ l : Fin 12, s.fabricUp = true → s.laneDark = false → o = LANE_STATUS l → writes fun t =>
        cleared (LANE_STATUS_LOS l) t ∧ cleared (LANE_STATUS_LOL l) t ∧ cleared (LANE_STATUS_BLK_LOSS l) t ∧
          cleared (LANE_STATUS_CFG_REFUSED l) t ∧ t.rd (LANE_STATUS l) &&& 0xFFFFF0FF#32 = s.rd (LANE_STATUS l) &&& 0xFFFFF0FF#32 ∧
          sameRegs (LANE_STATUS l :: wrRegs) s t ∧ sameBut [] s t)) ∧
    (s.goPend = false → o % 4 = 0 →
      exec (.spiTargetTransaction (2 :: beBytes 3 o ++ beBytes 4 v.toNat) 0) s = exec (.registerWrite off ⟨v, false⟩) s) ∧
    (∀ (mosi : List Byte) (n : Nat), ∃ t, exec (.spiTargetTransaction mosi n) s = .next t ∧
      let at_ := beNat ((mosi.drop 1).take 3)
      let cmd := (mosi.getD 0 0).toNat
      let r := s.spiRead at_ n
      (mosi.length < 4 ∨ at_ % 4 ≠ 0 ∨ (cmd ≠ 2 ∧ cmd ≠ 3) ∨ (cmd = 2 ∧ mosi.length % 4 ≠ 0) →
        t.outbox = s.outbox ++ [.spiHigh] ∧ sameRegs [EVR_DROP] s t ∧ sameBut [.outbox] s t) ∧
      (4 ≤ mosi.length → at_ % 4 = 0 → cmd = 3 →
        t.outbox = r.1.outbox ++ [.spi (0xA5 :: r.2)] ∧ r.2.length = 4 * n ∧ (n = 1 → r.2 = beBytes 4 (s.busRead at_).2.toNat) ∧
          (s.fabricUp = false → r.2 = List.replicate (4 * n) 0xFF ∧ r.1 = s ∧ sameRegs [EVR_DROP] s t ∧ sameBut [.outbox] s t))) ∧
    (s.fabricUp = true → o % 4 ≠ 0 → s.busRead o = (s, 0)) ∧ (s.fabricUp = false → (s.busRead o).2 = 0xFFFFFFFF#32) ∧
    (s.fabricUp = true → o % 4 = 0 → s.dark o = true → s.busRead o = (s.fabTimeout o, 0xFFFFFFFF#32)) ∧
    (∃ t, exec (.take v) s = .next t ∧ (s.fabricUp = false → nothing t) ∧
      (s.fabricUp = true → t.rd64 GLB_VOL_NUM_SN_LO = s.rd64 GLB_VOL_NUM_LO ∧
        (∀ b : Fin 32, t.rd64 (SCN_PT_CNT_SN_LO b) = s.rd64 (SCN_PT_CNT_LO b) ∧ t.rd64 (SCN_ON_CNT_SN_LO b) = s.rd64 (SCN_ON_CNT_LO b)) ∧
        (∀ l : Fin 12, t.rd64 (LANE_PRBS_BITS_SN_LO l) = s.rd64 (LANE_PRBS_BITS_LO l) ∧
          t.rd64 (LANE_PRBS_ERR_SN_LO l) = s.rd64 (LANE_PRBS_ERR_LO l)) ∧
        t.rd64 GLB_SNAP_TSEC_LO = (s.tb 0).sec % 2 ^ 64 ∧ t.rd GLB_SNAP_TNS = BitVec.ofNat 32 (s.tb 0).ns ∧
        t.rd GLB_SNAP_SEQ = s.rd GLB_SNAP_SEQ + 1 ∧ sameRegs (snapRegs ++ wrRegs) s t ∧ sameBut [] s t)) ∧
    (s.fabricUp = true →
      (∃ t, exec (.glbSwrst v) s = .next t ∧ t.swrst = (s.swrst || v == 0x00005E7B#32) ∧ sameRegs wrRegs s t ∧ sameBut [.swrst] s t) ∧
      (∃ t, exec (.tstUnlock v) s = .next t ∧ t.tstArmed = (!(s.tstArmed && v == 0x00000A11#32) && v == 0x00007E57#32) ∧
        (s.tstArmed = true → v = 0x00000A11#32 → t.flag TST_STATUS_UNLOCKED = true ∧ recorded s t 0x380 0) ∧
        (s.tstArmed = true → v ≠ 0x00000A11#32 → recorded s t 0x382 0) ∧
        (v = 0 → t.flag TST_STATUS_UNLOCKED = false ∧ (s.flag TST_STATUS_UNLOCKED = true → t.rd TST_VPHASE = 0 ∧
          recorded s t 0x381 0 ∧ ∀ k : Fin 8, t.flag (TST_PT_CFG_EN k) = false)) ∧
        (v ≠ 0 → v ≠ 0x00000A11#32 → t.flag TST_STATUS_UNLOCKED = s.flag TST_STATUS_UNLOCKED) ∧
        sameRegs (TST_VPHASE :: (List.range 8).map TST_PT_CFG ++ wrRegs) s t ∧ sameBut [] s t))

/-- Device resets (R579 to R581, R588, R603, R607, R610): each leaves the machine as State.reset does but for what it does not reach;
the straps are sampled by PORST_N, and SYSRST_N and the software reset keep the records, the journal and the sequence numbers; while
a reset is held nothing else happens but at the pins of the interlocks and of the test port. A reset cuts an update short: the fuse
counter then stands between its old count and the new one, and of the key hash no bit is blown that the hash does not have.

It rests also on the model's own choices of log entries 37, 38, 40, 66, 83 and 103. -/
def Obligations.DeviceResets : Prop :=
  ∀ s : State,
    let straps (t : State) : Prop := t.bootSel = s.bootSel ∧ t.chainRoot = s.chainRoot
    let system (last : Nat) (t : State) : Prop :=
      resetDone last [.bootSel, .chainRoot, .recs, .jnl] ([MGT_FW_STATUS, EVR_WR, EVR_DROP, MGT_JNL_WR] ++ (List.range 9).map MGT_SEQ) s t ∧
        straps t ∧ t.recs = s.recs ∧ t.jnl = s.jnl ∧ t.rd EVR_WR = s.rd EVR_WR ∧ t.rd EVR_DROP = s.rd EVR_DROP ∧
        t.rd MGT_JNL_WR = s.rd MGT_JNL_WR ∧ (∀ i : Fin 9, t.rd (MGT_SEQ i) = s.rd (MGT_SEQ i)) ∧
        t.rd MGT_FW_STATUS = 0x100 ∧ t.get GLB_RST_CAUSE_SYS_CNT = min 65535 (s.get GLB_RST_CAUSE_SYS_CNT + 1) ∧ recorded State.reset t 0x021 0
    let k := s.get MGT_FW_STATUS_SLOT
    (s.upd = none → s.updCut = s) ∧
    (∀ op a n, s.upd = some (op, a, n) → s.fuses ≤ s.updCut.fuses ∧
      s.updCut.fuses ≤ (if op = 1 then max s.fuses (hdrN (s.slot k).img 8 1) else s.fuses) ∧
      (op = 0 → s.updCut.keyhash = s.keyhash ∧ s.updCut.slot k = s.slot k) ∧
      (op = 1 → s.updCut.keyhash = s.keyhash ∧ ((s.updCut.slot k).st = (s.slot k).st ∨ (s.updCut.slot k).st = .confirmed)) ∧
      (op = 2 → s.updCut.fw = s.fw ∧ (s.keyhash ≠ 0 → s.updCut.keyhash = s.keyhash) ∧
        (s.keyhash = 0 → s.updCut.keyhash &&& leNat (s.unitRead true a 32).2.2 = s.updCut.keyhash))) ∧
    (∀ (sel : BitVec 2) (root : Bool), ∃ t, exec (.porstN sel root) s = .next t ∧ resetDone 0 [.bootSel, .chainRoot] [] s t ∧
      t.bootSel = sel.toNat ∧ t.chainRoot = root) ∧
    (s.alive = true → ∃ t, exec .sysrstN s = .next t ∧ system 1 t) ∧
    (s.alive = true → s.swrst = true → ∃ t, exec .softwareReset s = .next t ∧ system 2 t) ∧
    (s.alive = true → s.swrst = false → ∃ t, exec .softwareReset s = .next t ∧ sameRegs [EVR_DROP] s t ∧ sameBut [] s t) ∧
    (s.supplyHeld = false → ∃ t, exec .supplyDetectorReset s = .next t ∧ t.supplyHeld = true ∧ straps t ∧
      resetDone 0 [.bootSel, .chainRoot, .supplyHeld] [] s t) ∧
    (s.supplyHeld = true → exec .supplyDetectorReset s = .next s) ∧
    exec .supplyDetectorRelease s = .next { s with supplyHeld := false } ∧
    (s.clockLost = false → ∃ t, exec .clockLoss s = .next t ∧ t.clockLost = true ∧ straps t ∧
      resetDone 3 [.bootSel, .chainRoot, .clockLost] [] s t) ∧
    (s.clockLost = true → exec .clockLoss s = .next s) ∧
    exec .refclk25Restored s = .next { s with clockLost := false } ∧
    (s.alive = false →
      (∀ i : Fin 4, exec (.ilkOpen i) s = .next (s.ilkPin i false) ∧ exec (.ilkClose i) s = .next (s.ilkPin i true) ∧
        ∀ high, (s.ilkPin i high).flag ⟨SAF_ILK_STATUS, i, 1⟩ = high ∧ bitOf (s.ilkPin i high).ilkLvl i = high) ∧
      ∀ i : Instr,
        (match i with
          | .porstN _ _ | .supplyDetectorReset | .supplyDetectorRelease | .clockLoss | .refclk25Restored | .testAccessPort _
          | .ilkOpen _ | .ilkClose _ => True
          | _ => exec i s = .next s))

/-- The start of the fabric, the loss of REFCLK_156, and the test access port (R457, R470, R582, R610, R618): the fabric's start makes
the command function and the time bases READY and starts the lanes; a stopped REFCLK_156 takes the READY lanes back to STARTING and
their ports out of ACTIVE, and the lane registers no longer answer; the test port reaches no register and opens no laser,
and SAMPLE and EXTEST capture the levels at the balls.

It rests also on the model's own choices of log entries 40 and 103. -/
def Obligations.FabricStartAndTestPort : Prop :=
  ∀ s : State,
    let captured (t : State) (ball : Nat) (x : Bool) : Bool :=
      if t.tapDrive = true ∧ cellDrives ball = true then tabGet (fun _ => false) t.tapCells ball
      else match cellBall ball with
        | .signal (.beam b) 6 => (t.beam b).gate
        | .signal .system j => if j = 10 ∧ t.get MGT_FW_STATUS_FSTATE ≠ 1 then true
          else if 12 ≤ j ∧ j < 16 then bitOf t.ilkLvl (j - 12)
          else if j = 21 then t.rd EVR_ALERT_PEND &&& t.rd EVR_ALERT_MASK == 0 else x
        | _ => x
    (s.alive = true →
      (∃ t, exec .internalPllLock s = .next t ∧ (s.fabricUp = true → sameRegs [EVR_DROP] s t ∧ sameBut [] s t) ∧
        (s.fabricUp = false → t.fabricUp = true ∧ t.get MGT_CMD_STATUS_STATE = 2 ∧
          (∀ n : Fin 4, t.get (TIM_TB_STATUS_STATE n) =
            if s.flag (TIM_TB_CTRL_EN n) then 2 else s.get (TIM_TB_STATUS_STATE n)) ∧
          (∀ p : Fin 4, s.flag (LNK_CTRL_EN p) = true → t.get (LNK_STATUS_LSTATE p) = 1) ∧
          (∀ l : Fin 12, s.isOff (LANE_STATUS_STATE l) = true → s.laneOn l = true → t.get (LANE_STATUS_STATE l) = 1) ∧
          sameRegs ([EVR_ALERT_PEND, EVR_DROP, MGT_CMD_STATUS] ++ laneRegs ++
            ((List.range 4).flatMap fun n => [TIM_TB_STATUS n, LNK_STATUS n])) s t ∧ sameBut [.fabricUp, .lanes, .lnks, .outbox] s t ∧
          ((∀ l : Fin 12, s.isReady (LANE_STATUS_STATE l) = false) → t.outbox = s.outbox))) ∧
      (∃ t, exec .refclk156Loss s = .next t ∧
        (∀ l : Fin 12, t.get (LANE_STATUS_STATE l) =
          if s.isReady (LANE_STATUS_STATE l) then 1 else s.get (LANE_STATUS_STATE l)) ∧
        (∀ p : Fin 4, s.lnkActive p = true →
          if ∃ l : Fin 12, s.isReady (LANE_STATUS_STATE l) = true ∧ s.lnkOf l = some p.val then lnkFell p s t
          else t.lnkActive p = true) ∧
        t.laneDark = true ∧ sameRegs (laneRegs ++ fallRegs) s t ∧ sameBut [.lnks, .outbox, .exch, .laneDark] s t)) ∧
    (∀ op : TapOp,
      (s.supplyHeld = true → exec (.testAccessPort op) s = .next s) ∧
      (s.supplyHeld = false → ∃ t, exec (.testAccessPort op) s = .next t ∧ sameRegs [] s t ∧
        sameBut [.tapUp, .tapCells, .tapDrive, .outbox] s t ∧ t.tapUp = (op == .trstHigh || (s.tapUp && op != .trstLow)) ∧
        (∀ c, cellDrives c = false → t.extestLevel c = none) ∧
        (op = .trstLow → t.tapDrive = false ∧ t.outbox = s.outbox) ∧
        (s.tapUp = false → op ≠ .trstLow → op ≠ .trstHigh → t = s) ∧
        (s.tapUp = true → op = .idcode → t.tapDrive = false ∧ t.outbox = s.outbox ++ [.tdo (bitsOf 32 0x13248CA3)]) ∧
        (∀ bits, s.tapUp = true → op = .bypass bits → t.tapDrive = false ∧ t.outbox = s.outbox ++ [.tdo (false :: bits)]) ∧
        (∀ ball x, s.tapUp = true → op = .sample [(ball, x)] → t.tapDrive = false ∧
          t.outbox = s.outbox ++ [.tdo (if hasCell (cellBall ball) then [captured t ball x] else [])]) ∧
        (∀ c x, s.tapUp = true → op = .preload [(c, x)] → cellDrives c = true → tabGet (fun _ => false) t.tapCells c = x) ∧
        (∀ ball x, s.tapUp = true → op = .extest [(ball, x)] → t.tapDrive = true ∧ t.tapCells = s.tapCells ∧
          t.outbox = s.outbox ++ [.tdo (if hasCell (cellBall ball) then [captured t ball x] else [])]) ∧
        (∀ pins, s.tapUp = true → op = .extest pins → t.tapDrive = true ∧ t.tapCells = s.tapCells ∧
          ∃ l, t.outbox = s.outbox ++ [.tdo l] ∧ l.length = (pins.filter fun x => hasCell (cellBall x.1)).length)))

/-! ### Lanes, Colud Link and Ethernet (R456 to R493) -/

/-- Lanes and Ethernet ports (R456 to R465, R467, R470, R486, R487): a lane follows its own EN and its port's; its PLL's lock makes
it READY, and with the last lane of a link port lets that send TRAIN blocks; loss of signal, lock or blocks is latched, counted and reported, and takes an ACTIVE link port back to DETECT; header
hunt and SLIP move the block boundary; the eye reads 0 without lock; the test patterns and what loopback
returns leave by the lane, and the PRBS checker counts while it is in sync; an Ethernet port
starts with its lane unless its configuration is bad, and its LINK rises and falls.

It rests also on the model's own choices of log entries 7, 27, 60, 61, 63 and 103. -/
def Obligations.SerialLanes : Prop :=
  ∀ (s : State) (l : Fin 12) (e : Fin 2) (v : Word),
    let st := s.get (LANE_STATUS_STATE l)
    let r := s.lane l
    let nothing (t : State) : Prop := sameRegs [EVR_DROP] s t ∧ sameBut [] s t
    let lanes (regs : List Nat) (ps : List Part) (t : State) : Prop :=
      (∀ k, k ≠ l.val → t.lane k = s.lane k) ∧ sameRegs (LANE_STATUS l :: EVR_DROP :: regs) s t ∧ sameBut ps s t
    let falls (t : State) : Prop := ∀ p, s.lnkOf l = some p →
      (s.lnkActive p = true → lnkFell p s t) ∧ (s.lnkActive p = false → t.rd (LNK_STATUS p) = s.rd (LNK_STATUS p) ∧ t.lnks = s.lnks)
    let fr (regs : List Nat) (ps : List Part) (t : State) : Prop :=
      sameRegs (LANE_STATUS l :: regs ++ fallRegs) s t ∧ sameBut ([.lnks, .outbox, .exch] ++ ps) s t
    let seeded (x : Lane) : Lane := { x with par := if x.par = 0 then 2 ^ 31 - 1 else x.par }
    let portOn := (s.setFlag (LANE_CTRL_EN l) false).laneOn l
    let old := s.rd (LANE_CTRL l)
    let wrote (x : Word) (t : State) : Prop :=
      let now := t.rd (LANE_CTRL l)
      let bad := (st ≠ 0 ∧ old &&& 0x36#32 ≠ x &&& 0x36#32) ∨ (s.portOff l = false ∧ old &&& 0x300#32 ≠ x &&& 0x300#32)
      now &&& 0x36#32 = (if st = 0 then x else old) &&& 0x36#32 ∧ now &&& 0x300#32 = (if s.portOff l then x else old) &&& 0x300#32 ∧
        (bad → t.flag (LANE_STATUS_CFG_REFUSED l) = true ∧ recorded s t 0x1C4 l)
    let nst := s.get (NET_STATUS_STATE e)
    let settled := ∀ k : Fin 12, k.val ≠ e.val → s.laneSettled k
    (s.up = true → s.laneDark = true → ∀ cmd ∈ [Instr.laneEnable l v, .laneDisable l v, .slip l v, .inj l v],
      ∃ t, exec cmd s = .next t ∧ t.rd GLB_FAB_TO_CNT = satInc (s.rd GLB_FAB_TO_CNT) ∧ recorded s t 0x020 0 ∧
        sameRegs [EVR_ALERT_PEND, EVR_DROP, GLB_FAB_TO_CNT] s t ∧ sameBut [] s t) ∧
    (s.up = true → s.laneDark = false →
      (∃ t, exec (.laneEnable l v) s = .next t ∧ t.flag (LANE_CTRL_EN l) = true ∧ wrote (v ||| 1) t ∧
        t.get (LANE_STATUS_STATE l) = (if st = 0 then 1 else st) ∧ lanes ([LANE_CTRL l, LANE_RX_EQ l] ++ wrRegs) [.lanes] t ∧ t.lane l = seeded r) ∧
      (∃ t, exec (.laneDisable l v) s = .next t ∧ t.flag (LANE_CTRL_EN l) = false ∧ wrote (v &&& ~~~1#32) t ∧
        t.get (LANE_STATUS_STATE l) = (if portOn then (if st = 0 then 1 else st) else 0) ∧
        (st ≠ 0 → portOn = false → t.flag (LANE_STATUS_SIG l) = false ∧ t.flag (LANE_STATUS_CDR l) = false ∧
          t.flag (LANE_STATUS_BLOCK l) = false ∧ t.rd (LANE_EYE l) = 0 ∧ t.flag (LANE_PRBS_STATUS_SYNC l) = false ∧
          t.lane l = { seeded r with run := 0, win := [], num := none, chk := default } ∧
          (s.flag (LANE_STATUS_BLOCK l) = true → t.flag (LANE_STATUS_BLK_LOSS l) = true ∧ recorded s t 0x1C2 l)) ∧
        lanes ([LANE_CTRL l, LANE_RX_EQ l, LANE_EYE l, LANE_PRBS_STATUS l] ++ wrRegs) [.lanes] t) ∧
      (∃ t, exec (.slip l v) s = .next t ∧ sameRegs wrRegs s t ∧ sameBut [.lanes] s t ∧ (∀ k, k ≠ l.val → t.lane k = s.lane k) ∧
        t.lane l = if s.flag (LANE_CTRL_ALIGN l) then { r with bound := (r.bound + 1) % 66 } else r) ∧
      (∃ t, exec (.inj l v) s = .next t ∧ lanes ([LANE_PRBS_CTRL l, LANE_PRBS_STATUS l] ++ wrRegs) [.lanes] t ∧
        t.get (LANE_PRBS_CTRL_INJ_RATE l) = min 40 (fldOf 16 6 v) ∧ t.flag (LANE_PRBS_CTRL_INJ l) = false ∧
        (s.portOff l = true → t.rd (LANE_PRBS_CTRL l) &&& 3#32 = v &&& 3#32) ∧
        (s.portOff l = false → t.rd (LANE_PRBS_CTRL l) &&& 3#32 = s.rd (LANE_PRBS_CTRL l) &&& 3#32 ∧
          (s.rd (LANE_PRBS_CTRL l) &&& 3#32 ≠ v &&& 3#32 → t.flag (LANE_STATUS_CFG_REFUSED l) = true ∧ recorded s t 0x1C4 l)) ∧
        t.flag (LANE_PRBS_STATUS_SYNC l) = (s.flag (LANE_PRBS_STATUS_SYNC l) && t.flag (LANE_PRBS_CTRL_CHK l)) ∧
        (t.lane l).chk = (if t.flag (LANE_PRBS_CTRL_CHK l) then r.chk else default) ∧
        (t.lane l).gen = if t.flag (LANE_PRBS_CTRL_GEN l) then
            (if s.flag (LANE_PRBS_CTRL_GEN l) then { r.gen with inj := r.gen.inj + 1 } else { sr := 2 ^ 31 - 1, n := 0, inj := 1 })
          else r.gen)) ∧
    (s.up = true →
      (∃ t, exec (.ethPortEnable e v) s = .next t ∧ t.flag (NET_CTRL_EN e) = true ∧
        let now := s.wr (NET_CTRL e) (v ||| 1)
        let old := s.rd (NET_CTRL e)
        t.get (NET_STATUS_STATE e) = (if s.flag (NET_CTRL_EN e) = false ∧ nst = 0 then
          (if now.ethBad e then 4
            else if s.isReady (LANE_STATUS_STATE e) then (if s.get (LANE_CTRL_RATE e) = now.get (NET_CTRL_SPEED e) then 2 else 4)
            else 1) else lifeNext (s.flag (NET_CTRL_EN e)) true nst 1 0) ∧
        (nst ≠ 0 → t.rd (NET_CTRL e) &&& 0x1E#32 = old &&& 0x1E#32 ∧
          (old &&& 0x1E#32 ≠ v &&& 0x1E#32 → t.flag (NET_STATUS_CFG_REFUSED e) = true ∧ recorded s t 0x1C4 e)) ∧
        (s.get (LANE_STATUS_STATE e) = 0 → t.get (LANE_STATUS_STATE e) = 1) ∧
        (settled → sameBut [] s t ∧ sameRegs ([NET_CTRL e, NET_STATUS e, NET_PTP_STATUS e, LANE_STATUS e] ++ wrRegs) s t))) ∧
    (s.alive = true →
      (∃ t, exec (.laneReady l) s = .next t ∧ t.laneDark = false ∧ sameBut [.laneDark, .outbox] s t ∧ (st ≠ 1 → sameRegs [EVR_DROP] s t ∧ t.outbox = s.outbox) ∧
        (st = 1 → t.get (LANE_STATUS_STATE l) = 2 ∧
          (∀ k : Fin 2, k.val = l.val → sameRegs [LANE_STATUS l, NET_STATUS k, NET_PTP_STATUS k, EVR_DROP] s t ∧
            t.outbox = s.outbox ∧ t.get (NET_STATUS_STATE k) = if s.get (NET_STATUS_STATE k) = 1 then
              (if s.get (LANE_CTRL_RATE l) = s.get (NET_CTRL_SPEED k) then 2 else 4) else s.get (NET_STATUS_STATE k)) ∧
          (∀ p, 2 ≤ l.val → s.lnkOf l = some p → sameRegs [LANE_STATUS l, LNK_STATUS p, EVR_DROP] s t ∧
            t.get (LNK_STATUS_STATE p) = (if s.get (LNK_STATUS_STATE p) = 1 ∧ s.flag (LANE_CTRL_RATE l) = false then 4
              else s.get (LNK_STATUS_STATE p)) ∧
            t.outbox = s.outbox ++ (if s.get (LNK_STATUS_STATE p) = 1 ∧ s.get (LNK_STATUS_LSTATE p) = 1 then t.detects p else [])) ∧
          (2 ≤ l.val → s.lnkOf l = none → t.outbox = s.outbox ∧ lanes [] [.laneDark] t))) ∧
      (∃ t, exec (.laneLos l) s = .next t ∧ (s.flag (LANE_STATUS_SIG l) = false → nothing t) ∧
        (s.flag (LANE_STATUS_SIG l) = true → t.flag (LANE_STATUS_SIG l) = false ∧ t.flag (LANE_STATUS_LOS l) = true ∧
          t.rd (LANE_LOS_CNT l) = satInc (s.rd (LANE_LOS_CNT l)) ∧ recorded s t 0x1C0 l ∧ falls t ∧ fr [LANE_LOS_CNT l] [] t)) ∧
      (∃ t, exec (.laneLol l) s = .next t ∧ (s.flag (LANE_STATUS_CDR l) = false → nothing t) ∧
        (s.flag (LANE_STATUS_CDR l) = true → t.flag (LANE_STATUS_CDR l) = false ∧ t.flag (LANE_STATUS_LOL l) = true ∧
          t.rd (LANE_EYE l) = 0 ∧ t.rd (LANE_LOL_CNT l) = satInc (s.rd (LANE_LOL_CNT l)) ∧ recorded s t 0x1C1 l ∧ falls t ∧
          fr [LANE_LOL_CNT l, LANE_EYE l] [] t)) ∧
      (∃ t, exec (.laneSignalReturn l) s = .next t ∧ t.flag (LANE_STATUS_SIG l) = (st != 0 || s.flag (LANE_STATUS_SIG l)) ∧
        sameBeside (LANE_STATUS l) [LANE_STATUS_SIG l] s t ∧ lanes [] [] t) ∧
      (∃ t, exec (.laneCdrLock l) s = .next t ∧ t.flag (LANE_STATUS_CDR l) = (st != 0 || s.flag (LANE_STATUS_CDR l)) ∧
        sameBeside (LANE_STATUS l) [LANE_STATUS_CDR l] s t ∧ lanes [] [] t) ∧
      (∀ hs : List Bool, ∀ cmd ∈ [Instr.blockLock l hs, .laneBlockLoss l hs], ∃ t, exec cmd s = .next t ∧ (st ≠ 2 → nothing t) ∧
        (st = 2 →
          let block := s.flag (LANE_STATUS_BLOCK l)
          let x := hs.foldl (hdrStep (!s.flag (LANE_CTRL_ALIGN l))) { lane := r, block := block, bad := 0, lost := 0 }
          t.rdN (LANE_HDR_ERR_CNT l) = min 0xFFFFFFFF (s.rdN (LANE_HDR_ERR_CNT l) + hs.count false) ∧ t.lane l = x.lane ∧
            t.flag (LANE_STATUS_BLOCK l) = x.block ∧ (∀ k, k ≠ l.val → t.lane k = s.lane k) ∧
            (block = false → r.run = 0 → hs = List.replicate 64 true → t.flag (LANE_STATUS_BLOCK l) = true) ∧
            (block = true → r.win = [] → hs.length ≤ 64 → t.flag (LANE_STATUS_BLOCK l) = decide (hs.count false < 16)) ∧
            (x.lost = 0 → lanes [LANE_HDR_ERR_CNT l] [.lanes] t) ∧
            (x.lost ≠ 0 → t.flag (LANE_STATUS_BLK_LOSS l) = true ∧ recorded s t 0x1C2 l ∧ falls t ∧
              fr [LANE_HDR_ERR_CNT l] [.lanes] t))) ∧
      (∀ (w : BitVec 6) (h : BitVec 10), ∃ t, exec (.eyeSweep l w h) s = .next t ∧ sameRegs [LANE_EYE l, EVR_DROP] s t ∧
        sameBut [] s t ∧ if s.flag (LANE_STATUS_CDR l) then t.get (LANE_EYE_W l) = w.toNat ∧ t.get (LANE_EYE_H l) = h.toNat
          else t.rd (LANE_EYE l) = 0) ∧
      (∀ (bits : List Bool) (n : Nat), ∀ cmd ∈ [Instr.prbsSync ⟨l, bits, n⟩, .prbsSyncLoss l bits n], ∃ t, exec cmd s = .next t ∧
        if st ≠ 0 then
          let pat := s.get (LANE_PRBS_CTRL_PAT l)
          let gen := s.flag (LANE_PRBS_CTRL_GEN l)
          let loop := s.get (LANE_CTRL_LOOP l)
          let own := genBits pat (s.get (LANE_PRBS_CTRL_INJ_RATE l)) n r.gen
          let p31 := genBits 4 0 n { sr := r.par, n := 0, inj := 0 }
          let x := (if s.near l && gen then own.2 else bits).foldl (chkStep pat)
            { chk := r.chk, sync := s.flag (LANE_PRBS_STATUS_SYNC l), bits := 0, errs := 0 }
          let check := s.flag (LANE_PRBS_CTRL_CHK l) = true
          t.lane l = { r with par := if loop = 2 ∧ n ≠ 0 then p31.1.sr else r.par, gen := if gen then own.1 else r.gen,
                              chk := if check then x.chk else r.chk } ∧
            t.outbox = s.outbox ++ (if loop = 3 ∧ bits ≠ [] then [.sentBits l bits] else []) ++
              (if loop = 2 ∧ n ≠ 0 then [.sentBits l p31.2] else []) ++ (if gen = true ∧ loop ≤ 1 ∧ n ≠ 0 then [.sentBits l own.2] else []) ∧
            (check → t.flag (LANE_PRBS_STATUS_SYNC l) = x.sync ∧
              t.rd64 (LANE_PRBS_BITS_LO l) = (s.rd64 (LANE_PRBS_BITS_LO l) + x.bits) % 2 ^ 64 ∧
              t.rd64 (LANE_PRBS_ERR_LO l) = min (2 ^ 64 - 1) (s.rd64 (LANE_PRBS_ERR_LO l) + x.errs)) ∧
            (¬ check → sameRegs [EVR_DROP] s t) ∧ sameBut [.lanes, .outbox] s t ∧ (∀ k, k ≠ l.val → t.lane k = s.lane k) ∧
            sameRegs [LANE_PRBS_STATUS l, LANE_PRBS_BITS_LO l, LANE_PRBS_BITS_LO l + 4, LANE_PRBS_ERR_LO l, LANE_PRBS_ERR_LO l + 4,
              EVR_DROP] s t
        else nothing t) ∧
      (∀ (num : Fin 4) (at_ : Nat), ∃ t, exec (.align l ⟨num, at_⟩) s = .next t ∧ sameRegs [EVR_DROP] s t ∧ sameBut [.lanes, .outbox] s t ∧
        t.outbox = s.outbox ++ (if s.far l then [.lnkAlign l num] else []) ∧
        (∀ k, k ≠ l.val → t.lane k = s.lane k) ∧
        t.lane l = if s.flag (LANE_STATUS_BLOCK l) && (s.ear l == .peer || (s.ear l == .own && s.laneNum l == some num.val)) then
          { r with num := some (num.val, at_) } else r) ∧
      (∀ x : Fec,
        let fec (t : State) : Prop := fecCounted e x s t ∧ sameBut [] s t ∧
          sameRegs [EVR_ALERT_PEND, EVR_DROP, NET_STATUS e, NET_FEC_CORR e, NET_FEC_UNCORR e] s t
        (∃ t, exec (.ethLinkUp ⟨e, x⟩) s = .next t ∧ fec t ∧
          if nst = 2 ∧ s.flag (NET_STATUS_LINK e) = false then t.flag (NET_STATUS_LINK e) = true ∧ recorded s t 0x1D8 e ∧
            sameBeside (NET_STATUS e) [NET_STATUS_LINK e] s t
          else t.rd (NET_STATUS e) = s.rd (NET_STATUS e) ∧ t.rd EVR_ALERT_PEND = s.rd EVR_ALERT_PEND) ∧
        (∃ t, exec (.ethLinkDown ⟨e, x⟩) s = .next t ∧ fec t ∧
          if s.flag (NET_STATUS_LINK e) then t.flag (NET_STATUS_LINK e) = false ∧ t.flag (NET_STATUS_LINK_DOWN e) = true ∧
            recorded s t 0x1D9 e ∧ sameBeside (NET_STATUS e) [NET_STATUS_LINK e, NET_STATUS_LINK_DOWN e] s t
          else t.rd (NET_STATUS e) = s.rd (NET_STATUS e) ∧ t.rd EVR_ALERT_PEND = s.rd EVR_ALERT_PEND)))

/-- Link training (R457, R468 to R471, R484, R485): EN starts a port in DETECT, clearing it disables it; the port passes DETECT,
TRAIN, LOCK and CAPX as its lanes lock, the handshake completes, the lane numbers are all there, and the pairing of capabilities
fits; an expired limit goes back to DETECT, where TRAIN blocks leave as soon as the lanes are READY; a link that falls drops what it holds; far-end
loopback returns what comes in.

It rests also on the model's own choices of log entries 7, 28, 61 and 62. -/
def Obligations.LinkTraining : Prop :=
  ∀ (s : State) (p : Fin 4) (v : Word),
    let st := s.get (LNK_STATUS_STATE p)
    let en := s.flag (LNK_CTRL_EN p)
    let ls := s.lnkLanes p
    let nothing (t : State) : Prop := sameRegs [EVR_DROP] s t ∧ sameBut [] s t
    let others (t : State) : Prop := ∀ q, q ≠ p.val → t.lnk q = s.lnk q
    let back (o : Out) (t : State) : Prop := sameRegs [EVR_DROP] s t ∧ sameBut [.outbox] s t ∧ t.outbox = s.outbox ++ s.returned p [o]
    let fr (ps : List Part) (t : State) : Prop :=
      others t ∧ sameRegs [EVR_ALERT_PEND, EVR_DROP, LNK_STATUS p, LNK_TRAIN_CNT p] s t ∧ sameBut ps s t
    let trained (lstate : Nat) := s.get (LNK_STATUS_LSTATE p) = lstate ∧ st = 1
    let settled := ∀ k : Fin 12, k.val ∉ ls → s.laneSettled k
    let nums := ls.filterMap fun l => (s.lane l).num
    let locks : List Out := .lnkIdle p :: ls.zipIdx.map fun x => .lnkAlign x.1 x.2
    let hears (own : Bool) : Bool := s.lnkEar p == .peer || (s.lnkEar p == .own && own)
    (s.up = true →
      (∃ t, exec (.linkEnable p v) s = .next t ∧ t.flag (LNK_CTRL_EN p) = true ∧ others t ∧ sameBut [.lanes, .lnks, .outbox] s t ∧
        t.outbox = s.outbox ++ (if en = false ∧ st = 0 then t.detects p else []) ∧
        sameRegs ([LNK_CTRL p, LNK_STATUS p] ++ laneRegs ++ wrRegs) s t ∧
        (en = false → st = 0 → t.get (LNK_STATUS_LSTATE p) = 1 ∧ (t.lnk p).txOk = false ∧ (t.lnk p).rxOk = false ∧
          t.get (LNK_STATUS_STATE p) = if (t.lnkLanes p).any fun l => s.isReady (LANE_STATUS_STATE l) && !s.flag (LANE_CTRL_RATE l)
            then 4 else 1) ∧
        (¬ (en = false ∧ st = 0) → t.get (LNK_STATUS_STATE p) = lifeNext en true st 1 0 ∧ t.lnk p = s.lnk p ∧
          t.get (LNK_STATUS_LSTATE p) = s.get (LNK_STATUS_LSTATE p)) ∧
        (p = 0 → st ≠ 0 → t.flag (LNK_CTRL_WIDE 0) = s.flag (LNK_CTRL_WIDE 0) ∧
          (s.flag (LNK_CTRL_WIDE 0) ≠ bitOf v.toNat 1 → t.flag (LNK_STATUS_CFG_REFUSED 0) = true ∧ recorded s t 0x1C4 0)) ∧
        (∀ l : Fin 12, l.val ∈ t.lnkLanes p → s.get (LANE_STATUS_STATE l) = 0 → t.get (LANE_STATUS_STATE l) = 1)) ∧
      (∃ t, exec (.linkDisable p v) s = .next t ∧ t.flag (LNK_CTRL_EN p) = false ∧ sameBut [.lanes, .lnks, .outbox, .exch] s t ∧
        sameRegs (LNK_CTRL p :: laneRegs ++ fallRegs) s t ∧
        t.get (LNK_STATUS_STATE p) = lifeNext en false st 1 0 ∧
        (en = true → t.get (LNK_STATUS_LSTATE p) = 0) ∧ (en = true → s.lnkActive p = true → st = 1 ∨ st = 2 → lnkLeft p s t) ∧
        (en = false → t.lnks = s.lnks ∧ t.outbox = s.outbox ∧ t.get (LNK_STATUS_LSTATE p) = s.get (LNK_STATUS_LSTATE p)) ∧
        (settled → ∀ l : Fin 12, l.val ∉ ls → t.lnkLanes p = ls → t.rd (LANE_STATUS l) = s.rd (LANE_STATUS l)))) ∧
    (s.alive = true →
      (∃ t, exec (.detectDone p) s = .next t ∧ fr [.outbox] t ∧
        if trained 1 ∧ ∀ l ∈ ls, s.get (LANE_STATUS_STATE l) = 2 ∧ s.flag (LANE_STATUS_SIG l) = true ∧
            s.flag (LANE_STATUS_CDR l) = true then
          t.get (LNK_STATUS_LSTATE p) = 2 ∧ t.outbox = s.outbox ++ s.carried p [.lnkTrain p false] else nothing t) ∧
      (∃ t, exec (.trainAdaptDone p) s = .next t ∧ fr [.outbox, .lnks] t ∧
        if trained 2 ∧ ∀ l ∈ ls, s.get (LANE_EYE_MIN_W_MIN l) ≤ s.get (LANE_EYE_W l) ∧
            s.get (LANE_EYE_MIN_H_MIN l) ≤ s.get (LANE_EYE_H l) ∧ s.carries l = true then
          t.lnk p = { s.lnk p with txOk := true } ∧ t.outbox = s.outbox ++ s.carried p (.lnkTrain p true :: if (s.lnk p).rxOk then locks else []) ∧
            t.get (LNK_STATUS_LSTATE p) = if (s.lnk p).rxOk then 3 else 2
        else nothing t) ∧
      (∀ ready : Bool, ∃ t, exec (.train p ready) s = .next t ∧ fr [.outbox, .lnks] t ∧
        if trained 2 ∧ ready = true ∧ hears (s.lnk p).txOk = true then t.lnk p = { s.lnk p with rxOk := true } ∧
          t.outbox = s.outbox ++ s.carried p (if (s.lnk p).txOk then locks else []) ∧
          t.get (LNK_STATUS_LSTATE p) = if (s.lnk p).txOk then 3 else 2
        else back (.lnkTrain p ready) t) ∧
      (∃ t, exec (.lockDone p) s = .next t ∧ others t ∧ sameBut [.outbox] s t ∧ sameRegs (LNK_STATUS p :: LNK_TX_PKT_CNT p :: wrRegs) s t ∧
        if trained 3 ∧ (∀ l ∈ ls, s.flag (LANE_STATUS_BLOCK l) = true) ∧
            (∀ i, i < ls.length → ∃ x ∈ nums, x.1 = i) ∧
            (∀ x ∈ nums, ∀ y ∈ nums, x.2 ≤ y.2 + 16) then
          t.get (LNK_STATUS_LSTATE p) = 4 ∧ t.outbox = s.outbox ++ s.carried p [.lnkCap p (s.ownCap p)] ∧
            t.rd (LNK_TX_PKT_CNT p) = s.rd (LNK_TX_PKT_CNT p) + 1
        else nothing t) ∧
      (∃ t, exec (.linkTrainFail p) s = .next t ∧ fr [.lnks, .outbox] t ∧
        if trained 2 ∨ trained 3 ∨ trained 4 then
          t.get (LNK_STATUS_LSTATE p) = 1 ∧ t.get (LNK_STATUS_STATE p) = 1 ∧ t.flag (LNK_STATUS_TRAIN_FAIL p) = true ∧
            t.rd (LNK_TRAIN_CNT p) = s.rd (LNK_TRAIN_CNT p) + 1 ∧ recorded s t 0x1CA p ∧
            t.lnk p = { s.lnk p with txOk := false, rxOk := false } ∧ t.outbox = s.outbox ++ s.detects p
        else nothing t) ∧
      (∀ (ok : Bool) (c : CapInfo), ∃ t, exec (.cap p ok c) s = .next t ∧
        sameBut sendParts s t ∧ sameRegs ([LNK_STATUS p, LNK_PEER p, LNK_ADDR, LNK_CRC_ERR_CNT p, LNK_RX_PKT_CNT p] ++ sendRegs) s t ∧
        let here := trained 4 ∧ hears (c == s.ownCap p) = true
        (¬ here → back (.lnkCap p c) t) ∧
        (here → ok = false → t.rd (LNK_CRC_ERR_CNT p) = satInc (s.rd (LNK_CRC_ERR_CNT p)) ∧ recorded s t 0x1CC p ∧
          t.get (LNK_STATUS_LSTATE p) = 4 ∧ t.lnks = s.lnks ∧ t.outbox = s.outbox) ∧
        (here → ok = true →
          let fit := if p = 0 then (if s.chainRoot then c.role = 2 else c.role = 1) else c.role = 0
          t.rd (LNK_RX_PKT_CNT p) = s.rd (LNK_RX_PKT_CNT p) + 1 ∧ t.get (LNK_PEER_ADDR p) = c.addr.toNat ∧ t.flag (LNK_PEER_VALID p) = c.valid ∧ t.get (LNK_PEER_ROLE p) = c.role.val ∧
            (¬ fit → t.get (LNK_STATUS_STATE p) = 4 ∧ t.flag (LNK_STATUS_ROLE_ERR p) = true ∧ recorded s t 0x1CB p ∧ t.lnks = s.lnks) ∧
            (fit → t.get (LNK_STATUS_LSTATE p) = 5 ∧ t.get (LNK_STATUS_STATE p) = 2 ∧ recorded s t 0x1C8 p ∧
              (t.lnk p).crT = c.creditT ∧ (t.lnk p).crN = c.creditN ∧ (t.lnk p).txt = [] ∧ (t.lnk p).txq = [] ∧
              t.get (LNK_STATUS_WIDTH p) = (if c.role = 2 ∧ s.flag (LNK_CTRL_WIDE 0) = true ∧ 4 ≤ c.lanes then 2 else 1) ∧
              (p = 0 → c.valid = true → t.flag LNK_ADDR_ORPHAN = false) ∧
              (p ≠ 0 → s.flag LNK_ADDR_VALID = true → s.rd (LNK_RANGE_SIZE p) = 0 → recorded s t 0x1D2 p)))) ∧
      (∃ t, exec (.linkDown p) s = .next t ∧ (s.lnkActive p = false → nothing t) ∧
        (s.lnkActive p = true → lnkFell p s t ∧ sameRegs fallRegs s t ∧ sameBut [.lnks, .outbox, .exch] s t)) ∧
      (∃ t, exec (.idle p) s = .next t ∧ back (.lnkIdle p) t))

/-- Credits and Kickoff (R476, R477, R480 to R482): credits let the oldest waiting packets leave in order; a packet that has waited
too long is dropped; Kickoff counts the devices behind every port within its budget, and assigns addresses and ranges, or ends in
overflow.

It rests also on the model's own choices of log entries 7, 61 and 62. -/
def Obligations.CreditsAndKickoff : Prop :=
  ∀ (s : State) (p : Fin 4),
    let r := s.lnk p
    let nothing (t : State) : Prop := sameRegs [EVR_DROP] s t ∧ sameBut [] s t
    let others (t : State) : Prop := ∀ q, q ≠ p.val → t.lnk q = s.lnk q
    let frame (regs : List Nat) (t : State) : Prop := sameRegs (regs ++ kickRegs) s t ∧ sameBut (.kick :: sendParts) s t
    let u := s.lnkFree (some p) (.kickCount 0)
    let asks (w : State) (l : List Nat) (budget : Nat) (t : State) : Prop :=
      t.kick = { run := true, wait := (l.map fun q => 2 ^ q).sum, c1 := 0, c2 := 0, c3 := 0 } ∧
        sentAs (w.kickSends (l.map fun q => (q, .kickCount budget))) t
    let none_ : Kick := { run := true, wait := 0, c1 := 0, c2 := 0, c3 := 0 }
    let back (o : Out) (t : State) : Prop := sameRegs [EVR_DROP] s t ∧ sameBut [.outbox] s t ∧ t.outbox = s.outbox ++ s.returned p [o]
    let heard (ok : Bool) (o : Out) (t : State) (effect : Prop) : Prop :=
      (s.lnkHears p = false → back o t) ∧
      (s.lnkHears p = true → ok = false → t.rd (LNK_CRC_ERR_CNT p) = satInc (s.rd (LNK_CRC_ERR_CNT p)) ∧ recorded s t 0x1CC p ∧
        t.kick = s.kick ∧ sentAs u t) ∧
      (s.lnkHears p = true → ok = true → t.rd (LNK_RX_PKT_CNT p) = s.rd (LNK_RX_PKT_CNT p) + 1 ∧ effect) ∧
      frame [LNK_RX_PKT_CNT p, LNK_CRC_ERR_CNT p] t
    (∀ v : Word, s.up = true → ∃ t, exec (.kickoff v) s = .next t ∧ frame [LNK_KICK_CTRL] t ∧
      t.get LNK_KICK_CTRL_BASE = fldOf 16 16 v ∧
      if s.chainRoot = true ∧ s.get LNK_KICK_STATUS_KSTATE = 0 then
        (s.asked ≠ [] → asks s s.asked (orOne (s.rdN LNK_KICK_TO % 65536)) t ∧ t.get LNK_KICK_STATUS_KSTATE = 1) ∧
          (s.asked = [] → kickEnds (fldOf 16 16 v) none_ s t)
      else t.kick = s.kick ∧ sentAs s t ∧ t.rd LNK_KICK_STATUS = s.rd LNK_KICK_STATUS) ∧
    (s.alive = true →
      (∀ tc n : Nat, ∃ t, exec (.credit p tc n) s = .next t ∧ others t ∧
        sameRegs ([LNK_TX_PKT_CNT p, LNK_KICK_STATUS] ++ wrRegs) s t ∧ sameBut sendParts s t ∧ (s.lnkActive p = false ∨ s.lnkEar p = .deaf → back (.lnkCredit p tc n) t) ∧
        let now := (s.tb 0).units16
        let left (ct cn : Nat) (l : List Out) (t : State) : Prop := (t.lnk p).crT = r.crT + tc - ct ∧ (t.lnk p).crN = r.crN + n - cn ∧
          (t.lnk p).txt = [] ∧ t.outbox = s.outbox ++ s.carried p l ∧
          t.rd (LNK_TX_PKT_CNT p) = s.rd (LNK_TX_PKT_CNT p) + BitVec.ofNat 32 l.length
        (s.lnkActive p = true → s.lnkEar p ≠ .deaf →
          (r.txt = [] → r.txq = [] → left 0 0 [] t ∧ (t.lnk p).txq = []) ∧
          (r.txt = [.req] → r.txq = [] → 0 < r.crT + tc → left 1 0 [.lnkTimeReq p now] t ∧ t.exch = some now) ∧
          (∀ t2, r.txt = [.rsp t2] → r.txq = [] → 0 < r.crT + tc → left 1 0 [.lnkTimeRsp p t2 now] t ∧ t.exch = s.exch) ∧
          (∀ m, r.txt = [m] → r.txq = [] → r.crT + tc = 0 → (t.lnk p).txt = [m] ∧ t.outbox = s.outbox ∧ t.exch = s.exch) ∧
          (∀ j rest, r.txt = [] → r.txq = j :: rest → r.crN + n < msgCredits j.msg → left 0 0 [] t ∧ (t.lnk p).txq = r.txq) ∧
          (∀ j, r.txt = [] → r.txq = [j] → j.src = none → msgCredits j.msg ≤ r.crN + n →
            left 0 (msgCredits j.msg) [j.msg.out p] t ∧ (t.lnk p).txq = []))) ∧
      (∃ t, exec (.creditDrop p) s = .next t ∧ others t ∧
        sameRegs ([LNK_CRED_DROP_CNT p, LNK_TX_PKT_CNT p, LNK_KICK_STATUS] ++ wrRegs) s t ∧ sameBut sendParts s t ∧
        (r.txq = [] → nothing t) ∧
        ∀ j rest, r.txq = j :: rest → t.rd (LNK_CRED_DROP_CNT p) = satInc (s.rd (LNK_CRED_DROP_CNT p)) ∧ recorded s t 0x1CD p ∧
          (r.txt = [] → (rest = [] ∨ ∃ k more, rest = k :: more ∧ r.crN < msgCredits k.msg) →
            (t.lnk p).txq = rest ∧ (t.lnk p).crN = r.crN ∧
            t.outbox = s.outbox ++ (match j.src with
              | some q => if s.lnkActive q then s.carried q [.lnkCredit q 0 (msgCredits j.msg)] else []
              | none => []))) ∧
      (∀ (ok reply : Bool) (n : Nat), ∃ t, exec (.kickCount p ok reply n) s = .next t ∧ heard ok (if reply then .kickReply p n else .kickCount p n) t (
        (reply = true → p ≠ 0 → kickCounted p n u t) ∧
        (reply = (p == 0) → t.kick = s.kick ∧ sentAs u t) ∧
        (reply = false → p = 0 → s.chainRoot = false →
          if 40 ≤ n ∧ s.asked ≠ [] then asks u s.asked (n - 20) t else kickEnds 0 none_ u t))) ∧
      (∃ t, exec (.kickBudgetExpiry p) s = .next t ∧ frame [] t ∧ kickCounted p 0 s t) ∧
      (∀ (ok : Bool) (base : BitVec 16) (size : Nat), ∃ t, exec (.kickAssign p ok base size) s = .next t ∧ heard ok (.kickAssign p base.toNat size) t (
        if p = 0 then kickTaken base.toNat s.kick u t ∧ t.kick = s.kick else t.kick = s.kick ∧ sentAs u t)))

/-- Packets and Ethernet frames (R319, R472 to R475, R479, R486, R488, R489): an unsound packet is discarded; a command, a response, a
broadcast and a report are routed by the rule or taken here, their credits going back; a command for another device is forwarded
with an entry, which frees itself in time, and its row brings the counts of the port's FEC; ARP, echo and neighbour requests for the port's addresses are answered; what the port
does not support is dropped and counted; far-end loopback returns what comes in.

It rests also on the model's own choices of log entries 7, 26, 61, 62, 63, 75, 100 and 118. -/
def Obligations.PacketsAndFrames : Prop :=
  ∀ (s : State), s.alive = true →
    let nothing (t : State) : Prop := sameRegs [EVR_DROP] s t ∧ sameBut [] s t
    (∀ (p : Fin 4) (blocks : List LnkBlock),
      let hears := s.lnkHears p = true
      let h := heard blocks
      let back (n : Nat) : List Out := s.carried p [.lnkCredit p 0 n]
      let drops (n : Nat) (t : State) : Prop := t.rd LNK_UNREACH_CNT = satInc (s.rd LNK_UNREACH_CNT) ∧ recorded s t 0x1CE 0 ∧
        t.outbox = s.outbox ++ back n ∧ sameRegs [EVR_ALERT_PEND, EVR_DROP, LNK_RX_PKT_CNT p, LNK_UNREACH_CNT] s t ∧
        sameBut [.outbox] s t
      let got (ty : Nat) (cmd : Instr) (effect : LnkPkt → State → Prop) : Prop := ∃ t, exec cmd s = .next t ∧
        (¬ hears → sameRegs [EVR_DROP] s t ∧ sameBut [.outbox] s t ∧ t.outbox = s.outbox ++ s.returned p [.lnkPkt p blocks]) ∧
        (hears → h = .nothing → nothing t) ∧
        (∀ n, hears → h = .bad n → t.rd (LNK_CRC_ERR_CNT p) = satInc (s.rd (LNK_CRC_ERR_CNT p)) ∧ recorded s t 0x1CC p ∧
          t.outbox = s.outbox ++ back ((n + 63) / 64) ∧ sameRegs [EVR_ALERT_PEND, EVR_DROP, LNK_CRC_ERR_CNT p] s t ∧
          sameBut [.outbox] s t) ∧
        ∀ k, hears → h = .pkt k →
          if k.ty.toNat ≠ ty then nothing t
          else t.rd (LNK_RX_PKT_CNT p) = s.rd (LNK_RX_PKT_CNT p) + 1 ∧
            if 32 < k.hops.toNat then drops (msgCredits (.pkt k)) t else effect k t
      let onward (k : LnkPkt) (q : Nat) (t : State) : Prop :=
        let n := msgCredits (.pkt k)
        let k' := { k with hops := k.hops + 1 }
        if 32 ≤ k.hops.toNat ∨ s.lnkActive q = false then drops n t
        else sameRegs ([LNK_RX_PKT_CNT p, LNK_TX_PKT_CNT q, LNK_KICK_STATUS] ++ wrRegs) s t ∧ sameBut sendParts s t ∧
          ((s.lnk q).txt = [] → (s.lnk q).txq = [] → n ≤ (s.lnk q).crN → msgCredits (.pkt k') = n ∧
            t.outbox = s.outbox ++ s.carried q [.lnkPkt q (pktBlocks k')] ++ back n ∧ (t.lnk q).crN = (s.lnk q).crN - n ∧
            t.rd (LNK_TX_PKT_CNT q) = s.rd (LNK_TX_PKT_CNT q) + 1) ∧
          ((s.lnk q).txt = [] → (s.lnk q).txq = [] → (s.lnk q).crN < n → t.outbox = s.outbox ∧
            (t.lnk q).txq = [{ msg := .pkt k', src := some p.val }])
      let routed (k : LnkPkt) (here : State → Prop) (t : State) : Prop := match s.route k (some p) with
        | .port q => onward k q t
        | .none => drops (msgCredits (.pkt k)) t
        | .here => here t
      let src : Nat := 2 + p
      let rejected (f : List Byte) (t : State) : Prop :=
        let i := s.rdN MGT_JNL_WR
        t.rdN (seqReg src f) = frSeq f ∧ t.rd MGT_CMD_ACC_CNT = s.rd MGT_CMD_ACC_CNT + 1 ∧
          t.jnlAt i = jnlEntry src f 0 (cmdCheck f) 0 s.vnum i ∧ t.rd MGT_JNL_WR = s.rd MGT_JNL_WR + 1
      got 1 (.cmd p blocks) (fun k t =>
        let f := k.payload
        let gone := t.outbox = s.outbox ++ back (msgCredits (.pkt k))
        if s.flag LNK_ADDR_VALID = false then drops (msgCredits (.pkt k)) t
        else routed k (fun t => s.goPend = false →
          (s.forMe src f = false → gone ∧ sameRegs [EVR_DROP, LNK_RX_PKT_CNT p] s t ∧ sameBut [.outbox] s t) ∧
          (s.forMe src f = true → s.accepts src f = false → t.rd MGT_CMD_BAD_CNT = satInc (s.rd MGT_CMD_BAD_CNT) ∧
            recorded s t 0x340 0 ∧ gone ∧ sameBut [.outbox] s t) ∧
          (s.forMe src f = true → s.accepts src f = true → s.isNew src f → cmdCheck f ≠ 0 ∨ frOp f = 0x32 →
            rejected f t ∧ sameBut (.jnl :: .fwd :: .nets :: sendParts) s t ∧
              (frNoReply f = true ∨ frBcast f = true → gone ∧ t.lnks = s.lnks))) t) ∧
      got 2 (.rsp p blocks) (fun k => routed k fun t =>
        (s.fwdGet k.tag.toNat = none → t.outbox = s.outbox ++ back (msgCredits (.pkt k)) ∧
          sameRegs [EVR_DROP, LNK_RX_PKT_CNT p] s t ∧ sameBut [.outbox] s t) ∧
        (∀ x, s.fwdGet k.tag.toNat = some x → x.port < 2 → t.fwdGet k.tag.toNat = none ∧
          (∀ j, j ≠ k.tag.toNat → t.fwdGet j = s.fwdGet j) ∧ sameBut [.outbox, .fwd, .nets] s t ∧
          sameRegs ([LNK_RX_PKT_CNT p, LNK_FWD, NET_TX_FRAMES x.port] ++ wrRegs) s t ∧
          (∀ e, e ≠ x.port → t.net e = s.net e) ∧
          let waits := s.isReady (NET_STATUS_STATE x.port) = true ∧ (s.net x.port).tx.isSome = true
          let rsp := s.udpOut x.port x.peer k.payload
          (waits → t.net x.port = { s.net x.port with resp := (s.net x.port).resp ++ [rsp] } ∧
            t.outbox = s.outbox ++ back (msgCredits (.pkt k))) ∧
          (¬ waits → t.net x.port = s.net x.port ∧ t.outbox = s.outbox ++ back (msgCredits (.pkt k)) ++
            if s.isReady (NET_STATUS_STATE x.port) && s.speaks x.port then [rsp] else []))) ∧
      got 3 (.bcast p blocks) (fun k t =>
        let f := k.payload
        let u := s.copyDown { k with hops := k.hops + 1 }
        let below := ∃ q ∈ [1, 2, 3], s.lnkActive q = true
        if p ≠ 0 ∧ s.chainRoot = false then onward k 0 t
        else s.goPend = false → (k.hops.toNat = 32 → below → recorded s t 0x1CE 0) ∧ (k.hops.toNat = 32 ∨ ¬ below → u.lnks = s.lnks) ∧
          (s.accepts src f = false → t.rd MGT_CMD_BAD_CNT = satInc (s.rd MGT_CMD_BAD_CNT) ∧ recorded s t 0x340 0 ∧
            sameBut sendParts s t ∧ t.lnks = u.lnks ∧ t.outbox = u.outbox ++ back (msgCredits (.pkt k))) ∧
          (s.accepts src f = true → s.isNew src f → cmdCheck f ≠ 0 ∨ frOp f = 0x32 → rejected f t)) ∧
      got 4 (.event p blocks) (fun k => routed k fun t =>
        let w := leNat ((k.payload.drop 4).take 4)
        recorded s t (if w / 256 % 2 = 1 then 0x1D2 else 0x1D3) (w % 4) ∧ t.outbox = s.outbox ++ back (msgCredits (.pkt k)) ∧
          sameRegs [EVR_ALERT_PEND, EVR_DROP, LNK_RX_PKT_CNT p] s t ∧ sameBut [.outbox] s t)) ∧
    (∀ (e : Fin 2) (f : List Byte),
      let ready := s.get (NET_STATUS_STATE e) = 2 ∧ s.ear e = .peer
      let far : List Out := if s.far e then [.farFrame e f] else []
      let dropped (t : State) : Prop := t.rd (NET_RX_FRAMES e) = s.rd (NET_RX_FRAMES e) + 1 ∧
        t.rd (NET_RX_DROP e) = satInc (s.rd (NET_RX_DROP e)) ∧ sameRegs [EVR_DROP, NET_RX_FRAMES e, NET_RX_DROP e] s t ∧ sameBut [] s t
      let sent (o : Out) (t : State) : Prop := t.outbox = s.outbox ++ (if s.speaks e then [o] else []) ∧ t.rd (NET_RX_FRAMES e) = s.rd (NET_RX_FRAMES e) + 1 ∧
        t.rd (NET_TX_FRAMES e) = s.rd (NET_TX_FRAMES e) + 1 ∧ sameRegs ([NET_RX_FRAMES e, NET_TX_FRAMES e] ++ wrRegs) s t ∧
        sameBut [.outbox] s t
      let fr := s.ethAccept e f
      let asked (cmd : Instr) (ok : EthFr → Option Out) : Prop := ∃ t, exec cmd s = .next t ∧
        (¬ ready → sameRegs [EVR_DROP] s t ∧ sameBut [.outbox] s t ∧ t.outbox = s.outbox ++ far) ∧
        (ready → match fr.bind ok with
          | some o => sent o t
          | none => dropped t)
      asked (.arpRequest e f) (fun x =>
        let b := x.body
        let ip := s.rdN (NET_IPV4 e)
        if x.ty = 0x0806 ∧ beNat (sub b 0 8) = 0x0001080006040001 ∧ ip ≠ 0 ∧ beNat (sub b 24 4) = ip ∧ 28 ≤ b.length then
          some (.arpReply e (BitVec.ofNat 48 (beNat (sub b 8 6))) (BitVec.ofNat 32 (beNat (sub b 14 4)))) else none) ∧
      asked (.icmpEchoRequest e f) (fun x =>
        let reply (v6 : Bool) (a : Nat) (m : List Byte) : Out := .echoReply e v6 (BitVec.ofNat 48 x.src) (BitVec.ofNat 128 a) (m.drop 4)
        if x.ty = 0x0800 then
          (ipv4Of x.body).bind fun y => if y.1 = 1 ∧ y.2.2.1 = s.rdN (NET_IPV4 e) ∧ y.2.2.1 ≠ 0 ∧ beNat (sub y.2.2.2 0 2) = 0x0800 ∧
            8 ≤ y.2.2.2.length ∧ y.2.2.2.length ≤ 1480 ∧ onesSum y.2.2.2 = 0 then some (reply false y.2.1 y.2.2.2) else none
        else if x.ty = 0x86DD ∧ s.flag (NET_CTRL_IPV6 e) = true then
          (ipv6Of x.body).bind fun y => if y.1 = 58 ∧ y.2.2.1 = s.ip6 e ∧ beNat (sub y.2.2.2 0 2) = 0x8000 ∧ 8 ≤ y.2.2.2.length ∧
            y.2.2.2.length ≤ 1460 ∧ onesSum (pseudo 16 y.2.1 y.2.2.1 58 y.2.2.2.length ++ y.2.2.2) = 0 then
              some (reply true y.2.1 y.2.2.2) else none
        else none) ∧
      asked (.neighbourSolicitation e f) (fun x =>
        if x.ty = 0x86DD ∧ s.flag (NET_CTRL_IPV6 e) = true then
          (ipv6Of x.body).bind fun y => if y.1 = 58 ∧ y.2.2.1 = 0xFF0200000000000000000001FF000000 + s.ip6 e % 2 ^ 24 ∧
            beNat (sub y.2.2.2 0 2) = 0x8700 ∧ beNat (sub y.2.2.2 8 16) = s.ip6 e ∧
            onesSum (pseudo 16 y.2.1 y.2.2.1 58 y.2.2.2.length ++ y.2.2.2) = 0 then
              some (.neighbourAdvert e (BitVec.ofNat 48 x.src) (BitVec.ofNat 128 y.2.1)) else none
        else none) ∧
      (∀ (bad : Bool) (x : Fec), ∃ t, exec (.ethFrameDrop ⟨e, x⟩ bad) s = .next t ∧
        fecCounted e x s t ∧ sameBut [] s t ∧
        sameRegs [EVR_DROP, NET_FEC_CORR e, NET_FEC_UNCORR e, NET_RX_FCS_ERR e, NET_RX_FRAMES e, NET_RX_DROP e] s t ∧
        let rise (c : Bool) (x : Word) : Word := if c then satInc x else x
        t.rd (NET_RX_FCS_ERR e) = rise (decide ready && bad) (s.rd (NET_RX_FCS_ERR e)) ∧
        t.rd (NET_RX_DROP e) = rise (decide ready && !bad) (s.rd (NET_RX_DROP e)) ∧
        t.rd (NET_RX_FRAMES e) = s.rd (NET_RX_FRAMES e) + if ready ∧ bad = false then 1 else 0) ∧
      (∀ x : Fec, ∃ t, exec (.ethCmdForward e x f) s = .next t ∧ fecCounted e x s t ∧
        let u := s.fecCount e x
        let same (regs : List Nat) : Prop := sameRegs (EVR_DROP :: regs) u t ∧ sameBut [.outbox] u t ∧ t.outbox = s.outbox ++ far
        let took : Prop := t.rd (NET_RX_FRAMES e) = s.rd (NET_RX_FRAMES e) + 1
        (¬ ready → same []) ∧
        (ready → s.cmdFrame e f = none → took ∧ t.rd (NET_RX_DROP e) = satInc (s.rd (NET_RX_DROP e)) ∧
          same [NET_RX_FRAMES e, NET_RX_DROP e]) ∧
        ∀ peer g, s.cmdFrame e f = some (peer, g) →
          let other := s.flag LNK_ADDR_VALID = true ∧ frBcast g = false ∧ frTarget g ≠ s.get LNK_ADDR_ADDR
          (s.accepts e g = true → ¬ other → same []) ∧
          (ready → s.accepts e g = false → took ∧ t.rd MGT_CMD_BAD_CNT = satInc (s.rd MGT_CMD_BAD_CNT) ∧
            t.flag MGT_CMD_STATUS_BAD_FRAME = true ∧ recorded s t 0x340 0 ∧
            same [EVR_ALERT_PEND, NET_RX_FRAMES e, MGT_CMD_BAD_CNT, MGT_CMD_STATUS]) ∧
          (ready → s.accepts e g = true → other → took ∧
            ((∀ j, j < 64 → (s.fwdGet j).isSome = true) → t.rd LNK_FWD_FULL_CNT = satInc (s.rd LNK_FWD_FULL_CNT) ∧
              recorded s t 0x1DB 0 ∧ sameBut [] s t) ∧
            (∀ i, i < 64 → s.fwdGet i = none → (∀ j, j < i → (s.fwdGet j).isSome = true) →
              let k : LnkPkt := { ty := 1, host := false, hops := 0, dest := BitVec.ofNat 16 (frTarget g),
                                  src := BitVec.ofNat 16 (s.get LNK_ADDR_ADDR), tag := BitVec.ofNat 32 i, payload := g }
              t.fwdGet i = some { port := e, peer := peer } ∧ (∀ j, j ≠ i → t.fwdGet j = s.fwdGet j) ∧
                sameBut (.fwd :: sendParts) s t ∧
                match s.route k none with
                | .port q => sentAs (s.lnkSend q (.pkt k) none) t
                | _ => sentAs s t ∧ t.rd LNK_UNREACH_CNT = satInc (s.rd LNK_UNREACH_CNT) ∧ recorded s t 0x1CE 0)))) ∧
    (∀ i : Fin 64, ∃ t, exec (.fwdEntryTimeout i) s = .next t ∧ t.fwdGet i = none ∧ (∀ j, j ≠ i.val → t.fwdGet j = s.fwdGet j) ∧
      (s.fwdGet i = none → nothing t) ∧ sameRegs [EVR_DROP, LNK_FWD] s t ∧ sameBut [.fwd] s t)

/-! ### The block as a whole -/

/-- A step takes the command at the front of the queue and carries it out with the queue's rest; where none waits, a TIME cycle
passes (R498; the model's choice, log entry 24). -/
def Obligations.StepRunsFront : Prop :=
  ∀ s : State,
    (∀ (c : Instr) (rest : List Instr), step { s with pending := c :: rest } = exec c { s with pending := rest }) ∧
    (s.pending = [] → step s = run State.timeCycle s)

/-- The block never stops: every command, in every state and with every operand, leads to a next state, and leaves the queue of the
commands that wait as it was.

It rests also on the model's own choices of log entry 7. -/
def Obligations.EveryCommandGoesOn : Prop := ∀ (c : Instr) (s : State), ∃ t, exec c s = .next t ∧ t.pending = s.pending

/-- An invariant of the recorder (R544): every step hands the events that it recorded on to the recorder's queue, which never holds
more than 64. -/
def Obligations.EventQueueKept : Prop :=
  ∀ s t : State, s.flushed = true → s.queueOk = true → step s = .next t → t.flushed = true ∧ t.queueOk = true

/-- An invariant of the stores: every step keeps the registers, the local memories, DRAM and the trace in their canonical form, in
which equal contents are equal data.

It rests also on the model's own choices of log entries 1 and 3. -/
def Obligations.StoresKept : Prop :=
  ∀ s t : State, s.regsOk = true → s.memOk = true → step s = .next t → t.regsOk = true ∧ t.memOk = true

/-- The state after reset meets the invariants, and holds what the spec gives for reset: every laser off and the interlock force
active (R581), the generator, the arbiter, the channels and the engines OFF, the sequence numbers at 0 (R322), and the reset values
of the registers of R592.

It rests also on the model's own choices of log entries 1 and 4. -/
def Obligations.ResetState : Prop :=
  let s := State.reset
  s.flushed = true ∧ s.queueOk = true ∧ s.regsOk = true ∧ s.memOk = true ∧ s.safe = true ∧ s.fabricUp = false ∧ s.pending = [] ∧
    s.sched = [] ∧ s.get GLB_VOL_STATUS_STATE = 0 ∧ s.get ARB_STATUS_STATE = 0 ∧
    (∀ b : Fin 32, s.get (BIO_STATUS_STATE b) = 0 ∧ s.get (SCN_STATUS_STATE b) = 0 ∧ s.rd (SCN_PC b) = 0) ∧
    (∀ i : Fin 9, s.rd (MGT_SEQ i) = 0) ∧ s.rd GLB_FAB_TO = 0x0000000A#32 ∧ s.rd GLB_SNAP_SEQ = 0 ∧ s.rd GLB_RST_CAUSE = 0 ∧
    s.rd GLB_FAB_TO_CNT = 0 ∧ s.rd TST_STATUS = 0 ∧ s.rd TST_VPHASE = 0 ∧
    ∀ k : Fin 8, s.rd (TST_PT_CFG k) = 0 ∧ s.rd (TST_PT_AMT k) = 0 ∧ s.rd (TST_PT_CNT k) = 0
end

