-- ==== Sys2Proof/Laws/Tables.lean ====
section
/-! SUPPORT. Laws of the sparse tables and byte memories: what a read after a write gives, and that every write keeps the
canonical form. -/

namespace Sys2Proof.Machine

variable {α : Type}

theorem tabGet_tabDrop (d : Nat → α) (t : List (Nat × α)) (k j : Nat) :
    tabGet d (tabDrop t k) j = if k = j then d j else tabGet d t j := by
  induction t with
  | nil => simp [tabDrop, tabGet]
  | cons x rest ih =>
    obtain ⟨k', v'⟩ := x
    by_cases h : k' = k
    · simp only [tabDrop, if_pos h, ih, tabGet]
      by_cases hj : k = j
      · simp [hj]
      · have : k' ≠ j := by omega
        simp [hj, this]
    · simp only [tabDrop, if_neg h, tabGet, ih]
      by_cases hj : k' = j
      · have : k ≠ j := by omega
        simp [hj, this]
      · simp [hj]

/-- Reading a table after a write: the written value at its key, the old value elsewhere. -/
theorem tabGet_tabSet [DecidableEq α] (d : Nat → α) (t : List (Nat × α)) (k j : Nat) (v : α) :
    tabGet d (tabSet d t k v) j = if k = j then v else tabGet d t j := by
  unfold tabSet
  split
  · rename_i hv
    rw [tabGet_tabDrop]
    by_cases hj : k = j
    · simp [hj, hv]
    · simp [hj]
  · have key : ∀ t : List (Nat × α), tabGet d (tabIns (tabDrop t k) k v) j = if k = j then v else tabGet d t j := by
      intro t
      induction t with
      | nil => simp only [tabDrop, tabIns, tabGet]
      | cons x rest ih =>
        obtain ⟨k', v'⟩ := x
        by_cases h : k' = k
        · simp only [tabDrop, if_pos h, ih, tabGet]
          by_cases hj : k = j
          · simp [hj]
          · have : k' ≠ j := by omega
            simp [hj, this]
        · simp only [tabDrop, if_neg h, tabIns]
          by_cases hk : k < k'
          · simp only [if_pos hk, tabGet, tabGet_tabDrop]
            by_cases hj : k = j <;> simp [hj]
          · simp only [if_neg hk, tabGet, ih]
            by_cases hj : k' = j
            · have : k ≠ j := by omega
              simp [hj, this]
            · simp [hj]
    exact key t

theorem tabWfFrom_mono [DecidableEq α] {d : Nat → α} {lo lo' : Nat} (h : lo' ≤ lo) :
    ∀ {t : List (Nat × α)}, tabWfFrom d lo t = true → tabWfFrom d lo' t = true
  | [], _ => rfl
  | (k, v) :: rest, w => by
    simp only [tabWfFrom, Bool.and_eq_true, decide_eq_true_eq] at w ⊢
    exact ⟨⟨by omega, w.1.2⟩, w.2⟩

theorem tabWfFrom_tabDrop [DecidableEq α] (d : Nat → α) (k : Nat) :
    ∀ (t : List (Nat × α)) (lo : Nat), tabWfFrom d lo t = true → tabWfFrom d lo (tabDrop t k) = true
  | [], _, _ => rfl
  | (k', v') :: rest, lo, w => by
    simp only [tabWfFrom, Bool.and_eq_true, decide_eq_true_eq] at w
    simp only [tabDrop]
    split
    · exact tabWfFrom_tabDrop d k rest lo (tabWfFrom_mono (by omega) w.2)
    · simp only [tabWfFrom, Bool.and_eq_true, decide_eq_true_eq]
      exact ⟨w.1, tabWfFrom_tabDrop d k rest _ w.2⟩

theorem tabWfFrom_tabIns [DecidableEq α] (d : Nat → α) (k : Nat) (v : α) (hv : v ≠ d k) :
    ∀ (t : List (Nat × α)) (lo : Nat), lo ≤ k → tabWfFrom d lo (tabDrop t k) = true →
      tabWfFrom d lo (tabIns (tabDrop t k) k v) = true
  | [], lo, hk, _ => by simp [tabDrop, tabIns, tabWfFrom, hk, hv]
  | (k', v') :: rest, lo, hk, w => by
    simp only [tabDrop] at w ⊢
    split
    · rename_i he
      simp only [if_pos he] at w
      exact tabWfFrom_tabIns d k v hv rest lo hk w
    · rename_i he
      simp only [if_neg he, tabWfFrom, Bool.and_eq_true, decide_eq_true_eq] at w
      simp only [tabIns]
      split
      · simp only [tabWfFrom, Bool.and_eq_true, decide_eq_true_eq]
        exact ⟨⟨hk, hv⟩, ⟨by omega, w.1.2⟩, w.2⟩
      · simp only [tabWfFrom, Bool.and_eq_true, decide_eq_true_eq]
        exact ⟨w.1, tabWfFrom_tabIns d k v hv rest _ (by omega) w.2⟩

/-- A write keeps the canonical form of a table. -/
theorem tabWf_tabSet [DecidableEq α] (d : Nat → α) (t : List (Nat × α)) (k : Nat) (v : α) (h : tabWf d t = true) :
    tabWf d (tabSet d t k v) = true := by
  unfold tabSet tabWf at *
  split
  · exact tabWfFrom_tabDrop d k t 0 h
  · rename_i hv
    exact tabWfFrom_tabIns d k v hv t 0 (Nat.zero_le _) (tabWfFrom_tabDrop d k t 0 h)

/-- Two tables in canonical form that read the same are the same data. -/
theorem tabWfFrom_ext [DecidableEq α] {d : Nat → α} :
    ∀ {t u : List (Nat × α)} {lo : Nat}, tabWfFrom d lo t = true → tabWfFrom d lo u = true →
      (∀ k, tabGet d t k = tabGet d u k) → t = u := by
  have low : ∀ {t : List (Nat × α)} {lo k : Nat}, tabWfFrom d lo t = true → k < lo → tabGet d t k = d k := by
    intro t
    induction t with
    | nil => intros; rfl
    | cons x rest ih =>
      intro lo k w hk
      obtain ⟨k', v'⟩ := x
      simp only [tabWfFrom, Bool.and_eq_true, decide_eq_true_eq] at w
      have : k' ≠ k := by omega
      simp only [tabGet, if_neg this]
      exact ih w.2 (by omega)
  intro t
  induction t with
  | nil =>
    intro u lo _ wu h
    cases u with
    | nil => rfl
    | cons y r =>
      obtain ⟨k', v'⟩ := y
      simp only [tabWfFrom, Bool.and_eq_true, decide_eq_true_eq] at wu
      have := h k'
      simp only [tabGet, if_true] at this
      exact absurd this.symm wu.1.2
  | cons x rest ih =>
    intro u lo wt wu h
    obtain ⟨k, v⟩ := x
    have wt' := wt
    simp only [tabWfFrom, Bool.and_eq_true, decide_eq_true_eq] at wt
    cases u with
    | nil =>
      have := h k
      simp only [tabGet, if_true] at this
      exact absurd this wt.1.2
    | cons y r =>
      obtain ⟨k', v'⟩ := y
      have wu' := wu
      simp only [tabWfFrom, Bool.and_eq_true, decide_eq_true_eq] at wu
      have hk : k = k' := by
        rcases Nat.lt_trichotomy k k' with hlt | heq | hgt
        · have h1 := h k
          have : k' ≠ k := by omega
          simp only [tabGet, if_true, if_neg this, low wu.2 (show k < k' + 1 by omega)] at h1
          exact absurd h1 wt.1.2
        · exact heq
        · have h1 := h k'
          have : k ≠ k' := by omega
          simp only [tabGet, if_true, if_neg this, low wt.2 (show k' < k + 1 by omega)] at h1
          exact absurd h1.symm wu.1.2
      subst hk
      have hv := h k
      simp only [tabGet, if_true] at hv
      subst hv
      have : rest = r := by
        refine ih wt.2 wu.2 fun j => ?_
        by_cases hj : k = j
        · subst hj
          rw [low wt.2 (by omega), low wu.2 (by omega)]
        · have := h j
          simpa only [tabGet, if_neg hj] using this
      rw [this]

/-! ### Byte memories -/

theorem memGet_memSet (m : List Host.Cell) (a j : Nat) (b : Byte) :
    memGet (memSet m a b) j = if a = j then b else memGet m j := tabGet_tabSet _ m a j b

theorem wf_memSet (m : List Host.Cell) (a : Nat) (b : Byte) (h : Memory.wf m = true) : Memory.wf (memSet m a b) = true :=
  tabWf_tabSet _ m a b h

/-- Reading one byte after bytes were written: the written byte within them, the old one elsewhere. -/
theorem memGet_memPut : ∀ (bs : List Byte) (m : List Host.Cell) (a j : Nat),
    memGet (memPut m a bs) j = if a ≤ j ∧ j < a + bs.length then bs.getD (j - a) 0#8 else memGet m j
  | [], m, a, j => by
    have : ¬ (a ≤ j ∧ j < a + 0) := by omega
    simp only [memPut, List.length_nil, if_neg this]
  | b :: bs, m, a, j => by
    rw [memPut, memGet_memPut bs, memGet_memSet]
    by_cases h1 : a = j
    · subst h1
      simp
    · by_cases h2 : a + 1 ≤ j ∧ j < a + 1 + bs.length
      · have h3 : a ≤ j ∧ j < a + (b :: bs).length := by simp only [List.length_cons]; omega
        have h4 : j - a = (j - (a + 1)) + 1 := by omega
        rw [if_pos h2, if_pos h3, h4]
        rfl
      · have h3 : ¬ (a ≤ j ∧ j < a + (b :: bs).length) := by simp only [List.length_cons]; omega
        rw [if_neg h2, if_neg h3, if_neg h1]

theorem wf_memPut : ∀ (bs : List Byte) (m : List Host.Cell) (a : Nat), Memory.wf m = true → Memory.wf (memPut m a bs) = true
  | [], _, _, h => h
  | b :: bs, m, a, h => wf_memPut bs _ _ (wf_memSet m a b h)

theorem length_memTake : ∀ (n : Nat) (m : List Host.Cell) (a : Nat), (memTake m a n).length = n
  | 0, _, _ => rfl
  | n + 1, m, a => by simp [memTake, length_memTake n m (a + 1)]

/-- Reading back the bytes that were written. -/
theorem memTake_memPut (bs : List Byte) (m : List Host.Cell) (a : Nat) : memTake (memPut m a bs) a bs.length = bs := by
  have key : ∀ (n : Nat) (m : List Host.Cell) (a : Nat) (l : List Byte), l.length = n →
      (∀ i, i < n → memGet m (a + i) = l.getD i 0#8) → memTake m a n = l := by
    intro n
    induction n with
    | zero => intro m a l hl _; simp only [memTake]; exact (List.length_eq_zero_iff.mp hl).symm
    | succ n ih =>
      intro m a l hl h
      cases l with
      | nil => simp at hl
      | cons x xs =>
        have h0 := h 0 (by omega)
        simp only [Nat.add_zero, List.getD_cons_zero] at h0
        have h1 := ih m (a + 1) xs (by simpa using hl) fun i hi => by
          have := h (i + 1) (by omega)
          rw [List.getD_cons_succ] at this
          rw [← this]
          congr 1
          omega
        simp only [memTake, h0, h1]
  refine key _ _ _ _ rfl fun i hi => ?_
  rw [memGet_memPut, if_pos (by omega)]
  congr 1
  omega

theorem length_leBytes : ∀ (n v : Nat), (leBytes n v).length = n
  | 0, _ => rfl
  | n + 1, v => by simp [leBytes, length_leBytes n]

/-- The little-endian bytes of a number spell it, modulo their width. -/
theorem leNat_leBytes : ∀ (n v : Nat), leNat (leBytes n v) = v % 256 ^ n
  | 0, v => by simp [leBytes, leNat, Nat.mod_one]
  | n + 1, v => by
    simp only [leBytes, leNat, leNat_leBytes n, BitVec.toNat_ofNat]
    rw [show (2 : Nat) ^ 8 = 256 from rfl, show 256 ^ (n + 1) = 256 * 256 ^ n by rw [Nat.pow_succ, Nat.mul_comm], Nat.mod_mul]

/-- The memories of the machine after reset are in canonical form. -/
theorem reset_mem_wf :
    Memory.wf State.reset.lmem = true ∧ Memory.wf State.reset.dram = true ∧ Memory.wf State.reset.trace = true :=
  ⟨rfl, rfl, rfl⟩

end Sys2Proof.Machine
end

