-- ==== Sys2Proof/Laws/State.lean ====
section
/-! SUPPORT. Laws of the state's updates: what each reading operation gives after each updating operation. A reading that an
update does not concern is unchanged, by definition. -/

namespace Sys2Proof.Machine

/-! ### Registers -/

@[simp] theorem rd_wr (s : State) (a off : Nat) (v : Word) : (s.wr a v).rd off = if a = off then v else s.rd off :=
  tabGet_tabSet _ _ _ _ _

theorem rd_wr_self (s : State) (a : Nat) (v : Word) : (s.wr a v).rd a = v := by simp

theorem rd_wr_ne (s : State) (a off : Nat) (v : Word) (h : a ≠ off) : (s.wr a v).rd off = s.rd off := by simp [h]

theorem rd_set (s : State) (f : Fld) (v off : Nat) :
    (s.set f v).rd off = if f.off = off then fldIns f.lo f.w (s.rd off) v else s.rd off := by
  unfold State.set
  rw [rd_wr]
  by_cases h : f.off = off
  · simp [h]
  · simp [h]

theorem rd_set_ne (s : State) (f : Fld) (v off : Nat) (h : f.off ≠ off) : (s.set f v).rd off = s.rd off := by
  simp [rd_set, h]

theorem rd_setFlag_ne (s : State) (f : Fld) (c : Bool) (off : Nat) (h : f.off ≠ off) : (s.setFlag f c).rd off = s.rd off :=
  rd_set_ne _ _ _ _ h

theorem get_wr_ne (s : State) (a : Nat) (v : Word) (g : Fld) (h : a ≠ g.off) : (s.wr a v).get g = s.get g := by
  simp [State.get, h]

theorem get_wr_self (s : State) (v : Word) (g : Fld) : (s.wr g.off v).get g = fldOf g.lo g.w v := by simp [State.get]

theorem get_set_ne (s : State) (f g : Fld) (v : Nat) (h : f.off ≠ g.off) : (s.set f v).get g = s.get g := by
  simp [State.get, rd_set, h]

theorem flag_set_ne (s : State) (f g : Fld) (v : Nat) (h : f.off ≠ g.off) : (s.set f v).flag g = s.flag g := by
  simp [State.flag, get_set_ne _ _ _ _ h]

theorem flag_wr_ne (s : State) (a : Nat) (v : Word) (g : Fld) (h : a ≠ g.off) : (s.wr a v).flag g = s.flag g := by
  simp [State.flag, get_wr_ne _ _ _ _ h]

theorem testBit_toNat_fldMask (lo w i : Nat) (h : lo + w ≤ 32) :
    (((1#32 <<< w) - 1#32) <<< lo : Word).getLsbD i = (decide (lo ≤ i) && decide (i < lo + w)) := by
  have hm : ((1#32 <<< w) - 1#32 : Word) = BitVec.ofNat 32 (2 ^ w - 1) := by
    apply BitVec.eq_of_toNat_eq
    by_cases hw : w = 32
    · subst hw; rfl
    · have hlt : 2 ^ w < 2 ^ 32 := Nat.pow_lt_pow_right (by omega) (by omega)
      have hpos : 0 < 2 ^ w := Nat.pow_pos (by omega)
      simp only [BitVec.toNat_sub, BitVec.toNat_shiftLeft, BitVec.toNat_ofNat, Nat.shiftLeft_eq]
      omega
  rw [hm, BitVec.getLsbD_shiftLeft, BitVec.getLsbD_ofNat, Nat.testBit_two_pow_sub_one]
  by_cases h1 : lo ≤ i <;> by_cases h2 : i < lo + w
  · have : i < 32 := by omega
    have : i - lo < w := by omega
    have : i - lo < 32 := by omega
    have : ¬ i < lo := by omega
    simp [*]
  · have : ¬ i - lo < w := by omega
    simp [*]
  · have : i < lo := by omega
    simp [*]
  · omega

/-- A field reads back what was put into it, cut to its width. -/
theorem fldOf_fldIns (lo w : Nat) (x : Word) (v : Nat) (h : lo + w ≤ 32) : fldOf lo w (fldIns lo w x v) = v % 2 ^ w := by
  apply Nat.eq_of_testBit_eq
  intro i
  unfold fldOf fldIns
  rw [Nat.testBit_mod_two_pow, Nat.testBit_mod_two_pow, Nat.testBit_div_two_pow, BitVec.testBit_toNat]
  simp only [BitVec.getLsbD_or, BitVec.getLsbD_and, BitVec.getLsbD_not, testBit_toNat_fldMask lo w _ h,
    BitVec.getLsbD_shiftLeft, BitVec.getLsbD_ofNat]
  by_cases hi : i < w
  · have h1 : lo ≤ i + lo := by omega
    have h2 : i + lo < lo + w := by omega
    have h3 : i + lo < 32 := by omega
    have h4 : i < 32 := by omega
    simp [hi, h2, h3, h4]
  · simp [hi]

/-- Putting a value into a field leaves a field beside it alone. -/
theorem fldOf_fldIns_ne (lo w lo' w' : Nat) (x : Word) (v : Nat) (h : lo + w ≤ 32)
    (hd : lo + w ≤ lo' ∨ lo' + w' ≤ lo) : fldOf lo' w' (fldIns lo w x v) = fldOf lo' w' x := by
  apply Nat.eq_of_testBit_eq
  intro i
  unfold fldOf fldIns
  rw [Nat.testBit_mod_two_pow, Nat.testBit_mod_two_pow, Nat.testBit_div_two_pow, Nat.testBit_div_two_pow,
    BitVec.testBit_toNat, BitVec.testBit_toNat]
  simp only [BitVec.getLsbD_or, BitVec.getLsbD_and, BitVec.getLsbD_not, testBit_toNat_fldMask lo w _ h]
  by_cases hi : i < w'
  · have h1 : ¬ (lo ≤ i + lo' ∧ i + lo' < lo + w) := by omega
    by_cases h2 : i + lo' < 32
    · by_cases h3 : lo ≤ i + lo'
      · have : ¬ i + lo' < lo + w := by omega
        simp [hi, h2, h3, this]
      · simp [hi, h2, h3]
    · have : x.getLsbD (i + lo') = false := BitVec.getLsbD_of_ge _ _ (by omega)
      simp [this, h2]
  · simp [hi]

theorem get_set_self (s : State) (f : Fld) (v : Nat) (h : f.lo + f.w ≤ 32) : (s.set f v).get f = v % 2 ^ f.w := by
  simp [State.get, rd_set, fldOf_fldIns _ _ _ _ h]

theorem get_set_beside (s : State) (f g : Fld) (v : Nat) (h : f.lo + f.w ≤ 32)
    (hd : f.lo + f.w ≤ g.lo ∨ g.lo + g.w ≤ f.lo) : (s.set f v).get g = s.get g := by
  simp only [State.get, rd_set]
  split
  · exact fldOf_fldIns_ne _ _ _ _ _ _ h hd
  · rfl

theorem flag_set_beside (s : State) (f g : Fld) (v : Nat) (h : f.lo + f.w ≤ 32)
    (hd : f.lo + f.w ≤ g.lo ∨ g.lo + g.w ≤ f.lo) : (s.set f v).flag g = s.flag g := by
  simp [State.flag, get_set_beside _ _ _ _ h hd]

theorem flag_setFlag_self (s : State) (f : Fld) (c : Bool) (h : f.lo + f.w ≤ 32) (hw : f.w ≠ 0) :
    (s.setFlag f c).flag f = c := by
  unfold State.flag State.setFlag
  rw [get_set_self _ _ _ h]
  have : 1 < 2 ^ f.w := Nat.one_lt_two_pow hw
  cases c
  · simp
  · simp [Nat.mod_eq_of_lt this]

theorem rd_wr64 (s : State) (lo v off : Nat) :
    (s.wr64 lo v).rd off = if lo + 4 = off then BitVec.ofNat 32 (v / 2 ^ 32)
      else if lo = off then BitVec.ofNat 32 v else s.rd off := by
  simp [State.wr64]

/-- A two-register value reads back, modulo 2^64. -/
theorem rd64_wr64 (s : State) (lo v : Nat) : (s.wr64 lo v).rd64 lo = v % 2 ^ 64 := by
  unfold State.rd64 State.rdN
  rw [rd_wr64, rd_wr64]
  have h : ¬ lo + 4 = lo := by omega
  simp only [if_neg h, if_true, BitVec.toNat_ofNat]
  omega

theorem rd64_wr_ne (s : State) (a lo : Nat) (v : Word) (h : a ≠ lo) (h' : a ≠ lo + 4) : (s.wr a v).rd64 lo = s.rd64 lo := by
  simp [State.rd64, State.rdN, h, h']

theorem rd_bumpSat (s : State) (a off : Nat) :
    (s.bumpSat a).rd off = if a = off then (if s.rd off = 0xFFFFFFFF#32 then s.rd off else s.rd off + 1) else s.rd off := by
  unfold State.bumpSat
  split
  · rename_i h
    by_cases ha : a = off
    · subst ha; simp [h]
    · simp [ha]
  · rename_i h
    rw [rd_wr]
    by_cases ha : a = off
    · subst ha; simp [h]
    · simp [ha]

/-- What an update of registers does not concern, a saturating count does not concern. -/
theorem apply_bumpSat {α : Sort _} {s : State} {a : Nat} (f : State → α) (h : f (s.wr a (s.rd a + 1)) = f s) :
    f (s.bumpSat a) = f s := by
  unfold State.bumpSat
  by_cases hc : s.rd a = 0xFFFFFFFF#32
  · rw [if_pos hc]
  · rw [if_neg hc, h]

theorem rd_bumpWrap (s : State) (a off : Nat) :
    (s.bumpWrap a).rd off = if a = off then s.rd off + 1 else s.rd off := by
  unfold State.bumpWrap
  rw [rd_wr]
  by_cases ha : a = off
  · subst ha; simp
  · simp [ha]

theorem rd_when (s : State) (c : Bool) (f : State → State) (off : Nat) :
    (s.when c f).rd off = if c then (f s).rd off else s.rd off := by
  unfold State.when
  split <;> rfl

/-! ### The updates of registers and what they do not concern -/

@[simp] theorem wr_beam (s : State) (a : Nat) (v : Word) (i : Nat) : (s.wr a v).beam i = s.beam i := (rfl)
@[simp] theorem wr_pd (s : State) (a : Nat) (v : Word) (i : Nat) : (s.wr a v).pd i = s.pd i := (rfl)
@[simp] theorem wr_port (s : State) (a : Nat) (v : Word) (i : Nat) : (s.wr a v).port i = s.port i := (rfl)
@[simp] theorem wr_ctx (s : State) (a : Nat) (v : Word) (i : Nat) : (s.wr a v).ctx i = s.ctx i := (rfl)
@[simp] theorem wr_cb (s : State) (a : Nat) (v : Word) (i : Nat) : (s.wr a v).cb i = s.cb i := (rfl)
@[simp] theorem wr_cle (s : State) (a : Nat) (v : Word) (i : Nat) : (s.wr a v).cle i = s.cle i := (rfl)
@[simp] theorem wr_pool (s : State) (a : Nat) (v : Word) (i : Nat) : (s.wr a v).pool i = s.pool i := (rfl)
@[simp] theorem wr_bar (s : State) (a : Nat) (v : Word) (i : Nat) : (s.wr a v).bar i = s.bar i := (rfl)
@[simp] theorem wr_dma (s : State) (a : Nat) (v : Word) (i : Nat) : (s.wr a v).dma i = s.dma i := (rfl)
@[simp] theorem wr_codec (s : State) (a : Nat) (v : Word) (i : Nat) : (s.wr a v).codec i = s.codec i := (rfl)
@[simp] theorem wr_mch (s : State) (a : Nat) (v : Word) (i : Nat) : (s.wr a v).mch i = s.mch i := (rfl)
@[simp] theorem wr_eng (s : State) (a : Nat) (v : Word) (i : Nat) : (s.wr a v).eng i = s.eng i := (rfl)
@[simp] theorem wr_lane (s : State) (a : Nat) (v : Word) (i : Nat) : (s.wr a v).lane i = s.lane i := (rfl)
@[simp] theorem wr_lnk (s : State) (a : Nat) (v : Word) (i : Nat) : (s.wr a v).lnk i = s.lnk i := (rfl)
@[simp] theorem wr_sink (s : State) (a : Nat) (v : Word) (i : Nat) : (s.wr a v).sink i = s.sink i := (rfl)
@[simp] theorem wr_net (s : State) (a : Nat) (v : Word) (i : Nat) : (s.wr a v).net i = s.net i := (rfl)
@[simp] theorem wr_qe (s : State) (a : Nat) (v : Word) (i : Nat) : (s.wr a v).qe i = s.qe i := (rfl)
@[simp] theorem wr_eo (s : State) (a : Nat) (v : Word) (i : Nat) : (s.wr a v).eo i = s.eo i := (rfl)
@[simp] theorem wr_tb (s : State) (a : Nat) (v : Word) (i : Nat) : (s.wr a v).tb i = s.tb i := (rfl)
@[simp] theorem wr_ax (s : State) (a : Nat) (v : Word) (i : Nat) : (s.wr a v).ax i = s.ax i := (rfl)
@[simp] theorem wr_pending (s : State) (a : Nat) (v : Word) : (s.wr a v).pending = s.pending := (rfl)
@[simp] theorem wr_lmem (s : State) (a : Nat) (v : Word) : (s.wr a v).lmem = s.lmem := (rfl)
@[simp] theorem wr_dram (s : State) (a : Nat) (v : Word) : (s.wr a v).dram = s.dram := (rfl)
@[simp] theorem wr_trace (s : State) (a : Nat) (v : Word) : (s.wr a v).trace = s.trace := (rfl)
@[simp] theorem wr_evNew (s : State) (a : Nat) (v : Word) : (s.wr a v).evNew = s.evNew := (rfl)
@[simp] theorem wr_evq (s : State) (a : Nat) (v : Word) : (s.wr a v).evq = s.evq := (rfl)
@[simp] theorem wr_evLoss (s : State) (a : Nat) (v : Word) : (s.wr a v).evLoss = s.evLoss := (rfl)
@[simp] theorem wr_supplyHeld (s : State) (a : Nat) (v : Word) : (s.wr a v).supplyHeld = s.supplyHeld := (rfl)
@[simp] theorem wr_clockLost (s : State) (a : Nat) (v : Word) : (s.wr a v).clockLost = s.clockLost := (rfl)
@[simp] theorem wr_fabricUp (s : State) (a : Nat) (v : Word) : (s.wr a v).fabricUp = s.fabricUp := (rfl)
@[simp] theorem wr_tstArmed (s : State) (a : Nat) (v : Word) : (s.wr a v).tstArmed = s.tstArmed := (rfl)
@[simp] theorem wr_fresh (s : State) (a : Nat) (v : Word) : (s.wr a v).fresh = s.fresh := (rfl)
@[simp] theorem wr_outbox (s : State) (a : Nat) (v : Word) : (s.wr a v).outbox = s.outbox := (rfl)
@[simp] theorem wr_late (s : State) (a : Nat) (v : Word) : (s.wr a v).late = s.late := (rfl)
@[simp] theorem wr_fetched (s : State) (a : Nat) (v : Word) : (s.wr a v).fetched = s.fetched := (rfl)
@[simp] theorem wr_ilkLvl (s : State) (a : Nat) (v : Word) : (s.wr a v).ilkLvl = s.ilkLvl := (rfl)
@[simp] theorem wr_laneDark (s : State) (a : Nat) (v : Word) : (s.wr a v).laneDark = s.laneDark := (rfl)
@[simp] theorem wr_inEdge (s : State) (a : Nat) (v : Word) : (s.wr a v).inEdge = s.inEdge := (rfl)
@[simp] theorem wr_ssNow (s : State) (a : Nat) (v : Word) : (s.wr a v).ssNow = s.ssNow := (rfl)
@[simp] theorem wr_seen (s : State) (a : Nat) (v : Word) : (s.wr a v).seen = s.seen := (rfl)
@[simp] theorem wr_winLead (s : State) (a : Nat) (v : Word) : (s.wr a v).winLead = s.winLead := (rfl)
@[simp] theorem wr_alive (s : State) (a : Nat) (v : Word) : (s.wr a v).alive = s.alive := (rfl)
@[simp] theorem wr_dramWait (s : State) (a : Nat) (v : Word) : (s.wr a v).dramWait = s.dramWait := (rfl)
@[simp] theorem wr_mapFrom (s : State) (a : Nat) (v : Word) : (s.wr a v).mapFrom = s.mapFrom := (rfl)
@[simp] theorem wr_linkVols (s : State) (a : Nat) (v : Word) : (s.wr a v).linkVols = s.linkVols := (rfl)
@[simp] theorem wr_starting (s : State) (a : Nat) (v : Word) : (s.wr a v).starting = s.starting := (rfl)
@[simp] theorem set_beam (s : State) (f : Fld) (v : Nat) (i : Nat) : (s.set f v).beam i = s.beam i := (rfl)
@[simp] theorem set_pd (s : State) (f : Fld) (v : Nat) (i : Nat) : (s.set f v).pd i = s.pd i := (rfl)
@[simp] theorem set_port (s : State) (f : Fld) (v : Nat) (i : Nat) : (s.set f v).port i = s.port i := (rfl)
@[simp] theorem set_ctx (s : State) (f : Fld) (v : Nat) (i : Nat) : (s.set f v).ctx i = s.ctx i := (rfl)
@[simp] theorem set_cb (s : State) (f : Fld) (v : Nat) (i : Nat) : (s.set f v).cb i = s.cb i := (rfl)
@[simp] theorem set_cle (s : State) (f : Fld) (v : Nat) (i : Nat) : (s.set f v).cle i = s.cle i := (rfl)
@[simp] theorem set_pool (s : State) (f : Fld) (v : Nat) (i : Nat) : (s.set f v).pool i = s.pool i := (rfl)
@[simp] theorem set_bar (s : State) (f : Fld) (v : Nat) (i : Nat) : (s.set f v).bar i = s.bar i := (rfl)
@[simp] theorem set_dma (s : State) (f : Fld) (v : Nat) (i : Nat) : (s.set f v).dma i = s.dma i := (rfl)
@[simp] theorem set_codec (s : State) (f : Fld) (v : Nat) (i : Nat) : (s.set f v).codec i = s.codec i := (rfl)
@[simp] theorem set_mch (s : State) (f : Fld) (v : Nat) (i : Nat) : (s.set f v).mch i = s.mch i := (rfl)
@[simp] theorem set_eng (s : State) (f : Fld) (v : Nat) (i : Nat) : (s.set f v).eng i = s.eng i := (rfl)
@[simp] theorem set_lane (s : State) (f : Fld) (v : Nat) (i : Nat) : (s.set f v).lane i = s.lane i := (rfl)
@[simp] theorem set_lnk (s : State) (f : Fld) (v : Nat) (i : Nat) : (s.set f v).lnk i = s.lnk i := (rfl)
@[simp] theorem set_sink (s : State) (f : Fld) (v : Nat) (i : Nat) : (s.set f v).sink i = s.sink i := (rfl)
@[simp] theorem set_net (s : State) (f : Fld) (v : Nat) (i : Nat) : (s.set f v).net i = s.net i := (rfl)
@[simp] theorem set_qe (s : State) (f : Fld) (v : Nat) (i : Nat) : (s.set f v).qe i = s.qe i := (rfl)
@[simp] theorem set_eo (s : State) (f : Fld) (v : Nat) (i : Nat) : (s.set f v).eo i = s.eo i := (rfl)
@[simp] theorem set_tb (s : State) (f : Fld) (v : Nat) (i : Nat) : (s.set f v).tb i = s.tb i := (rfl)
@[simp] theorem set_ax (s : State) (f : Fld) (v : Nat) (i : Nat) : (s.set f v).ax i = s.ax i := (rfl)
@[simp] theorem set_pending (s : State) (f : Fld) (v : Nat) : (s.set f v).pending = s.pending := (rfl)
@[simp] theorem set_lmem (s : State) (f : Fld) (v : Nat) : (s.set f v).lmem = s.lmem := (rfl)
@[simp] theorem set_dram (s : State) (f : Fld) (v : Nat) : (s.set f v).dram = s.dram := (rfl)
@[simp] theorem set_trace (s : State) (f : Fld) (v : Nat) : (s.set f v).trace = s.trace := (rfl)
@[simp] theorem set_evNew (s : State) (f : Fld) (v : Nat) : (s.set f v).evNew = s.evNew := (rfl)
@[simp] theorem set_evq (s : State) (f : Fld) (v : Nat) : (s.set f v).evq = s.evq := (rfl)
@[simp] theorem set_evLoss (s : State) (f : Fld) (v : Nat) : (s.set f v).evLoss = s.evLoss := (rfl)
@[simp] theorem set_supplyHeld (s : State) (f : Fld) (v : Nat) : (s.set f v).supplyHeld = s.supplyHeld := (rfl)
@[simp] theorem set_clockLost (s : State) (f : Fld) (v : Nat) : (s.set f v).clockLost = s.clockLost := (rfl)
@[simp] theorem set_fabricUp (s : State) (f : Fld) (v : Nat) : (s.set f v).fabricUp = s.fabricUp := (rfl)
@[simp] theorem set_tstArmed (s : State) (f : Fld) (v : Nat) : (s.set f v).tstArmed = s.tstArmed := (rfl)
@[simp] theorem set_fresh (s : State) (f : Fld) (v : Nat) : (s.set f v).fresh = s.fresh := (rfl)
@[simp] theorem set_outbox (s : State) (f : Fld) (v : Nat) : (s.set f v).outbox = s.outbox := (rfl)
@[simp] theorem set_late (s : State) (f : Fld) (v : Nat) : (s.set f v).late = s.late := (rfl)
@[simp] theorem set_fetched (s : State) (f : Fld) (v : Nat) : (s.set f v).fetched = s.fetched := (rfl)
@[simp] theorem set_ilkLvl (s : State) (f : Fld) (v : Nat) : (s.set f v).ilkLvl = s.ilkLvl := (rfl)
@[simp] theorem set_laneDark (s : State) (f : Fld) (v : Nat) : (s.set f v).laneDark = s.laneDark := (rfl)
@[simp] theorem set_inEdge (s : State) (f : Fld) (v : Nat) : (s.set f v).inEdge = s.inEdge := (rfl)
@[simp] theorem set_ssNow (s : State) (f : Fld) (v : Nat) : (s.set f v).ssNow = s.ssNow := (rfl)
@[simp] theorem set_seen (s : State) (f : Fld) (v : Nat) : (s.set f v).seen = s.seen := (rfl)
@[simp] theorem set_winLead (s : State) (f : Fld) (v : Nat) : (s.set f v).winLead = s.winLead := (rfl)
@[simp] theorem set_alive (s : State) (f : Fld) (v : Nat) : (s.set f v).alive = s.alive := (rfl)
@[simp] theorem set_dramWait (s : State) (f : Fld) (v : Nat) : (s.set f v).dramWait = s.dramWait := (rfl)
@[simp] theorem set_mapFrom (s : State) (f : Fld) (v : Nat) : (s.set f v).mapFrom = s.mapFrom := (rfl)
@[simp] theorem set_linkVols (s : State) (f : Fld) (v : Nat) : (s.set f v).linkVols = s.linkVols := (rfl)
@[simp] theorem set_starting (s : State) (f : Fld) (v : Nat) : (s.set f v).starting = s.starting := (rfl)
@[simp] theorem setFlag_beam (s : State) (f : Fld) (c : Bool) (i : Nat) : (s.setFlag f c).beam i = s.beam i := (rfl)
@[simp] theorem setFlag_pd (s : State) (f : Fld) (c : Bool) (i : Nat) : (s.setFlag f c).pd i = s.pd i := (rfl)
@[simp] theorem setFlag_port (s : State) (f : Fld) (c : Bool) (i : Nat) : (s.setFlag f c).port i = s.port i := (rfl)
@[simp] theorem setFlag_ctx (s : State) (f : Fld) (c : Bool) (i : Nat) : (s.setFlag f c).ctx i = s.ctx i := (rfl)
@[simp] theorem setFlag_cb (s : State) (f : Fld) (c : Bool) (i : Nat) : (s.setFlag f c).cb i = s.cb i := (rfl)
@[simp] theorem setFlag_cle (s : State) (f : Fld) (c : Bool) (i : Nat) : (s.setFlag f c).cle i = s.cle i := (rfl)
@[simp] theorem setFlag_pool (s : State) (f : Fld) (c : Bool) (i : Nat) : (s.setFlag f c).pool i = s.pool i := (rfl)
@[simp] theorem setFlag_bar (s : State) (f : Fld) (c : Bool) (i : Nat) : (s.setFlag f c).bar i = s.bar i := (rfl)
@[simp] theorem setFlag_dma (s : State) (f : Fld) (c : Bool) (i : Nat) : (s.setFlag f c).dma i = s.dma i := (rfl)
@[simp] theorem setFlag_codec (s : State) (f : Fld) (c : Bool) (i : Nat) : (s.setFlag f c).codec i = s.codec i := (rfl)
@[simp] theorem setFlag_mch (s : State) (f : Fld) (c : Bool) (i : Nat) : (s.setFlag f c).mch i = s.mch i := (rfl)
@[simp] theorem setFlag_eng (s : State) (f : Fld) (c : Bool) (i : Nat) : (s.setFlag f c).eng i = s.eng i := (rfl)
@[simp] theorem setFlag_lane (s : State) (f : Fld) (c : Bool) (i : Nat) : (s.setFlag f c).lane i = s.lane i := (rfl)
@[simp] theorem setFlag_lnk (s : State) (f : Fld) (c : Bool) (i : Nat) : (s.setFlag f c).lnk i = s.lnk i := (rfl)
@[simp] theorem setFlag_sink (s : State) (f : Fld) (c : Bool) (i : Nat) : (s.setFlag f c).sink i = s.sink i := (rfl)
@[simp] theorem setFlag_net (s : State) (f : Fld) (c : Bool) (i : Nat) : (s.setFlag f c).net i = s.net i := (rfl)
@[simp] theorem setFlag_qe (s : State) (f : Fld) (c : Bool) (i : Nat) : (s.setFlag f c).qe i = s.qe i := (rfl)
@[simp] theorem setFlag_eo (s : State) (f : Fld) (c : Bool) (i : Nat) : (s.setFlag f c).eo i = s.eo i := (rfl)
@[simp] theorem setFlag_tb (s : State) (f : Fld) (c : Bool) (i : Nat) : (s.setFlag f c).tb i = s.tb i := (rfl)
@[simp] theorem setFlag_ax (s : State) (f : Fld) (c : Bool) (i : Nat) : (s.setFlag f c).ax i = s.ax i := (rfl)
@[simp] theorem setFlag_pending (s : State) (f : Fld) (c : Bool) : (s.setFlag f c).pending = s.pending := (rfl)
@[simp] theorem setFlag_lmem (s : State) (f : Fld) (c : Bool) : (s.setFlag f c).lmem = s.lmem := (rfl)
@[simp] theorem setFlag_dram (s : State) (f : Fld) (c : Bool) : (s.setFlag f c).dram = s.dram := (rfl)
@[simp] theorem setFlag_trace (s : State) (f : Fld) (c : Bool) : (s.setFlag f c).trace = s.trace := (rfl)
@[simp] theorem setFlag_evNew (s : State) (f : Fld) (c : Bool) : (s.setFlag f c).evNew = s.evNew := (rfl)
@[simp] theorem setFlag_evq (s : State) (f : Fld) (c : Bool) : (s.setFlag f c).evq = s.evq := (rfl)
@[simp] theorem setFlag_evLoss (s : State) (f : Fld) (c : Bool) : (s.setFlag f c).evLoss = s.evLoss := (rfl)
@[simp] theorem setFlag_supplyHeld (s : State) (f : Fld) (c : Bool) : (s.setFlag f c).supplyHeld = s.supplyHeld := (rfl)
@[simp] theorem setFlag_clockLost (s : State) (f : Fld) (c : Bool) : (s.setFlag f c).clockLost = s.clockLost := (rfl)
@[simp] theorem setFlag_fabricUp (s : State) (f : Fld) (c : Bool) : (s.setFlag f c).fabricUp = s.fabricUp := (rfl)
@[simp] theorem setFlag_tstArmed (s : State) (f : Fld) (c : Bool) : (s.setFlag f c).tstArmed = s.tstArmed := (rfl)
@[simp] theorem setFlag_fresh (s : State) (f : Fld) (c : Bool) : (s.setFlag f c).fresh = s.fresh := (rfl)
@[simp] theorem setFlag_outbox (s : State) (f : Fld) (c : Bool) : (s.setFlag f c).outbox = s.outbox := (rfl)
@[simp] theorem setFlag_late (s : State) (f : Fld) (c : Bool) : (s.setFlag f c).late = s.late := (rfl)
@[simp] theorem setFlag_fetched (s : State) (f : Fld) (c : Bool) : (s.setFlag f c).fetched = s.fetched := (rfl)
@[simp] theorem setFlag_ilkLvl (s : State) (f : Fld) (c : Bool) : (s.setFlag f c).ilkLvl = s.ilkLvl := (rfl)
@[simp] theorem setFlag_laneDark (s : State) (f : Fld) (c : Bool) : (s.setFlag f c).laneDark = s.laneDark := (rfl)
@[simp] theorem setFlag_inEdge (s : State) (f : Fld) (c : Bool) : (s.setFlag f c).inEdge = s.inEdge := (rfl)
@[simp] theorem setFlag_ssNow (s : State) (f : Fld) (c : Bool) : (s.setFlag f c).ssNow = s.ssNow := (rfl)
@[simp] theorem setFlag_seen (s : State) (f : Fld) (c : Bool) : (s.setFlag f c).seen = s.seen := (rfl)
@[simp] theorem setFlag_winLead (s : State) (f : Fld) (c : Bool) : (s.setFlag f c).winLead = s.winLead := (rfl)
@[simp] theorem setFlag_alive (s : State) (f : Fld) (c : Bool) : (s.setFlag f c).alive = s.alive := (rfl)
@[simp] theorem setFlag_dramWait (s : State) (f : Fld) (c : Bool) : (s.setFlag f c).dramWait = s.dramWait := (rfl)
@[simp] theorem setFlag_mapFrom (s : State) (f : Fld) (c : Bool) : (s.setFlag f c).mapFrom = s.mapFrom := (rfl)
@[simp] theorem setFlag_linkVols (s : State) (f : Fld) (c : Bool) : (s.setFlag f c).linkVols = s.linkVols := (rfl)
@[simp] theorem setFlag_starting (s : State) (f : Fld) (c : Bool) : (s.setFlag f c).starting = s.starting := (rfl)
@[simp] theorem wr64_beam (s : State) (a v : Nat) (i : Nat) : (s.wr64 a v).beam i = s.beam i := (rfl)
@[simp] theorem wr64_pd (s : State) (a v : Nat) (i : Nat) : (s.wr64 a v).pd i = s.pd i := (rfl)
@[simp] theorem wr64_port (s : State) (a v : Nat) (i : Nat) : (s.wr64 a v).port i = s.port i := (rfl)
@[simp] theorem wr64_ctx (s : State) (a v : Nat) (i : Nat) : (s.wr64 a v).ctx i = s.ctx i := (rfl)
@[simp] theorem wr64_cb (s : State) (a v : Nat) (i : Nat) : (s.wr64 a v).cb i = s.cb i := (rfl)
@[simp] theorem wr64_cle (s : State) (a v : Nat) (i : Nat) : (s.wr64 a v).cle i = s.cle i := (rfl)
@[simp] theorem wr64_pool (s : State) (a v : Nat) (i : Nat) : (s.wr64 a v).pool i = s.pool i := (rfl)
@[simp] theorem wr64_bar (s : State) (a v : Nat) (i : Nat) : (s.wr64 a v).bar i = s.bar i := (rfl)
@[simp] theorem wr64_dma (s : State) (a v : Nat) (i : Nat) : (s.wr64 a v).dma i = s.dma i := (rfl)
@[simp] theorem wr64_codec (s : State) (a v : Nat) (i : Nat) : (s.wr64 a v).codec i = s.codec i := (rfl)
@[simp] theorem wr64_mch (s : State) (a v : Nat) (i : Nat) : (s.wr64 a v).mch i = s.mch i := (rfl)
@[simp] theorem wr64_eng (s : State) (a v : Nat) (i : Nat) : (s.wr64 a v).eng i = s.eng i := (rfl)
@[simp] theorem wr64_lane (s : State) (a v : Nat) (i : Nat) : (s.wr64 a v).lane i = s.lane i := (rfl)
@[simp] theorem wr64_lnk (s : State) (a v : Nat) (i : Nat) : (s.wr64 a v).lnk i = s.lnk i := (rfl)
@[simp] theorem wr64_sink (s : State) (a v : Nat) (i : Nat) : (s.wr64 a v).sink i = s.sink i := (rfl)
@[simp] theorem wr64_net (s : State) (a v : Nat) (i : Nat) : (s.wr64 a v).net i = s.net i := (rfl)
@[simp] theorem wr64_qe (s : State) (a v : Nat) (i : Nat) : (s.wr64 a v).qe i = s.qe i := (rfl)
@[simp] theorem wr64_eo (s : State) (a v : Nat) (i : Nat) : (s.wr64 a v).eo i = s.eo i := (rfl)
@[simp] theorem wr64_tb (s : State) (a v : Nat) (i : Nat) : (s.wr64 a v).tb i = s.tb i := (rfl)
@[simp] theorem wr64_ax (s : State) (a v : Nat) (i : Nat) : (s.wr64 a v).ax i = s.ax i := (rfl)
@[simp] theorem wr64_pending (s : State) (a v : Nat) : (s.wr64 a v).pending = s.pending := (rfl)
@[simp] theorem wr64_lmem (s : State) (a v : Nat) : (s.wr64 a v).lmem = s.lmem := (rfl)
@[simp] theorem wr64_dram (s : State) (a v : Nat) : (s.wr64 a v).dram = s.dram := (rfl)
@[simp] theorem wr64_trace (s : State) (a v : Nat) : (s.wr64 a v).trace = s.trace := (rfl)
@[simp] theorem wr64_evNew (s : State) (a v : Nat) : (s.wr64 a v).evNew = s.evNew := (rfl)
@[simp] theorem wr64_evq (s : State) (a v : Nat) : (s.wr64 a v).evq = s.evq := (rfl)
@[simp] theorem wr64_evLoss (s : State) (a v : Nat) : (s.wr64 a v).evLoss = s.evLoss := (rfl)
@[simp] theorem wr64_supplyHeld (s : State) (a v : Nat) : (s.wr64 a v).supplyHeld = s.supplyHeld := (rfl)
@[simp] theorem wr64_clockLost (s : State) (a v : Nat) : (s.wr64 a v).clockLost = s.clockLost := (rfl)
@[simp] theorem wr64_fabricUp (s : State) (a v : Nat) : (s.wr64 a v).fabricUp = s.fabricUp := (rfl)
@[simp] theorem wr64_tstArmed (s : State) (a v : Nat) : (s.wr64 a v).tstArmed = s.tstArmed := (rfl)
@[simp] theorem wr64_fresh (s : State) (a v : Nat) : (s.wr64 a v).fresh = s.fresh := (rfl)
@[simp] theorem wr64_outbox (s : State) (a v : Nat) : (s.wr64 a v).outbox = s.outbox := (rfl)
@[simp] theorem wr64_late (s : State) (a v : Nat) : (s.wr64 a v).late = s.late := (rfl)
@[simp] theorem wr64_fetched (s : State) (a v : Nat) : (s.wr64 a v).fetched = s.fetched := (rfl)
@[simp] theorem wr64_ilkLvl (s : State) (a v : Nat) : (s.wr64 a v).ilkLvl = s.ilkLvl := (rfl)
@[simp] theorem wr64_laneDark (s : State) (a v : Nat) : (s.wr64 a v).laneDark = s.laneDark := (rfl)
@[simp] theorem wr64_inEdge (s : State) (a v : Nat) : (s.wr64 a v).inEdge = s.inEdge := (rfl)
@[simp] theorem wr64_ssNow (s : State) (a v : Nat) : (s.wr64 a v).ssNow = s.ssNow := (rfl)
@[simp] theorem wr64_seen (s : State) (a v : Nat) : (s.wr64 a v).seen = s.seen := (rfl)
@[simp] theorem wr64_winLead (s : State) (a v : Nat) : (s.wr64 a v).winLead = s.winLead := (rfl)
@[simp] theorem wr64_alive (s : State) (a v : Nat) : (s.wr64 a v).alive = s.alive := (rfl)
@[simp] theorem wr64_dramWait (s : State) (a v : Nat) : (s.wr64 a v).dramWait = s.dramWait := (rfl)
@[simp] theorem wr64_mapFrom (s : State) (a v : Nat) : (s.wr64 a v).mapFrom = s.mapFrom := (rfl)
@[simp] theorem wr64_linkVols (s : State) (a v : Nat) : (s.wr64 a v).linkVols = s.linkVols := (rfl)
@[simp] theorem wr64_starting (s : State) (a v : Nat) : (s.wr64 a v).starting = s.starting := (rfl)
@[simp] theorem bumpWrap_beam (s : State) (a : Nat) (i : Nat) : (s.bumpWrap a).beam i = s.beam i := (rfl)
@[simp] theorem bumpWrap_pd (s : State) (a : Nat) (i : Nat) : (s.bumpWrap a).pd i = s.pd i := (rfl)
@[simp] theorem bumpWrap_port (s : State) (a : Nat) (i : Nat) : (s.bumpWrap a).port i = s.port i := (rfl)
@[simp] theorem bumpWrap_ctx (s : State) (a : Nat) (i : Nat) : (s.bumpWrap a).ctx i = s.ctx i := (rfl)
@[simp] theorem bumpWrap_cb (s : State) (a : Nat) (i : Nat) : (s.bumpWrap a).cb i = s.cb i := (rfl)
@[simp] theorem bumpWrap_cle (s : State) (a : Nat) (i : Nat) : (s.bumpWrap a).cle i = s.cle i := (rfl)
@[simp] theorem bumpWrap_pool (s : State) (a : Nat) (i : Nat) : (s.bumpWrap a).pool i = s.pool i := (rfl)
@[simp] theorem bumpWrap_bar (s : State) (a : Nat) (i : Nat) : (s.bumpWrap a).bar i = s.bar i := (rfl)
@[simp] theorem bumpWrap_dma (s : State) (a : Nat) (i : Nat) : (s.bumpWrap a).dma i = s.dma i := (rfl)
@[simp] theorem bumpWrap_codec (s : State) (a : Nat) (i : Nat) : (s.bumpWrap a).codec i = s.codec i := (rfl)
@[simp] theorem bumpWrap_mch (s : State) (a : Nat) (i : Nat) : (s.bumpWrap a).mch i = s.mch i := (rfl)
@[simp] theorem bumpWrap_eng (s : State) (a : Nat) (i : Nat) : (s.bumpWrap a).eng i = s.eng i := (rfl)
@[simp] theorem bumpWrap_lane (s : State) (a : Nat) (i : Nat) : (s.bumpWrap a).lane i = s.lane i := (rfl)
@[simp] theorem bumpWrap_lnk (s : State) (a : Nat) (i : Nat) : (s.bumpWrap a).lnk i = s.lnk i := (rfl)
@[simp] theorem bumpWrap_sink (s : State) (a : Nat) (i : Nat) : (s.bumpWrap a).sink i = s.sink i := (rfl)
@[simp] theorem bumpWrap_net (s : State) (a : Nat) (i : Nat) : (s.bumpWrap a).net i = s.net i := (rfl)
@[simp] theorem bumpWrap_qe (s : State) (a : Nat) (i : Nat) : (s.bumpWrap a).qe i = s.qe i := (rfl)
@[simp] theorem bumpWrap_eo (s : State) (a : Nat) (i : Nat) : (s.bumpWrap a).eo i = s.eo i := (rfl)
@[simp] theorem bumpWrap_tb (s : State) (a : Nat) (i : Nat) : (s.bumpWrap a).tb i = s.tb i := (rfl)
@[simp] theorem bumpWrap_ax (s : State) (a : Nat) (i : Nat) : (s.bumpWrap a).ax i = s.ax i := (rfl)
@[simp] theorem bumpWrap_pending (s : State) (a : Nat) : (s.bumpWrap a).pending = s.pending := (rfl)
@[simp] theorem bumpWrap_lmem (s : State) (a : Nat) : (s.bumpWrap a).lmem = s.lmem := (rfl)
@[simp] theorem bumpWrap_dram (s : State) (a : Nat) : (s.bumpWrap a).dram = s.dram := (rfl)
@[simp] theorem bumpWrap_trace (s : State) (a : Nat) : (s.bumpWrap a).trace = s.trace := (rfl)
@[simp] theorem bumpWrap_evNew (s : State) (a : Nat) : (s.bumpWrap a).evNew = s.evNew := (rfl)
@[simp] theorem bumpWrap_evq (s : State) (a : Nat) : (s.bumpWrap a).evq = s.evq := (rfl)
@[simp] theorem bumpWrap_evLoss (s : State) (a : Nat) : (s.bumpWrap a).evLoss = s.evLoss := (rfl)
@[simp] theorem bumpWrap_supplyHeld (s : State) (a : Nat) : (s.bumpWrap a).supplyHeld = s.supplyHeld := (rfl)
@[simp] theorem bumpWrap_clockLost (s : State) (a : Nat) : (s.bumpWrap a).clockLost = s.clockLost := (rfl)
@[simp] theorem bumpWrap_fabricUp (s : State) (a : Nat) : (s.bumpWrap a).fabricUp = s.fabricUp := (rfl)
@[simp] theorem bumpWrap_tstArmed (s : State) (a : Nat) : (s.bumpWrap a).tstArmed = s.tstArmed := (rfl)
@[simp] theorem bumpWrap_fresh (s : State) (a : Nat) : (s.bumpWrap a).fresh = s.fresh := (rfl)
@[simp] theorem bumpWrap_outbox (s : State) (a : Nat) : (s.bumpWrap a).outbox = s.outbox := (rfl)
@[simp] theorem bumpWrap_late (s : State) (a : Nat) : (s.bumpWrap a).late = s.late := (rfl)
@[simp] theorem bumpWrap_fetched (s : State) (a : Nat) : (s.bumpWrap a).fetched = s.fetched := (rfl)
@[simp] theorem bumpWrap_ilkLvl (s : State) (a : Nat) : (s.bumpWrap a).ilkLvl = s.ilkLvl := (rfl)
@[simp] theorem bumpWrap_laneDark (s : State) (a : Nat) : (s.bumpWrap a).laneDark = s.laneDark := (rfl)
@[simp] theorem bumpWrap_inEdge (s : State) (a : Nat) : (s.bumpWrap a).inEdge = s.inEdge := (rfl)
@[simp] theorem bumpWrap_ssNow (s : State) (a : Nat) : (s.bumpWrap a).ssNow = s.ssNow := (rfl)
@[simp] theorem bumpWrap_seen (s : State) (a : Nat) : (s.bumpWrap a).seen = s.seen := (rfl)
@[simp] theorem bumpWrap_winLead (s : State) (a : Nat) : (s.bumpWrap a).winLead = s.winLead := (rfl)
@[simp] theorem bumpWrap_alive (s : State) (a : Nat) : (s.bumpWrap a).alive = s.alive := (rfl)
@[simp] theorem bumpWrap_dramWait (s : State) (a : Nat) : (s.bumpWrap a).dramWait = s.dramWait := (rfl)
@[simp] theorem bumpWrap_mapFrom (s : State) (a : Nat) : (s.bumpWrap a).mapFrom = s.mapFrom := (rfl)
@[simp] theorem bumpWrap_linkVols (s : State) (a : Nat) : (s.bumpWrap a).linkVols = s.linkVols := (rfl)
@[simp] theorem bumpWrap_starting (s : State) (a : Nat) : (s.bumpWrap a).starting = s.starting := (rfl)
@[simp] theorem add64_beam (s : State) (a n i : Nat) : (s.add64 a n).beam i = s.beam i := by unfold State.add64; rw [wr64_beam]
@[simp] theorem add64_pd (s : State) (a n i : Nat) : (s.add64 a n).pd i = s.pd i := by unfold State.add64; rw [wr64_pd]
@[simp] theorem add64_port (s : State) (a n i : Nat) : (s.add64 a n).port i = s.port i := by unfold State.add64; rw [wr64_port]
@[simp] theorem add64_ctx (s : State) (a n i : Nat) : (s.add64 a n).ctx i = s.ctx i := by unfold State.add64; rw [wr64_ctx]
@[simp] theorem add64_cb (s : State) (a n i : Nat) : (s.add64 a n).cb i = s.cb i := by unfold State.add64; rw [wr64_cb]
@[simp] theorem add64_cle (s : State) (a n i : Nat) : (s.add64 a n).cle i = s.cle i := by unfold State.add64; rw [wr64_cle]
@[simp] theorem add64_pool (s : State) (a n i : Nat) : (s.add64 a n).pool i = s.pool i := by unfold State.add64; rw [wr64_pool]
@[simp] theorem add64_bar (s : State) (a n i : Nat) : (s.add64 a n).bar i = s.bar i := by unfold State.add64; rw [wr64_bar]
@[simp] theorem add64_dma (s : State) (a n i : Nat) : (s.add64 a n).dma i = s.dma i := by unfold State.add64; rw [wr64_dma]
@[simp] theorem add64_codec (s : State) (a n i : Nat) : (s.add64 a n).codec i = s.codec i := by unfold State.add64; rw [wr64_codec]
@[simp] theorem add64_mch (s : State) (a n i : Nat) : (s.add64 a n).mch i = s.mch i := by unfold State.add64; rw [wr64_mch]
@[simp] theorem add64_eng (s : State) (a n i : Nat) : (s.add64 a n).eng i = s.eng i := by unfold State.add64; rw [wr64_eng]
@[simp] theorem add64_lane (s : State) (a n i : Nat) : (s.add64 a n).lane i = s.lane i := by unfold State.add64; rw [wr64_lane]
@[simp] theorem add64_lnk (s : State) (a n i : Nat) : (s.add64 a n).lnk i = s.lnk i := by unfold State.add64; rw [wr64_lnk]
@[simp] theorem add64_sink (s : State) (a n i : Nat) : (s.add64 a n).sink i = s.sink i := by unfold State.add64; rw [wr64_sink]
@[simp] theorem add64_net (s : State) (a n i : Nat) : (s.add64 a n).net i = s.net i := by unfold State.add64; rw [wr64_net]
@[simp] theorem add64_qe (s : State) (a n i : Nat) : (s.add64 a n).qe i = s.qe i := by unfold State.add64; rw [wr64_qe]
@[simp] theorem add64_eo (s : State) (a n i : Nat) : (s.add64 a n).eo i = s.eo i := by unfold State.add64; rw [wr64_eo]
@[simp] theorem add64_tb (s : State) (a n i : Nat) : (s.add64 a n).tb i = s.tb i := by unfold State.add64; rw [wr64_tb]
@[simp] theorem add64_ax (s : State) (a n i : Nat) : (s.add64 a n).ax i = s.ax i := by unfold State.add64; rw [wr64_ax]
@[simp] theorem add64_pending (s : State) (a n : Nat) : (s.add64 a n).pending = s.pending := by unfold State.add64; rw [wr64_pending]
@[simp] theorem add64_lmem (s : State) (a n : Nat) : (s.add64 a n).lmem = s.lmem := by unfold State.add64; rw [wr64_lmem]
@[simp] theorem add64_dram (s : State) (a n : Nat) : (s.add64 a n).dram = s.dram := by unfold State.add64; rw [wr64_dram]
@[simp] theorem add64_trace (s : State) (a n : Nat) : (s.add64 a n).trace = s.trace := by unfold State.add64; rw [wr64_trace]
@[simp] theorem add64_evNew (s : State) (a n : Nat) : (s.add64 a n).evNew = s.evNew := by unfold State.add64; rw [wr64_evNew]
@[simp] theorem add64_evq (s : State) (a n : Nat) : (s.add64 a n).evq = s.evq := by unfold State.add64; rw [wr64_evq]
@[simp] theorem add64_evLoss (s : State) (a n : Nat) : (s.add64 a n).evLoss = s.evLoss := by unfold State.add64; rw [wr64_evLoss]
@[simp] theorem add64_supplyHeld (s : State) (a n : Nat) : (s.add64 a n).supplyHeld = s.supplyHeld := by unfold State.add64; rw [wr64_supplyHeld]
@[simp] theorem add64_clockLost (s : State) (a n : Nat) : (s.add64 a n).clockLost = s.clockLost := by unfold State.add64; rw [wr64_clockLost]
@[simp] theorem add64_fabricUp (s : State) (a n : Nat) : (s.add64 a n).fabricUp = s.fabricUp := by unfold State.add64; rw [wr64_fabricUp]
@[simp] theorem add64_tstArmed (s : State) (a n : Nat) : (s.add64 a n).tstArmed = s.tstArmed := by unfold State.add64; rw [wr64_tstArmed]
@[simp] theorem add64_fresh (s : State) (a n : Nat) : (s.add64 a n).fresh = s.fresh := by unfold State.add64; rw [wr64_fresh]
@[simp] theorem add64_outbox (s : State) (a n : Nat) : (s.add64 a n).outbox = s.outbox := by unfold State.add64; rw [wr64_outbox]
@[simp] theorem add64_late (s : State) (a n : Nat) : (s.add64 a n).late = s.late := by unfold State.add64; rw [wr64_late]
@[simp] theorem add64_fetched (s : State) (a n : Nat) : (s.add64 a n).fetched = s.fetched := by unfold State.add64; rw [wr64_fetched]
@[simp] theorem add64_ilkLvl (s : State) (a n : Nat) : (s.add64 a n).ilkLvl = s.ilkLvl := by unfold State.add64; rw [wr64_ilkLvl]
@[simp] theorem add64_laneDark (s : State) (a n : Nat) : (s.add64 a n).laneDark = s.laneDark := by unfold State.add64; rw [wr64_laneDark]
@[simp] theorem add64_inEdge (s : State) (a n : Nat) : (s.add64 a n).inEdge = s.inEdge := by unfold State.add64; rw [wr64_inEdge]
@[simp] theorem add64_ssNow (s : State) (a n : Nat) : (s.add64 a n).ssNow = s.ssNow := by unfold State.add64; rw [wr64_ssNow]
@[simp] theorem add64_seen (s : State) (a n : Nat) : (s.add64 a n).seen = s.seen := by unfold State.add64; rw [wr64_seen]
@[simp] theorem add64_winLead (s : State) (a n : Nat) : (s.add64 a n).winLead = s.winLead := by unfold State.add64; rw [wr64_winLead]
@[simp] theorem add64_alive (s : State) (a n : Nat) : (s.add64 a n).alive = s.alive := by unfold State.add64; rw [wr64_alive]
@[simp] theorem add64_dramWait (s : State) (a n : Nat) : (s.add64 a n).dramWait = s.dramWait := by unfold State.add64; rw [wr64_dramWait]
@[simp] theorem add64_mapFrom (s : State) (a n : Nat) : (s.add64 a n).mapFrom = s.mapFrom := by unfold State.add64; rw [wr64_mapFrom]
@[simp] theorem add64_linkVols (s : State) (a n : Nat) : (s.add64 a n).linkVols = s.linkVols := by unfold State.add64; rw [wr64_linkVols]
@[simp] theorem add64_starting (s : State) (a n : Nat) : (s.add64 a n).starting = s.starting := by unfold State.add64; rw [wr64_starting]
@[simp] theorem addSat_beam (s : State) (a n i : Nat) : (s.addSat a n).beam i = s.beam i := by unfold State.addSat; rw [wr_beam]
@[simp] theorem addSat_pd (s : State) (a n i : Nat) : (s.addSat a n).pd i = s.pd i := by unfold State.addSat; rw [wr_pd]
@[simp] theorem addSat_port (s : State) (a n i : Nat) : (s.addSat a n).port i = s.port i := by unfold State.addSat; rw [wr_port]
@[simp] theorem addSat_ctx (s : State) (a n i : Nat) : (s.addSat a n).ctx i = s.ctx i := by unfold State.addSat; rw [wr_ctx]
@[simp] theorem addSat_cb (s : State) (a n i : Nat) : (s.addSat a n).cb i = s.cb i := by unfold State.addSat; rw [wr_cb]
@[simp] theorem addSat_cle (s : State) (a n i : Nat) : (s.addSat a n).cle i = s.cle i := by unfold State.addSat; rw [wr_cle]
@[simp] theorem addSat_pool (s : State) (a n i : Nat) : (s.addSat a n).pool i = s.pool i := by unfold State.addSat; rw [wr_pool]
@[simp] theorem addSat_bar (s : State) (a n i : Nat) : (s.addSat a n).bar i = s.bar i := by unfold State.addSat; rw [wr_bar]
@[simp] theorem addSat_dma (s : State) (a n i : Nat) : (s.addSat a n).dma i = s.dma i := by unfold State.addSat; rw [wr_dma]
@[simp] theorem addSat_codec (s : State) (a n i : Nat) : (s.addSat a n).codec i = s.codec i := by unfold State.addSat; rw [wr_codec]
@[simp] theorem addSat_mch (s : State) (a n i : Nat) : (s.addSat a n).mch i = s.mch i := by unfold State.addSat; rw [wr_mch]
@[simp] theorem addSat_eng (s : State) (a n i : Nat) : (s.addSat a n).eng i = s.eng i := by unfold State.addSat; rw [wr_eng]
@[simp] theorem addSat_lane (s : State) (a n i : Nat) : (s.addSat a n).lane i = s.lane i := by unfold State.addSat; rw [wr_lane]
@[simp] theorem addSat_lnk (s : State) (a n i : Nat) : (s.addSat a n).lnk i = s.lnk i := by unfold State.addSat; rw [wr_lnk]
@[simp] theorem addSat_sink (s : State) (a n i : Nat) : (s.addSat a n).sink i = s.sink i := by unfold State.addSat; rw [wr_sink]
@[simp] theorem addSat_net (s : State) (a n i : Nat) : (s.addSat a n).net i = s.net i := by unfold State.addSat; rw [wr_net]
@[simp] theorem addSat_qe (s : State) (a n i : Nat) : (s.addSat a n).qe i = s.qe i := by unfold State.addSat; rw [wr_qe]
@[simp] theorem addSat_eo (s : State) (a n i : Nat) : (s.addSat a n).eo i = s.eo i := by unfold State.addSat; rw [wr_eo]
@[simp] theorem addSat_tb (s : State) (a n i : Nat) : (s.addSat a n).tb i = s.tb i := by unfold State.addSat; rw [wr_tb]
@[simp] theorem addSat_ax (s : State) (a n i : Nat) : (s.addSat a n).ax i = s.ax i := by unfold State.addSat; rw [wr_ax]
@[simp] theorem addSat_pending (s : State) (a n : Nat) : (s.addSat a n).pending = s.pending := by unfold State.addSat; rw [wr_pending]
@[simp] theorem addSat_lmem (s : State) (a n : Nat) : (s.addSat a n).lmem = s.lmem := by unfold State.addSat; rw [wr_lmem]
@[simp] theorem addSat_dram (s : State) (a n : Nat) : (s.addSat a n).dram = s.dram := by unfold State.addSat; rw [wr_dram]
@[simp] theorem addSat_trace (s : State) (a n : Nat) : (s.addSat a n).trace = s.trace := by unfold State.addSat; rw [wr_trace]
@[simp] theorem addSat_evNew (s : State) (a n : Nat) : (s.addSat a n).evNew = s.evNew := by unfold State.addSat; rw [wr_evNew]
@[simp] theorem addSat_evq (s : State) (a n : Nat) : (s.addSat a n).evq = s.evq := by unfold State.addSat; rw [wr_evq]
@[simp] theorem addSat_evLoss (s : State) (a n : Nat) : (s.addSat a n).evLoss = s.evLoss := by unfold State.addSat; rw [wr_evLoss]
@[simp] theorem addSat_supplyHeld (s : State) (a n : Nat) : (s.addSat a n).supplyHeld = s.supplyHeld := by unfold State.addSat; rw [wr_supplyHeld]
@[simp] theorem addSat_clockLost (s : State) (a n : Nat) : (s.addSat a n).clockLost = s.clockLost := by unfold State.addSat; rw [wr_clockLost]
@[simp] theorem addSat_fabricUp (s : State) (a n : Nat) : (s.addSat a n).fabricUp = s.fabricUp := by unfold State.addSat; rw [wr_fabricUp]
@[simp] theorem addSat_tstArmed (s : State) (a n : Nat) : (s.addSat a n).tstArmed = s.tstArmed := by unfold State.addSat; rw [wr_tstArmed]
@[simp] theorem addSat_fresh (s : State) (a n : Nat) : (s.addSat a n).fresh = s.fresh := by unfold State.addSat; rw [wr_fresh]
@[simp] theorem addSat_outbox (s : State) (a n : Nat) : (s.addSat a n).outbox = s.outbox := by unfold State.addSat; rw [wr_outbox]
@[simp] theorem addSat_late (s : State) (a n : Nat) : (s.addSat a n).late = s.late := by unfold State.addSat; rw [wr_late]
@[simp] theorem addSat_fetched (s : State) (a n : Nat) : (s.addSat a n).fetched = s.fetched := by unfold State.addSat; rw [wr_fetched]
@[simp] theorem addSat_ilkLvl (s : State) (a n : Nat) : (s.addSat a n).ilkLvl = s.ilkLvl := by unfold State.addSat; rw [wr_ilkLvl]
@[simp] theorem addSat_laneDark (s : State) (a n : Nat) : (s.addSat a n).laneDark = s.laneDark := by unfold State.addSat; rw [wr_laneDark]
@[simp] theorem addSat_inEdge (s : State) (a n : Nat) : (s.addSat a n).inEdge = s.inEdge := by unfold State.addSat; rw [wr_inEdge]
@[simp] theorem addSat_ssNow (s : State) (a n : Nat) : (s.addSat a n).ssNow = s.ssNow := by unfold State.addSat; rw [wr_ssNow]
@[simp] theorem addSat_seen (s : State) (a n : Nat) : (s.addSat a n).seen = s.seen := by unfold State.addSat; rw [wr_seen]
@[simp] theorem addSat_winLead (s : State) (a n : Nat) : (s.addSat a n).winLead = s.winLead := by unfold State.addSat; rw [wr_winLead]
@[simp] theorem addSat_alive (s : State) (a n : Nat) : (s.addSat a n).alive = s.alive := by unfold State.addSat; rw [wr_alive]
@[simp] theorem addSat_dramWait (s : State) (a n : Nat) : (s.addSat a n).dramWait = s.dramWait := by unfold State.addSat; rw [wr_dramWait]
@[simp] theorem addSat_mapFrom (s : State) (a n : Nat) : (s.addSat a n).mapFrom = s.mapFrom := by unfold State.addSat; rw [wr_mapFrom]
@[simp] theorem addSat_linkVols (s : State) (a n : Nat) : (s.addSat a n).linkVols = s.linkVols := by unfold State.addSat; rw [wr_linkVols]
@[simp] theorem addSat_starting (s : State) (a n : Nat) : (s.addSat a n).starting = s.starting := by unfold State.addSat; rw [wr_starting]
@[simp] theorem bumpSat_beam (s : State) (a i : Nat) : (s.bumpSat a).beam i = s.beam i := apply_bumpSat (fun t => t.beam i) rfl
@[simp] theorem bumpSat_pd (s : State) (a i : Nat) : (s.bumpSat a).pd i = s.pd i := apply_bumpSat (fun t => t.pd i) rfl
@[simp] theorem bumpSat_port (s : State) (a i : Nat) : (s.bumpSat a).port i = s.port i := apply_bumpSat (fun t => t.port i) rfl
@[simp] theorem bumpSat_ctx (s : State) (a i : Nat) : (s.bumpSat a).ctx i = s.ctx i := apply_bumpSat (fun t => t.ctx i) rfl
@[simp] theorem bumpSat_cb (s : State) (a i : Nat) : (s.bumpSat a).cb i = s.cb i := apply_bumpSat (fun t => t.cb i) rfl
@[simp] theorem bumpSat_cle (s : State) (a i : Nat) : (s.bumpSat a).cle i = s.cle i := apply_bumpSat (fun t => t.cle i) rfl
@[simp] theorem bumpSat_pool (s : State) (a i : Nat) : (s.bumpSat a).pool i = s.pool i := apply_bumpSat (fun t => t.pool i) rfl
@[simp] theorem bumpSat_bar (s : State) (a i : Nat) : (s.bumpSat a).bar i = s.bar i := apply_bumpSat (fun t => t.bar i) rfl
@[simp] theorem bumpSat_dma (s : State) (a i : Nat) : (s.bumpSat a).dma i = s.dma i := apply_bumpSat (fun t => t.dma i) rfl
@[simp] theorem bumpSat_codec (s : State) (a i : Nat) : (s.bumpSat a).codec i = s.codec i := apply_bumpSat (fun t => t.codec i) rfl
@[simp] theorem bumpSat_mch (s : State) (a i : Nat) : (s.bumpSat a).mch i = s.mch i := apply_bumpSat (fun t => t.mch i) rfl
@[simp] theorem bumpSat_eng (s : State) (a i : Nat) : (s.bumpSat a).eng i = s.eng i := apply_bumpSat (fun t => t.eng i) rfl
@[simp] theorem bumpSat_lane (s : State) (a i : Nat) : (s.bumpSat a).lane i = s.lane i := apply_bumpSat (fun t => t.lane i) rfl
@[simp] theorem bumpSat_lnk (s : State) (a i : Nat) : (s.bumpSat a).lnk i = s.lnk i := apply_bumpSat (fun t => t.lnk i) rfl
@[simp] theorem bumpSat_sink (s : State) (a i : Nat) : (s.bumpSat a).sink i = s.sink i := apply_bumpSat (fun t => t.sink i) rfl
@[simp] theorem bumpSat_net (s : State) (a i : Nat) : (s.bumpSat a).net i = s.net i := apply_bumpSat (fun t => t.net i) rfl
@[simp] theorem bumpSat_qe (s : State) (a i : Nat) : (s.bumpSat a).qe i = s.qe i := apply_bumpSat (fun t => t.qe i) rfl
@[simp] theorem bumpSat_eo (s : State) (a i : Nat) : (s.bumpSat a).eo i = s.eo i := apply_bumpSat (fun t => t.eo i) rfl
@[simp] theorem bumpSat_tb (s : State) (a i : Nat) : (s.bumpSat a).tb i = s.tb i := apply_bumpSat (fun t => t.tb i) rfl
@[simp] theorem bumpSat_ax (s : State) (a i : Nat) : (s.bumpSat a).ax i = s.ax i := apply_bumpSat (fun t => t.ax i) rfl
@[simp] theorem bumpSat_pending (s : State) (a : Nat) : (s.bumpSat a).pending = s.pending := apply_bumpSat (fun t => t.pending) rfl
@[simp] theorem bumpSat_lmem (s : State) (a : Nat) : (s.bumpSat a).lmem = s.lmem := apply_bumpSat (fun t => t.lmem) rfl
@[simp] theorem bumpSat_dram (s : State) (a : Nat) : (s.bumpSat a).dram = s.dram := apply_bumpSat (fun t => t.dram) rfl
@[simp] theorem bumpSat_trace (s : State) (a : Nat) : (s.bumpSat a).trace = s.trace := apply_bumpSat (fun t => t.trace) rfl
@[simp] theorem bumpSat_evNew (s : State) (a : Nat) : (s.bumpSat a).evNew = s.evNew := apply_bumpSat (fun t => t.evNew) rfl
@[simp] theorem bumpSat_evq (s : State) (a : Nat) : (s.bumpSat a).evq = s.evq := apply_bumpSat (fun t => t.evq) rfl
@[simp] theorem bumpSat_evLoss (s : State) (a : Nat) : (s.bumpSat a).evLoss = s.evLoss := apply_bumpSat (fun t => t.evLoss) rfl
@[simp] theorem bumpSat_supplyHeld (s : State) (a : Nat) : (s.bumpSat a).supplyHeld = s.supplyHeld := apply_bumpSat (fun t => t.supplyHeld) rfl
@[simp] theorem bumpSat_clockLost (s : State) (a : Nat) : (s.bumpSat a).clockLost = s.clockLost := apply_bumpSat (fun t => t.clockLost) rfl
@[simp] theorem bumpSat_fabricUp (s : State) (a : Nat) : (s.bumpSat a).fabricUp = s.fabricUp := apply_bumpSat (fun t => t.fabricUp) rfl
@[simp] theorem bumpSat_tstArmed (s : State) (a : Nat) : (s.bumpSat a).tstArmed = s.tstArmed := apply_bumpSat (fun t => t.tstArmed) rfl
@[simp] theorem bumpSat_fresh (s : State) (a : Nat) : (s.bumpSat a).fresh = s.fresh := apply_bumpSat (fun t => t.fresh) rfl
@[simp] theorem bumpSat_outbox (s : State) (a : Nat) : (s.bumpSat a).outbox = s.outbox := apply_bumpSat (fun t => t.outbox) rfl
@[simp] theorem bumpSat_late (s : State) (a : Nat) : (s.bumpSat a).late = s.late := apply_bumpSat (fun t => t.late) rfl
@[simp] theorem bumpSat_fetched (s : State) (a : Nat) : (s.bumpSat a).fetched = s.fetched := apply_bumpSat (fun t => t.fetched) rfl
@[simp] theorem bumpSat_ilkLvl (s : State) (a : Nat) : (s.bumpSat a).ilkLvl = s.ilkLvl := apply_bumpSat (fun t => t.ilkLvl) rfl
@[simp] theorem bumpSat_laneDark (s : State) (a : Nat) : (s.bumpSat a).laneDark = s.laneDark := apply_bumpSat (fun t => t.laneDark) rfl
@[simp] theorem bumpSat_inEdge (s : State) (a : Nat) : (s.bumpSat a).inEdge = s.inEdge := apply_bumpSat (fun t => t.inEdge) rfl
@[simp] theorem bumpSat_ssNow (s : State) (a : Nat) : (s.bumpSat a).ssNow = s.ssNow := apply_bumpSat (fun t => t.ssNow) rfl
@[simp] theorem bumpSat_seen (s : State) (a : Nat) : (s.bumpSat a).seen = s.seen := apply_bumpSat (fun t => t.seen) rfl
@[simp] theorem bumpSat_winLead (s : State) (a : Nat) : (s.bumpSat a).winLead = s.winLead := apply_bumpSat (fun t => t.winLead) rfl
@[simp] theorem bumpSat_alive (s : State) (a : Nat) : (s.bumpSat a).alive = s.alive := apply_bumpSat (fun t => t.alive) rfl
@[simp] theorem bumpSat_dramWait (s : State) (a : Nat) : (s.bumpSat a).dramWait = s.dramWait := apply_bumpSat (fun t => t.dramWait) rfl
@[simp] theorem bumpSat_mapFrom (s : State) (a : Nat) : (s.bumpSat a).mapFrom = s.mapFrom := apply_bumpSat (fun t => t.mapFrom) rfl
@[simp] theorem bumpSat_linkVols (s : State) (a : Nat) : (s.bumpSat a).linkVols = s.linkVols := apply_bumpSat (fun t => t.linkVols) rfl
@[simp] theorem bumpSat_starting (s : State) (a : Nat) : (s.bumpSat a).starting = s.starting := apply_bumpSat (fun t => t.starting) rfl

/-! ### The updates of records and what they do not concern -/

@[simp] theorem modBeam_beam (s : State) (i : Nat) (f : Beam → Beam) (j : Nat) : (s.modBeam i f).beam j = if i = j then f (s.beam i) else s.beam j :=
  tabGet_tabSet _ _ _ _ _
@[simp] theorem modBeam_rd (s : State) (i : Nat) (f : Beam → Beam) (off : Nat) : (s.modBeam i f).rd off = s.rd off := (rfl)
@[simp] theorem modBeam_get (s : State) (i : Nat) (f : Beam → Beam) (g : Fld) : (s.modBeam i f).get g = s.get g := (rfl)
@[simp] theorem modBeam_flag (s : State) (i : Nat) (f : Beam → Beam) (g : Fld) : (s.modBeam i f).flag g = s.flag g := (rfl)
@[simp] theorem modBeam_rd64 (s : State) (i : Nat) (f : Beam → Beam) (off : Nat) : (s.modBeam i f).rd64 off = s.rd64 off := (rfl)
@[simp] theorem modBeam_pd (s : State) (i : Nat) (f : Beam → Beam) (j : Nat) : (s.modBeam i f).pd j = s.pd j := (rfl)
@[simp] theorem modBeam_port (s : State) (i : Nat) (f : Beam → Beam) (j : Nat) : (s.modBeam i f).port j = s.port j := (rfl)
@[simp] theorem modBeam_ctx (s : State) (i : Nat) (f : Beam → Beam) (j : Nat) : (s.modBeam i f).ctx j = s.ctx j := (rfl)
@[simp] theorem modBeam_cb (s : State) (i : Nat) (f : Beam → Beam) (j : Nat) : (s.modBeam i f).cb j = s.cb j := (rfl)
@[simp] theorem modBeam_cle (s : State) (i : Nat) (f : Beam → Beam) (j : Nat) : (s.modBeam i f).cle j = s.cle j := (rfl)
@[simp] theorem modBeam_pool (s : State) (i : Nat) (f : Beam → Beam) (j : Nat) : (s.modBeam i f).pool j = s.pool j := (rfl)
@[simp] theorem modBeam_bar (s : State) (i : Nat) (f : Beam → Beam) (j : Nat) : (s.modBeam i f).bar j = s.bar j := (rfl)
@[simp] theorem modBeam_dma (s : State) (i : Nat) (f : Beam → Beam) (j : Nat) : (s.modBeam i f).dma j = s.dma j := (rfl)
@[simp] theorem modBeam_codec (s : State) (i : Nat) (f : Beam → Beam) (j : Nat) : (s.modBeam i f).codec j = s.codec j := (rfl)
@[simp] theorem modBeam_mch (s : State) (i : Nat) (f : Beam → Beam) (j : Nat) : (s.modBeam i f).mch j = s.mch j := (rfl)
@[simp] theorem modBeam_eng (s : State) (i : Nat) (f : Beam → Beam) (j : Nat) : (s.modBeam i f).eng j = s.eng j := (rfl)
@[simp] theorem modBeam_lane (s : State) (i : Nat) (f : Beam → Beam) (j : Nat) : (s.modBeam i f).lane j = s.lane j := (rfl)
@[simp] theorem modBeam_lnk (s : State) (i : Nat) (f : Beam → Beam) (j : Nat) : (s.modBeam i f).lnk j = s.lnk j := (rfl)
@[simp] theorem modBeam_sink (s : State) (i : Nat) (f : Beam → Beam) (j : Nat) : (s.modBeam i f).sink j = s.sink j := (rfl)
@[simp] theorem modBeam_net (s : State) (i : Nat) (f : Beam → Beam) (j : Nat) : (s.modBeam i f).net j = s.net j := (rfl)
@[simp] theorem modBeam_qe (s : State) (i : Nat) (f : Beam → Beam) (j : Nat) : (s.modBeam i f).qe j = s.qe j := (rfl)
@[simp] theorem modBeam_eo (s : State) (i : Nat) (f : Beam → Beam) (j : Nat) : (s.modBeam i f).eo j = s.eo j := (rfl)
@[simp] theorem modBeam_tb (s : State) (i : Nat) (f : Beam → Beam) (j : Nat) : (s.modBeam i f).tb j = s.tb j := (rfl)
@[simp] theorem modBeam_ax (s : State) (i : Nat) (f : Beam → Beam) (j : Nat) : (s.modBeam i f).ax j = s.ax j := (rfl)
@[simp] theorem modBeam_pending (s : State) (i : Nat) (f : Beam → Beam) : (s.modBeam i f).pending = s.pending := (rfl)
@[simp] theorem modBeam_lmem (s : State) (i : Nat) (f : Beam → Beam) : (s.modBeam i f).lmem = s.lmem := (rfl)
@[simp] theorem modBeam_dram (s : State) (i : Nat) (f : Beam → Beam) : (s.modBeam i f).dram = s.dram := (rfl)
@[simp] theorem modBeam_trace (s : State) (i : Nat) (f : Beam → Beam) : (s.modBeam i f).trace = s.trace := (rfl)
@[simp] theorem modBeam_evNew (s : State) (i : Nat) (f : Beam → Beam) : (s.modBeam i f).evNew = s.evNew := (rfl)
@[simp] theorem modBeam_evq (s : State) (i : Nat) (f : Beam → Beam) : (s.modBeam i f).evq = s.evq := (rfl)
@[simp] theorem modBeam_evLoss (s : State) (i : Nat) (f : Beam → Beam) : (s.modBeam i f).evLoss = s.evLoss := (rfl)
@[simp] theorem modBeam_supplyHeld (s : State) (i : Nat) (f : Beam → Beam) : (s.modBeam i f).supplyHeld = s.supplyHeld := (rfl)
@[simp] theorem modBeam_clockLost (s : State) (i : Nat) (f : Beam → Beam) : (s.modBeam i f).clockLost = s.clockLost := (rfl)
@[simp] theorem modBeam_fabricUp (s : State) (i : Nat) (f : Beam → Beam) : (s.modBeam i f).fabricUp = s.fabricUp := (rfl)
@[simp] theorem modBeam_tstArmed (s : State) (i : Nat) (f : Beam → Beam) : (s.modBeam i f).tstArmed = s.tstArmed := (rfl)
@[simp] theorem modBeam_fresh (s : State) (i : Nat) (f : Beam → Beam) : (s.modBeam i f).fresh = s.fresh := (rfl)
@[simp] theorem modBeam_outbox (s : State) (i : Nat) (f : Beam → Beam) : (s.modBeam i f).outbox = s.outbox := (rfl)
@[simp] theorem modBeam_late (s : State) (i : Nat) (f : Beam → Beam) : (s.modBeam i f).late = s.late := (rfl)
@[simp] theorem modBeam_fetched (s : State) (i : Nat) (f : Beam → Beam) : (s.modBeam i f).fetched = s.fetched := (rfl)
@[simp] theorem modBeam_ilkLvl (s : State) (i : Nat) (f : Beam → Beam) : (s.modBeam i f).ilkLvl = s.ilkLvl := (rfl)
@[simp] theorem modBeam_laneDark (s : State) (i : Nat) (f : Beam → Beam) : (s.modBeam i f).laneDark = s.laneDark := (rfl)
@[simp] theorem modBeam_inEdge (s : State) (i : Nat) (f : Beam → Beam) : (s.modBeam i f).inEdge = s.inEdge := (rfl)
@[simp] theorem modBeam_ssNow (s : State) (i : Nat) (f : Beam → Beam) : (s.modBeam i f).ssNow = s.ssNow := (rfl)
@[simp] theorem modBeam_seen (s : State) (i : Nat) (f : Beam → Beam) : (s.modBeam i f).seen = s.seen := (rfl)
@[simp] theorem modBeam_winLead (s : State) (i : Nat) (f : Beam → Beam) : (s.modBeam i f).winLead = s.winLead := (rfl)
@[simp] theorem modBeam_alive (s : State) (i : Nat) (f : Beam → Beam) : (s.modBeam i f).alive = s.alive := (rfl)
@[simp] theorem modBeam_dramWait (s : State) (i : Nat) (f : Beam → Beam) : (s.modBeam i f).dramWait = s.dramWait := (rfl)
@[simp] theorem modBeam_mapFrom (s : State) (i : Nat) (f : Beam → Beam) : (s.modBeam i f).mapFrom = s.mapFrom := (rfl)
@[simp] theorem modBeam_linkVols (s : State) (i : Nat) (f : Beam → Beam) : (s.modBeam i f).linkVols = s.linkVols := (rfl)
@[simp] theorem modBeam_starting (s : State) (i : Nat) (f : Beam → Beam) : (s.modBeam i f).starting = s.starting := (rfl)
@[simp] theorem modPd_pd (s : State) (i : Nat) (f : Pd → Pd) (j : Nat) : (s.modPd i f).pd j = if i = j then f (s.pd i) else s.pd j :=
  tabGet_tabSet _ _ _ _ _
@[simp] theorem modPd_rd (s : State) (i : Nat) (f : Pd → Pd) (off : Nat) : (s.modPd i f).rd off = s.rd off := (rfl)
@[simp] theorem modPd_get (s : State) (i : Nat) (f : Pd → Pd) (g : Fld) : (s.modPd i f).get g = s.get g := (rfl)
@[simp] theorem modPd_flag (s : State) (i : Nat) (f : Pd → Pd) (g : Fld) : (s.modPd i f).flag g = s.flag g := (rfl)
@[simp] theorem modPd_rd64 (s : State) (i : Nat) (f : Pd → Pd) (off : Nat) : (s.modPd i f).rd64 off = s.rd64 off := (rfl)
@[simp] theorem modPd_beam (s : State) (i : Nat) (f : Pd → Pd) (j : Nat) : (s.modPd i f).beam j = s.beam j := (rfl)
@[simp] theorem modPd_port (s : State) (i : Nat) (f : Pd → Pd) (j : Nat) : (s.modPd i f).port j = s.port j := (rfl)
@[simp] theorem modPd_ctx (s : State) (i : Nat) (f : Pd → Pd) (j : Nat) : (s.modPd i f).ctx j = s.ctx j := (rfl)
@[simp] theorem modPd_cb (s : State) (i : Nat) (f : Pd → Pd) (j : Nat) : (s.modPd i f).cb j = s.cb j := (rfl)
@[simp] theorem modPd_cle (s : State) (i : Nat) (f : Pd → Pd) (j : Nat) : (s.modPd i f).cle j = s.cle j := (rfl)
@[simp] theorem modPd_pool (s : State) (i : Nat) (f : Pd → Pd) (j : Nat) : (s.modPd i f).pool j = s.pool j := (rfl)
@[simp] theorem modPd_bar (s : State) (i : Nat) (f : Pd → Pd) (j : Nat) : (s.modPd i f).bar j = s.bar j := (rfl)
@[simp] theorem modPd_dma (s : State) (i : Nat) (f : Pd → Pd) (j : Nat) : (s.modPd i f).dma j = s.dma j := (rfl)
@[simp] theorem modPd_codec (s : State) (i : Nat) (f : Pd → Pd) (j : Nat) : (s.modPd i f).codec j = s.codec j := (rfl)
@[simp] theorem modPd_mch (s : State) (i : Nat) (f : Pd → Pd) (j : Nat) : (s.modPd i f).mch j = s.mch j := (rfl)
@[simp] theorem modPd_eng (s : State) (i : Nat) (f : Pd → Pd) (j : Nat) : (s.modPd i f).eng j = s.eng j := (rfl)
@[simp] theorem modPd_lane (s : State) (i : Nat) (f : Pd → Pd) (j : Nat) : (s.modPd i f).lane j = s.lane j := (rfl)
@[simp] theorem modPd_lnk (s : State) (i : Nat) (f : Pd → Pd) (j : Nat) : (s.modPd i f).lnk j = s.lnk j := (rfl)
@[simp] theorem modPd_sink (s : State) (i : Nat) (f : Pd → Pd) (j : Nat) : (s.modPd i f).sink j = s.sink j := (rfl)
@[simp] theorem modPd_net (s : State) (i : Nat) (f : Pd → Pd) (j : Nat) : (s.modPd i f).net j = s.net j := (rfl)
@[simp] theorem modPd_qe (s : State) (i : Nat) (f : Pd → Pd) (j : Nat) : (s.modPd i f).qe j = s.qe j := (rfl)
@[simp] theorem modPd_eo (s : State) (i : Nat) (f : Pd → Pd) (j : Nat) : (s.modPd i f).eo j = s.eo j := (rfl)
@[simp] theorem modPd_tb (s : State) (i : Nat) (f : Pd → Pd) (j : Nat) : (s.modPd i f).tb j = s.tb j := (rfl)
@[simp] theorem modPd_ax (s : State) (i : Nat) (f : Pd → Pd) (j : Nat) : (s.modPd i f).ax j = s.ax j := (rfl)
@[simp] theorem modPd_pending (s : State) (i : Nat) (f : Pd → Pd) : (s.modPd i f).pending = s.pending := (rfl)
@[simp] theorem modPd_lmem (s : State) (i : Nat) (f : Pd → Pd) : (s.modPd i f).lmem = s.lmem := (rfl)
@[simp] theorem modPd_dram (s : State) (i : Nat) (f : Pd → Pd) : (s.modPd i f).dram = s.dram := (rfl)
@[simp] theorem modPd_trace (s : State) (i : Nat) (f : Pd → Pd) : (s.modPd i f).trace = s.trace := (rfl)
@[simp] theorem modPd_evNew (s : State) (i : Nat) (f : Pd → Pd) : (s.modPd i f).evNew = s.evNew := (rfl)
@[simp] theorem modPd_evq (s : State) (i : Nat) (f : Pd → Pd) : (s.modPd i f).evq = s.evq := (rfl)
@[simp] theorem modPd_evLoss (s : State) (i : Nat) (f : Pd → Pd) : (s.modPd i f).evLoss = s.evLoss := (rfl)
@[simp] theorem modPd_supplyHeld (s : State) (i : Nat) (f : Pd → Pd) : (s.modPd i f).supplyHeld = s.supplyHeld := (rfl)
@[simp] theorem modPd_clockLost (s : State) (i : Nat) (f : Pd → Pd) : (s.modPd i f).clockLost = s.clockLost := (rfl)
@[simp] theorem modPd_fabricUp (s : State) (i : Nat) (f : Pd → Pd) : (s.modPd i f).fabricUp = s.fabricUp := (rfl)
@[simp] theorem modPd_tstArmed (s : State) (i : Nat) (f : Pd → Pd) : (s.modPd i f).tstArmed = s.tstArmed := (rfl)
@[simp] theorem modPd_fresh (s : State) (i : Nat) (f : Pd → Pd) : (s.modPd i f).fresh = s.fresh := (rfl)
@[simp] theorem modPd_outbox (s : State) (i : Nat) (f : Pd → Pd) : (s.modPd i f).outbox = s.outbox := (rfl)
@[simp] theorem modPd_late (s : State) (i : Nat) (f : Pd → Pd) : (s.modPd i f).late = s.late := (rfl)
@[simp] theorem modPd_fetched (s : State) (i : Nat) (f : Pd → Pd) : (s.modPd i f).fetched = s.fetched := (rfl)
@[simp] theorem modPd_ilkLvl (s : State) (i : Nat) (f : Pd → Pd) : (s.modPd i f).ilkLvl = s.ilkLvl := (rfl)
@[simp] theorem modPd_laneDark (s : State) (i : Nat) (f : Pd → Pd) : (s.modPd i f).laneDark = s.laneDark := (rfl)
@[simp] theorem modPd_inEdge (s : State) (i : Nat) (f : Pd → Pd) : (s.modPd i f).inEdge = s.inEdge := (rfl)
@[simp] theorem modPd_ssNow (s : State) (i : Nat) (f : Pd → Pd) : (s.modPd i f).ssNow = s.ssNow := (rfl)
@[simp] theorem modPd_seen (s : State) (i : Nat) (f : Pd → Pd) : (s.modPd i f).seen = s.seen := (rfl)
@[simp] theorem modPd_winLead (s : State) (i : Nat) (f : Pd → Pd) : (s.modPd i f).winLead = s.winLead := (rfl)
@[simp] theorem modPd_alive (s : State) (i : Nat) (f : Pd → Pd) : (s.modPd i f).alive = s.alive := (rfl)
@[simp] theorem modPd_dramWait (s : State) (i : Nat) (f : Pd → Pd) : (s.modPd i f).dramWait = s.dramWait := (rfl)
@[simp] theorem modPd_mapFrom (s : State) (i : Nat) (f : Pd → Pd) : (s.modPd i f).mapFrom = s.mapFrom := (rfl)
@[simp] theorem modPd_linkVols (s : State) (i : Nat) (f : Pd → Pd) : (s.modPd i f).linkVols = s.linkVols := (rfl)
@[simp] theorem modPd_starting (s : State) (i : Nat) (f : Pd → Pd) : (s.modPd i f).starting = s.starting := (rfl)
@[simp] theorem modPort_port (s : State) (i : Nat) (f : CamPort → CamPort) (j : Nat) : (s.modPort i f).port j = if i = j then f (s.port i) else s.port j :=
  tabGet_tabSet _ _ _ _ _
@[simp] theorem modPort_rd (s : State) (i : Nat) (f : CamPort → CamPort) (off : Nat) : (s.modPort i f).rd off = s.rd off := (rfl)
@[simp] theorem modPort_get (s : State) (i : Nat) (f : CamPort → CamPort) (g : Fld) : (s.modPort i f).get g = s.get g := (rfl)
@[simp] theorem modPort_flag (s : State) (i : Nat) (f : CamPort → CamPort) (g : Fld) : (s.modPort i f).flag g = s.flag g := (rfl)
@[simp] theorem modPort_rd64 (s : State) (i : Nat) (f : CamPort → CamPort) (off : Nat) : (s.modPort i f).rd64 off = s.rd64 off := (rfl)
@[simp] theorem modPort_beam (s : State) (i : Nat) (f : CamPort → CamPort) (j : Nat) : (s.modPort i f).beam j = s.beam j := (rfl)
@[simp] theorem modPort_pd (s : State) (i : Nat) (f : CamPort → CamPort) (j : Nat) : (s.modPort i f).pd j = s.pd j := (rfl)
@[simp] theorem modPort_ctx (s : State) (i : Nat) (f : CamPort → CamPort) (j : Nat) : (s.modPort i f).ctx j = s.ctx j := (rfl)
@[simp] theorem modPort_cb (s : State) (i : Nat) (f : CamPort → CamPort) (j : Nat) : (s.modPort i f).cb j = s.cb j := (rfl)
@[simp] theorem modPort_cle (s : State) (i : Nat) (f : CamPort → CamPort) (j : Nat) : (s.modPort i f).cle j = s.cle j := (rfl)
@[simp] theorem modPort_pool (s : State) (i : Nat) (f : CamPort → CamPort) (j : Nat) : (s.modPort i f).pool j = s.pool j := (rfl)
@[simp] theorem modPort_bar (s : State) (i : Nat) (f : CamPort → CamPort) (j : Nat) : (s.modPort i f).bar j = s.bar j := (rfl)
@[simp] theorem modPort_dma (s : State) (i : Nat) (f : CamPort → CamPort) (j : Nat) : (s.modPort i f).dma j = s.dma j := (rfl)
@[simp] theorem modPort_codec (s : State) (i : Nat) (f : CamPort → CamPort) (j : Nat) : (s.modPort i f).codec j = s.codec j := (rfl)
@[simp] theorem modPort_mch (s : State) (i : Nat) (f : CamPort → CamPort) (j : Nat) : (s.modPort i f).mch j = s.mch j := (rfl)
@[simp] theorem modPort_eng (s : State) (i : Nat) (f : CamPort → CamPort) (j : Nat) : (s.modPort i f).eng j = s.eng j := (rfl)
@[simp] theorem modPort_lane (s : State) (i : Nat) (f : CamPort → CamPort) (j : Nat) : (s.modPort i f).lane j = s.lane j := (rfl)
@[simp] theorem modPort_lnk (s : State) (i : Nat) (f : CamPort → CamPort) (j : Nat) : (s.modPort i f).lnk j = s.lnk j := (rfl)
@[simp] theorem modPort_sink (s : State) (i : Nat) (f : CamPort → CamPort) (j : Nat) : (s.modPort i f).sink j = s.sink j := (rfl)
@[simp] theorem modPort_net (s : State) (i : Nat) (f : CamPort → CamPort) (j : Nat) : (s.modPort i f).net j = s.net j := (rfl)
@[simp] theorem modPort_qe (s : State) (i : Nat) (f : CamPort → CamPort) (j : Nat) : (s.modPort i f).qe j = s.qe j := (rfl)
@[simp] theorem modPort_eo (s : State) (i : Nat) (f : CamPort → CamPort) (j : Nat) : (s.modPort i f).eo j = s.eo j := (rfl)
@[simp] theorem modPort_tb (s : State) (i : Nat) (f : CamPort → CamPort) (j : Nat) : (s.modPort i f).tb j = s.tb j := (rfl)
@[simp] theorem modPort_ax (s : State) (i : Nat) (f : CamPort → CamPort) (j : Nat) : (s.modPort i f).ax j = s.ax j := (rfl)
@[simp] theorem modPort_pending (s : State) (i : Nat) (f : CamPort → CamPort) : (s.modPort i f).pending = s.pending := (rfl)
@[simp] theorem modPort_lmem (s : State) (i : Nat) (f : CamPort → CamPort) : (s.modPort i f).lmem = s.lmem := (rfl)
@[simp] theorem modPort_dram (s : State) (i : Nat) (f : CamPort → CamPort) : (s.modPort i f).dram = s.dram := (rfl)
@[simp] theorem modPort_trace (s : State) (i : Nat) (f : CamPort → CamPort) : (s.modPort i f).trace = s.trace := (rfl)
@[simp] theorem modPort_evNew (s : State) (i : Nat) (f : CamPort → CamPort) : (s.modPort i f).evNew = s.evNew := (rfl)
@[simp] theorem modPort_evq (s : State) (i : Nat) (f : CamPort → CamPort) : (s.modPort i f).evq = s.evq := (rfl)
@[simp] theorem modPort_evLoss (s : State) (i : Nat) (f : CamPort → CamPort) : (s.modPort i f).evLoss = s.evLoss := (rfl)
@[simp] theorem modPort_supplyHeld (s : State) (i : Nat) (f : CamPort → CamPort) : (s.modPort i f).supplyHeld = s.supplyHeld := (rfl)
@[simp] theorem modPort_clockLost (s : State) (i : Nat) (f : CamPort → CamPort) : (s.modPort i f).clockLost = s.clockLost := (rfl)
@[simp] theorem modPort_fabricUp (s : State) (i : Nat) (f : CamPort → CamPort) : (s.modPort i f).fabricUp = s.fabricUp := (rfl)
@[simp] theorem modPort_tstArmed (s : State) (i : Nat) (f : CamPort → CamPort) : (s.modPort i f).tstArmed = s.tstArmed := (rfl)
@[simp] theorem modPort_fresh (s : State) (i : Nat) (f : CamPort → CamPort) : (s.modPort i f).fresh = s.fresh := (rfl)
@[simp] theorem modPort_outbox (s : State) (i : Nat) (f : CamPort → CamPort) : (s.modPort i f).outbox = s.outbox := (rfl)
@[simp] theorem modPort_late (s : State) (i : Nat) (f : CamPort → CamPort) : (s.modPort i f).late = s.late := (rfl)
@[simp] theorem modPort_fetched (s : State) (i : Nat) (f : CamPort → CamPort) : (s.modPort i f).fetched = s.fetched := (rfl)
@[simp] theorem modPort_ilkLvl (s : State) (i : Nat) (f : CamPort → CamPort) : (s.modPort i f).ilkLvl = s.ilkLvl := (rfl)
@[simp] theorem modPort_laneDark (s : State) (i : Nat) (f : CamPort → CamPort) : (s.modPort i f).laneDark = s.laneDark := (rfl)
@[simp] theorem modPort_inEdge (s : State) (i : Nat) (f : CamPort → CamPort) : (s.modPort i f).inEdge = s.inEdge := (rfl)
@[simp] theorem modPort_ssNow (s : State) (i : Nat) (f : CamPort → CamPort) : (s.modPort i f).ssNow = s.ssNow := (rfl)
@[simp] theorem modPort_seen (s : State) (i : Nat) (f : CamPort → CamPort) : (s.modPort i f).seen = s.seen := (rfl)
@[simp] theorem modPort_winLead (s : State) (i : Nat) (f : CamPort → CamPort) : (s.modPort i f).winLead = s.winLead := (rfl)
@[simp] theorem modPort_alive (s : State) (i : Nat) (f : CamPort → CamPort) : (s.modPort i f).alive = s.alive := (rfl)
@[simp] theorem modPort_dramWait (s : State) (i : Nat) (f : CamPort → CamPort) : (s.modPort i f).dramWait = s.dramWait := (rfl)
@[simp] theorem modPort_mapFrom (s : State) (i : Nat) (f : CamPort → CamPort) : (s.modPort i f).mapFrom = s.mapFrom := (rfl)
@[simp] theorem modPort_linkVols (s : State) (i : Nat) (f : CamPort → CamPort) : (s.modPort i f).linkVols = s.linkVols := (rfl)
@[simp] theorem modPort_starting (s : State) (i : Nat) (f : CamPort → CamPort) : (s.modPort i f).starting = s.starting := (rfl)
@[simp] theorem modCtx_ctx (s : State) (i : Nat) (f : CamCtx → CamCtx) (j : Nat) : (s.modCtx i f).ctx j = if i = j then f (s.ctx i) else s.ctx j :=
  tabGet_tabSet _ _ _ _ _
@[simp] theorem modCtx_rd (s : State) (i : Nat) (f : CamCtx → CamCtx) (off : Nat) : (s.modCtx i f).rd off = s.rd off := (rfl)
@[simp] theorem modCtx_get (s : State) (i : Nat) (f : CamCtx → CamCtx) (g : Fld) : (s.modCtx i f).get g = s.get g := (rfl)
@[simp] theorem modCtx_flag (s : State) (i : Nat) (f : CamCtx → CamCtx) (g : Fld) : (s.modCtx i f).flag g = s.flag g := (rfl)
@[simp] theorem modCtx_rd64 (s : State) (i : Nat) (f : CamCtx → CamCtx) (off : Nat) : (s.modCtx i f).rd64 off = s.rd64 off := (rfl)
@[simp] theorem modCtx_beam (s : State) (i : Nat) (f : CamCtx → CamCtx) (j : Nat) : (s.modCtx i f).beam j = s.beam j := (rfl)
@[simp] theorem modCtx_pd (s : State) (i : Nat) (f : CamCtx → CamCtx) (j : Nat) : (s.modCtx i f).pd j = s.pd j := (rfl)
@[simp] theorem modCtx_port (s : State) (i : Nat) (f : CamCtx → CamCtx) (j : Nat) : (s.modCtx i f).port j = s.port j := (rfl)
@[simp] theorem modCtx_cb (s : State) (i : Nat) (f : CamCtx → CamCtx) (j : Nat) : (s.modCtx i f).cb j = s.cb j := (rfl)
@[simp] theorem modCtx_cle (s : State) (i : Nat) (f : CamCtx → CamCtx) (j : Nat) : (s.modCtx i f).cle j = s.cle j := (rfl)
@[simp] theorem modCtx_pool (s : State) (i : Nat) (f : CamCtx → CamCtx) (j : Nat) : (s.modCtx i f).pool j = s.pool j := (rfl)
@[simp] theorem modCtx_bar (s : State) (i : Nat) (f : CamCtx → CamCtx) (j : Nat) : (s.modCtx i f).bar j = s.bar j := (rfl)
@[simp] theorem modCtx_dma (s : State) (i : Nat) (f : CamCtx → CamCtx) (j : Nat) : (s.modCtx i f).dma j = s.dma j := (rfl)
@[simp] theorem modCtx_codec (s : State) (i : Nat) (f : CamCtx → CamCtx) (j : Nat) : (s.modCtx i f).codec j = s.codec j := (rfl)
@[simp] theorem modCtx_mch (s : State) (i : Nat) (f : CamCtx → CamCtx) (j : Nat) : (s.modCtx i f).mch j = s.mch j := (rfl)
@[simp] theorem modCtx_eng (s : State) (i : Nat) (f : CamCtx → CamCtx) (j : Nat) : (s.modCtx i f).eng j = s.eng j := (rfl)
@[simp] theorem modCtx_lane (s : State) (i : Nat) (f : CamCtx → CamCtx) (j : Nat) : (s.modCtx i f).lane j = s.lane j := (rfl)
@[simp] theorem modCtx_lnk (s : State) (i : Nat) (f : CamCtx → CamCtx) (j : Nat) : (s.modCtx i f).lnk j = s.lnk j := (rfl)
@[simp] theorem modCtx_sink (s : State) (i : Nat) (f : CamCtx → CamCtx) (j : Nat) : (s.modCtx i f).sink j = s.sink j := (rfl)
@[simp] theorem modCtx_net (s : State) (i : Nat) (f : CamCtx → CamCtx) (j : Nat) : (s.modCtx i f).net j = s.net j := (rfl)
@[simp] theorem modCtx_qe (s : State) (i : Nat) (f : CamCtx → CamCtx) (j : Nat) : (s.modCtx i f).qe j = s.qe j := (rfl)
@[simp] theorem modCtx_eo (s : State) (i : Nat) (f : CamCtx → CamCtx) (j : Nat) : (s.modCtx i f).eo j = s.eo j := (rfl)
@[simp] theorem modCtx_tb (s : State) (i : Nat) (f : CamCtx → CamCtx) (j : Nat) : (s.modCtx i f).tb j = s.tb j := (rfl)
@[simp] theorem modCtx_ax (s : State) (i : Nat) (f : CamCtx → CamCtx) (j : Nat) : (s.modCtx i f).ax j = s.ax j := (rfl)
@[simp] theorem modCtx_pending (s : State) (i : Nat) (f : CamCtx → CamCtx) : (s.modCtx i f).pending = s.pending := (rfl)
@[simp] theorem modCtx_lmem (s : State) (i : Nat) (f : CamCtx → CamCtx) : (s.modCtx i f).lmem = s.lmem := (rfl)
@[simp] theorem modCtx_dram (s : State) (i : Nat) (f : CamCtx → CamCtx) : (s.modCtx i f).dram = s.dram := (rfl)
@[simp] theorem modCtx_trace (s : State) (i : Nat) (f : CamCtx → CamCtx) : (s.modCtx i f).trace = s.trace := (rfl)
@[simp] theorem modCtx_evNew (s : State) (i : Nat) (f : CamCtx → CamCtx) : (s.modCtx i f).evNew = s.evNew := (rfl)
@[simp] theorem modCtx_evq (s : State) (i : Nat) (f : CamCtx → CamCtx) : (s.modCtx i f).evq = s.evq := (rfl)
@[simp] theorem modCtx_evLoss (s : State) (i : Nat) (f : CamCtx → CamCtx) : (s.modCtx i f).evLoss = s.evLoss := (rfl)
@[simp] theorem modCtx_supplyHeld (s : State) (i : Nat) (f : CamCtx → CamCtx) : (s.modCtx i f).supplyHeld = s.supplyHeld := (rfl)
@[simp] theorem modCtx_clockLost (s : State) (i : Nat) (f : CamCtx → CamCtx) : (s.modCtx i f).clockLost = s.clockLost := (rfl)
@[simp] theorem modCtx_fabricUp (s : State) (i : Nat) (f : CamCtx → CamCtx) : (s.modCtx i f).fabricUp = s.fabricUp := (rfl)
@[simp] theorem modCtx_tstArmed (s : State) (i : Nat) (f : CamCtx → CamCtx) : (s.modCtx i f).tstArmed = s.tstArmed := (rfl)
@[simp] theorem modCtx_fresh (s : State) (i : Nat) (f : CamCtx → CamCtx) : (s.modCtx i f).fresh = s.fresh := (rfl)
@[simp] theorem modCtx_outbox (s : State) (i : Nat) (f : CamCtx → CamCtx) : (s.modCtx i f).outbox = s.outbox := (rfl)
@[simp] theorem modCtx_late (s : State) (i : Nat) (f : CamCtx → CamCtx) : (s.modCtx i f).late = s.late := (rfl)
@[simp] theorem modCtx_fetched (s : State) (i : Nat) (f : CamCtx → CamCtx) : (s.modCtx i f).fetched = s.fetched := (rfl)
@[simp] theorem modCtx_ilkLvl (s : State) (i : Nat) (f : CamCtx → CamCtx) : (s.modCtx i f).ilkLvl = s.ilkLvl := (rfl)
@[simp] theorem modCtx_laneDark (s : State) (i : Nat) (f : CamCtx → CamCtx) : (s.modCtx i f).laneDark = s.laneDark := (rfl)
@[simp] theorem modCtx_inEdge (s : State) (i : Nat) (f : CamCtx → CamCtx) : (s.modCtx i f).inEdge = s.inEdge := (rfl)
@[simp] theorem modCtx_ssNow (s : State) (i : Nat) (f : CamCtx → CamCtx) : (s.modCtx i f).ssNow = s.ssNow := (rfl)
@[simp] theorem modCtx_seen (s : State) (i : Nat) (f : CamCtx → CamCtx) : (s.modCtx i f).seen = s.seen := (rfl)
@[simp] theorem modCtx_winLead (s : State) (i : Nat) (f : CamCtx → CamCtx) : (s.modCtx i f).winLead = s.winLead := (rfl)
@[simp] theorem modCtx_alive (s : State) (i : Nat) (f : CamCtx → CamCtx) : (s.modCtx i f).alive = s.alive := (rfl)
@[simp] theorem modCtx_dramWait (s : State) (i : Nat) (f : CamCtx → CamCtx) : (s.modCtx i f).dramWait = s.dramWait := (rfl)
@[simp] theorem modCtx_mapFrom (s : State) (i : Nat) (f : CamCtx → CamCtx) : (s.modCtx i f).mapFrom = s.mapFrom := (rfl)
@[simp] theorem modCtx_linkVols (s : State) (i : Nat) (f : CamCtx → CamCtx) : (s.modCtx i f).linkVols = s.linkVols := (rfl)
@[simp] theorem modCtx_starting (s : State) (i : Nat) (f : CamCtx → CamCtx) : (s.modCtx i f).starting = s.starting := (rfl)
@[simp] theorem modCb_cb (s : State) (i : Nat) (f : CleB → CleB) (j : Nat) : (s.modCb i f).cb j = if i = j then f (s.cb i) else s.cb j :=
  tabGet_tabSet _ _ _ _ _
@[simp] theorem modCb_rd (s : State) (i : Nat) (f : CleB → CleB) (off : Nat) : (s.modCb i f).rd off = s.rd off := (rfl)
@[simp] theorem modCb_get (s : State) (i : Nat) (f : CleB → CleB) (g : Fld) : (s.modCb i f).get g = s.get g := (rfl)
@[simp] theorem modCb_flag (s : State) (i : Nat) (f : CleB → CleB) (g : Fld) : (s.modCb i f).flag g = s.flag g := (rfl)
@[simp] theorem modCb_rd64 (s : State) (i : Nat) (f : CleB → CleB) (off : Nat) : (s.modCb i f).rd64 off = s.rd64 off := (rfl)
@[simp] theorem modCb_beam (s : State) (i : Nat) (f : CleB → CleB) (j : Nat) : (s.modCb i f).beam j = s.beam j := (rfl)
@[simp] theorem modCb_pd (s : State) (i : Nat) (f : CleB → CleB) (j : Nat) : (s.modCb i f).pd j = s.pd j := (rfl)
@[simp] theorem modCb_port (s : State) (i : Nat) (f : CleB → CleB) (j : Nat) : (s.modCb i f).port j = s.port j := (rfl)
@[simp] theorem modCb_ctx (s : State) (i : Nat) (f : CleB → CleB) (j : Nat) : (s.modCb i f).ctx j = s.ctx j := (rfl)
@[simp] theorem modCb_cle (s : State) (i : Nat) (f : CleB → CleB) (j : Nat) : (s.modCb i f).cle j = s.cle j := (rfl)
@[simp] theorem modCb_pool (s : State) (i : Nat) (f : CleB → CleB) (j : Nat) : (s.modCb i f).pool j = s.pool j := (rfl)
@[simp] theorem modCb_bar (s : State) (i : Nat) (f : CleB → CleB) (j : Nat) : (s.modCb i f).bar j = s.bar j := (rfl)
@[simp] theorem modCb_dma (s : State) (i : Nat) (f : CleB → CleB) (j : Nat) : (s.modCb i f).dma j = s.dma j := (rfl)
@[simp] theorem modCb_codec (s : State) (i : Nat) (f : CleB → CleB) (j : Nat) : (s.modCb i f).codec j = s.codec j := (rfl)
@[simp] theorem modCb_mch (s : State) (i : Nat) (f : CleB → CleB) (j : Nat) : (s.modCb i f).mch j = s.mch j := (rfl)
@[simp] theorem modCb_eng (s : State) (i : Nat) (f : CleB → CleB) (j : Nat) : (s.modCb i f).eng j = s.eng j := (rfl)
@[simp] theorem modCb_lane (s : State) (i : Nat) (f : CleB → CleB) (j : Nat) : (s.modCb i f).lane j = s.lane j := (rfl)
@[simp] theorem modCb_lnk (s : State) (i : Nat) (f : CleB → CleB) (j : Nat) : (s.modCb i f).lnk j = s.lnk j := (rfl)
@[simp] theorem modCb_sink (s : State) (i : Nat) (f : CleB → CleB) (j : Nat) : (s.modCb i f).sink j = s.sink j := (rfl)
@[simp] theorem modCb_net (s : State) (i : Nat) (f : CleB → CleB) (j : Nat) : (s.modCb i f).net j = s.net j := (rfl)
@[simp] theorem modCb_qe (s : State) (i : Nat) (f : CleB → CleB) (j : Nat) : (s.modCb i f).qe j = s.qe j := (rfl)
@[simp] theorem modCb_eo (s : State) (i : Nat) (f : CleB → CleB) (j : Nat) : (s.modCb i f).eo j = s.eo j := (rfl)
@[simp] theorem modCb_tb (s : State) (i : Nat) (f : CleB → CleB) (j : Nat) : (s.modCb i f).tb j = s.tb j := (rfl)
@[simp] theorem modCb_ax (s : State) (i : Nat) (f : CleB → CleB) (j : Nat) : (s.modCb i f).ax j = s.ax j := (rfl)
@[simp] theorem modCb_pending (s : State) (i : Nat) (f : CleB → CleB) : (s.modCb i f).pending = s.pending := (rfl)
@[simp] theorem modCb_lmem (s : State) (i : Nat) (f : CleB → CleB) : (s.modCb i f).lmem = s.lmem := (rfl)
@[simp] theorem modCb_dram (s : State) (i : Nat) (f : CleB → CleB) : (s.modCb i f).dram = s.dram := (rfl)
@[simp] theorem modCb_trace (s : State) (i : Nat) (f : CleB → CleB) : (s.modCb i f).trace = s.trace := (rfl)
@[simp] theorem modCb_evNew (s : State) (i : Nat) (f : CleB → CleB) : (s.modCb i f).evNew = s.evNew := (rfl)
@[simp] theorem modCb_evq (s : State) (i : Nat) (f : CleB → CleB) : (s.modCb i f).evq = s.evq := (rfl)
@[simp] theorem modCb_evLoss (s : State) (i : Nat) (f : CleB → CleB) : (s.modCb i f).evLoss = s.evLoss := (rfl)
@[simp] theorem modCb_supplyHeld (s : State) (i : Nat) (f : CleB → CleB) : (s.modCb i f).supplyHeld = s.supplyHeld := (rfl)
@[simp] theorem modCb_clockLost (s : State) (i : Nat) (f : CleB → CleB) : (s.modCb i f).clockLost = s.clockLost := (rfl)
@[simp] theorem modCb_fabricUp (s : State) (i : Nat) (f : CleB → CleB) : (s.modCb i f).fabricUp = s.fabricUp := (rfl)
@[simp] theorem modCb_tstArmed (s : State) (i : Nat) (f : CleB → CleB) : (s.modCb i f).tstArmed = s.tstArmed := (rfl)
@[simp] theorem modCb_fresh (s : State) (i : Nat) (f : CleB → CleB) : (s.modCb i f).fresh = s.fresh := (rfl)
@[simp] theorem modCb_outbox (s : State) (i : Nat) (f : CleB → CleB) : (s.modCb i f).outbox = s.outbox := (rfl)
@[simp] theorem modCb_late (s : State) (i : Nat) (f : CleB → CleB) : (s.modCb i f).late = s.late := (rfl)
@[simp] theorem modCb_fetched (s : State) (i : Nat) (f : CleB → CleB) : (s.modCb i f).fetched = s.fetched := (rfl)
@[simp] theorem modCb_ilkLvl (s : State) (i : Nat) (f : CleB → CleB) : (s.modCb i f).ilkLvl = s.ilkLvl := (rfl)
@[simp] theorem modCb_laneDark (s : State) (i : Nat) (f : CleB → CleB) : (s.modCb i f).laneDark = s.laneDark := (rfl)
@[simp] theorem modCb_inEdge (s : State) (i : Nat) (f : CleB → CleB) : (s.modCb i f).inEdge = s.inEdge := (rfl)
@[simp] theorem modCb_ssNow (s : State) (i : Nat) (f : CleB → CleB) : (s.modCb i f).ssNow = s.ssNow := (rfl)
@[simp] theorem modCb_seen (s : State) (i : Nat) (f : CleB → CleB) : (s.modCb i f).seen = s.seen := (rfl)
@[simp] theorem modCb_winLead (s : State) (i : Nat) (f : CleB → CleB) : (s.modCb i f).winLead = s.winLead := (rfl)
@[simp] theorem modCb_alive (s : State) (i : Nat) (f : CleB → CleB) : (s.modCb i f).alive = s.alive := (rfl)
@[simp] theorem modCb_dramWait (s : State) (i : Nat) (f : CleB → CleB) : (s.modCb i f).dramWait = s.dramWait := (rfl)
@[simp] theorem modCb_mapFrom (s : State) (i : Nat) (f : CleB → CleB) : (s.modCb i f).mapFrom = s.mapFrom := (rfl)
@[simp] theorem modCb_linkVols (s : State) (i : Nat) (f : CleB → CleB) : (s.modCb i f).linkVols = s.linkVols := (rfl)
@[simp] theorem modCb_starting (s : State) (i : Nat) (f : CleB → CleB) : (s.modCb i f).starting = s.starting := (rfl)
@[simp] theorem modCle_cle (s : State) (i : Nat) (f : Cle → Cle) (j : Nat) : (s.modCle i f).cle j = if i = j then f (s.cle i) else s.cle j :=
  tabGet_tabSet _ _ _ _ _
@[simp] theorem modCle_rd (s : State) (i : Nat) (f : Cle → Cle) (off : Nat) : (s.modCle i f).rd off = s.rd off := (rfl)
@[simp] theorem modCle_get (s : State) (i : Nat) (f : Cle → Cle) (g : Fld) : (s.modCle i f).get g = s.get g := (rfl)
@[simp] theorem modCle_flag (s : State) (i : Nat) (f : Cle → Cle) (g : Fld) : (s.modCle i f).flag g = s.flag g := (rfl)
@[simp] theorem modCle_rd64 (s : State) (i : Nat) (f : Cle → Cle) (off : Nat) : (s.modCle i f).rd64 off = s.rd64 off := (rfl)
@[simp] theorem modCle_beam (s : State) (i : Nat) (f : Cle → Cle) (j : Nat) : (s.modCle i f).beam j = s.beam j := (rfl)
@[simp] theorem modCle_pd (s : State) (i : Nat) (f : Cle → Cle) (j : Nat) : (s.modCle i f).pd j = s.pd j := (rfl)
@[simp] theorem modCle_port (s : State) (i : Nat) (f : Cle → Cle) (j : Nat) : (s.modCle i f).port j = s.port j := (rfl)
@[simp] theorem modCle_ctx (s : State) (i : Nat) (f : Cle → Cle) (j : Nat) : (s.modCle i f).ctx j = s.ctx j := (rfl)
@[simp] theorem modCle_cb (s : State) (i : Nat) (f : Cle → Cle) (j : Nat) : (s.modCle i f).cb j = s.cb j := (rfl)
@[simp] theorem modCle_pool (s : State) (i : Nat) (f : Cle → Cle) (j : Nat) : (s.modCle i f).pool j = s.pool j := (rfl)
@[simp] theorem modCle_bar (s : State) (i : Nat) (f : Cle → Cle) (j : Nat) : (s.modCle i f).bar j = s.bar j := (rfl)
@[simp] theorem modCle_dma (s : State) (i : Nat) (f : Cle → Cle) (j : Nat) : (s.modCle i f).dma j = s.dma j := (rfl)
@[simp] theorem modCle_codec (s : State) (i : Nat) (f : Cle → Cle) (j : Nat) : (s.modCle i f).codec j = s.codec j := (rfl)
@[simp] theorem modCle_mch (s : State) (i : Nat) (f : Cle → Cle) (j : Nat) : (s.modCle i f).mch j = s.mch j := (rfl)
@[simp] theorem modCle_eng (s : State) (i : Nat) (f : Cle → Cle) (j : Nat) : (s.modCle i f).eng j = s.eng j := (rfl)
@[simp] theorem modCle_lane (s : State) (i : Nat) (f : Cle → Cle) (j : Nat) : (s.modCle i f).lane j = s.lane j := (rfl)
@[simp] theorem modCle_lnk (s : State) (i : Nat) (f : Cle → Cle) (j : Nat) : (s.modCle i f).lnk j = s.lnk j := (rfl)
@[simp] theorem modCle_sink (s : State) (i : Nat) (f : Cle → Cle) (j : Nat) : (s.modCle i f).sink j = s.sink j := (rfl)
@[simp] theorem modCle_net (s : State) (i : Nat) (f : Cle → Cle) (j : Nat) : (s.modCle i f).net j = s.net j := (rfl)
@[simp] theorem modCle_qe (s : State) (i : Nat) (f : Cle → Cle) (j : Nat) : (s.modCle i f).qe j = s.qe j := (rfl)
@[simp] theorem modCle_eo (s : State) (i : Nat) (f : Cle → Cle) (j : Nat) : (s.modCle i f).eo j = s.eo j := (rfl)
@[simp] theorem modCle_tb (s : State) (i : Nat) (f : Cle → Cle) (j : Nat) : (s.modCle i f).tb j = s.tb j := (rfl)
@[simp] theorem modCle_ax (s : State) (i : Nat) (f : Cle → Cle) (j : Nat) : (s.modCle i f).ax j = s.ax j := (rfl)
@[simp] theorem modCle_pending (s : State) (i : Nat) (f : Cle → Cle) : (s.modCle i f).pending = s.pending := (rfl)
@[simp] theorem modCle_lmem (s : State) (i : Nat) (f : Cle → Cle) : (s.modCle i f).lmem = s.lmem := (rfl)
@[simp] theorem modCle_dram (s : State) (i : Nat) (f : Cle → Cle) : (s.modCle i f).dram = s.dram := (rfl)
@[simp] theorem modCle_trace (s : State) (i : Nat) (f : Cle → Cle) : (s.modCle i f).trace = s.trace := (rfl)
@[simp] theorem modCle_evNew (s : State) (i : Nat) (f : Cle → Cle) : (s.modCle i f).evNew = s.evNew := (rfl)
@[simp] theorem modCle_evq (s : State) (i : Nat) (f : Cle → Cle) : (s.modCle i f).evq = s.evq := (rfl)
@[simp] theorem modCle_evLoss (s : State) (i : Nat) (f : Cle → Cle) : (s.modCle i f).evLoss = s.evLoss := (rfl)
@[simp] theorem modCle_supplyHeld (s : State) (i : Nat) (f : Cle → Cle) : (s.modCle i f).supplyHeld = s.supplyHeld := (rfl)
@[simp] theorem modCle_clockLost (s : State) (i : Nat) (f : Cle → Cle) : (s.modCle i f).clockLost = s.clockLost := (rfl)
@[simp] theorem modCle_fabricUp (s : State) (i : Nat) (f : Cle → Cle) : (s.modCle i f).fabricUp = s.fabricUp := (rfl)
@[simp] theorem modCle_tstArmed (s : State) (i : Nat) (f : Cle → Cle) : (s.modCle i f).tstArmed = s.tstArmed := (rfl)
@[simp] theorem modCle_fresh (s : State) (i : Nat) (f : Cle → Cle) : (s.modCle i f).fresh = s.fresh := (rfl)
@[simp] theorem modCle_outbox (s : State) (i : Nat) (f : Cle → Cle) : (s.modCle i f).outbox = s.outbox := (rfl)
@[simp] theorem modCle_late (s : State) (i : Nat) (f : Cle → Cle) : (s.modCle i f).late = s.late := (rfl)
@[simp] theorem modCle_fetched (s : State) (i : Nat) (f : Cle → Cle) : (s.modCle i f).fetched = s.fetched := (rfl)
@[simp] theorem modCle_ilkLvl (s : State) (i : Nat) (f : Cle → Cle) : (s.modCle i f).ilkLvl = s.ilkLvl := (rfl)
@[simp] theorem modCle_laneDark (s : State) (i : Nat) (f : Cle → Cle) : (s.modCle i f).laneDark = s.laneDark := (rfl)
@[simp] theorem modCle_inEdge (s : State) (i : Nat) (f : Cle → Cle) : (s.modCle i f).inEdge = s.inEdge := (rfl)
@[simp] theorem modCle_ssNow (s : State) (i : Nat) (f : Cle → Cle) : (s.modCle i f).ssNow = s.ssNow := (rfl)
@[simp] theorem modCle_seen (s : State) (i : Nat) (f : Cle → Cle) : (s.modCle i f).seen = s.seen := (rfl)
@[simp] theorem modCle_winLead (s : State) (i : Nat) (f : Cle → Cle) : (s.modCle i f).winLead = s.winLead := (rfl)
@[simp] theorem modCle_alive (s : State) (i : Nat) (f : Cle → Cle) : (s.modCle i f).alive = s.alive := (rfl)
@[simp] theorem modCle_dramWait (s : State) (i : Nat) (f : Cle → Cle) : (s.modCle i f).dramWait = s.dramWait := (rfl)
@[simp] theorem modCle_mapFrom (s : State) (i : Nat) (f : Cle → Cle) : (s.modCle i f).mapFrom = s.mapFrom := (rfl)
@[simp] theorem modCle_linkVols (s : State) (i : Nat) (f : Cle → Cle) : (s.modCle i f).linkVols = s.linkVols := (rfl)
@[simp] theorem modCle_starting (s : State) (i : Nat) (f : Cle → Cle) : (s.modCle i f).starting = s.starting := (rfl)
@[simp] theorem modPool_pool (s : State) (i : Nat) (f : Pool → Pool) (j : Nat) : (s.modPool i f).pool j = if i = j then f (s.pool i) else s.pool j :=
  tabGet_tabSet _ _ _ _ _
@[simp] theorem modPool_rd (s : State) (i : Nat) (f : Pool → Pool) (off : Nat) : (s.modPool i f).rd off = s.rd off := (rfl)
@[simp] theorem modPool_get (s : State) (i : Nat) (f : Pool → Pool) (g : Fld) : (s.modPool i f).get g = s.get g := (rfl)
@[simp] theorem modPool_flag (s : State) (i : Nat) (f : Pool → Pool) (g : Fld) : (s.modPool i f).flag g = s.flag g := (rfl)
@[simp] theorem modPool_rd64 (s : State) (i : Nat) (f : Pool → Pool) (off : Nat) : (s.modPool i f).rd64 off = s.rd64 off := (rfl)
@[simp] theorem modPool_beam (s : State) (i : Nat) (f : Pool → Pool) (j : Nat) : (s.modPool i f).beam j = s.beam j := (rfl)
@[simp] theorem modPool_pd (s : State) (i : Nat) (f : Pool → Pool) (j : Nat) : (s.modPool i f).pd j = s.pd j := (rfl)
@[simp] theorem modPool_port (s : State) (i : Nat) (f : Pool → Pool) (j : Nat) : (s.modPool i f).port j = s.port j := (rfl)
@[simp] theorem modPool_ctx (s : State) (i : Nat) (f : Pool → Pool) (j : Nat) : (s.modPool i f).ctx j = s.ctx j := (rfl)
@[simp] theorem modPool_cb (s : State) (i : Nat) (f : Pool → Pool) (j : Nat) : (s.modPool i f).cb j = s.cb j := (rfl)
@[simp] theorem modPool_cle (s : State) (i : Nat) (f : Pool → Pool) (j : Nat) : (s.modPool i f).cle j = s.cle j := (rfl)
@[simp] theorem modPool_bar (s : State) (i : Nat) (f : Pool → Pool) (j : Nat) : (s.modPool i f).bar j = s.bar j := (rfl)
@[simp] theorem modPool_dma (s : State) (i : Nat) (f : Pool → Pool) (j : Nat) : (s.modPool i f).dma j = s.dma j := (rfl)
@[simp] theorem modPool_codec (s : State) (i : Nat) (f : Pool → Pool) (j : Nat) : (s.modPool i f).codec j = s.codec j := (rfl)
@[simp] theorem modPool_mch (s : State) (i : Nat) (f : Pool → Pool) (j : Nat) : (s.modPool i f).mch j = s.mch j := (rfl)
@[simp] theorem modPool_eng (s : State) (i : Nat) (f : Pool → Pool) (j : Nat) : (s.modPool i f).eng j = s.eng j := (rfl)
@[simp] theorem modPool_lane (s : State) (i : Nat) (f : Pool → Pool) (j : Nat) : (s.modPool i f).lane j = s.lane j := (rfl)
@[simp] theorem modPool_lnk (s : State) (i : Nat) (f : Pool → Pool) (j : Nat) : (s.modPool i f).lnk j = s.lnk j := (rfl)
@[simp] theorem modPool_sink (s : State) (i : Nat) (f : Pool → Pool) (j : Nat) : (s.modPool i f).sink j = s.sink j := (rfl)
@[simp] theorem modPool_net (s : State) (i : Nat) (f : Pool → Pool) (j : Nat) : (s.modPool i f).net j = s.net j := (rfl)
@[simp] theorem modPool_qe (s : State) (i : Nat) (f : Pool → Pool) (j : Nat) : (s.modPool i f).qe j = s.qe j := (rfl)
@[simp] theorem modPool_eo (s : State) (i : Nat) (f : Pool → Pool) (j : Nat) : (s.modPool i f).eo j = s.eo j := (rfl)
@[simp] theorem modPool_tb (s : State) (i : Nat) (f : Pool → Pool) (j : Nat) : (s.modPool i f).tb j = s.tb j := (rfl)
@[simp] theorem modPool_ax (s : State) (i : Nat) (f : Pool → Pool) (j : Nat) : (s.modPool i f).ax j = s.ax j := (rfl)
@[simp] theorem modPool_pending (s : State) (i : Nat) (f : Pool → Pool) : (s.modPool i f).pending = s.pending := (rfl)
@[simp] theorem modPool_lmem (s : State) (i : Nat) (f : Pool → Pool) : (s.modPool i f).lmem = s.lmem := (rfl)
@[simp] theorem modPool_dram (s : State) (i : Nat) (f : Pool → Pool) : (s.modPool i f).dram = s.dram := (rfl)
@[simp] theorem modPool_trace (s : State) (i : Nat) (f : Pool → Pool) : (s.modPool i f).trace = s.trace := (rfl)
@[simp] theorem modPool_evNew (s : State) (i : Nat) (f : Pool → Pool) : (s.modPool i f).evNew = s.evNew := (rfl)
@[simp] theorem modPool_evq (s : State) (i : Nat) (f : Pool → Pool) : (s.modPool i f).evq = s.evq := (rfl)
@[simp] theorem modPool_evLoss (s : State) (i : Nat) (f : Pool → Pool) : (s.modPool i f).evLoss = s.evLoss := (rfl)
@[simp] theorem modPool_supplyHeld (s : State) (i : Nat) (f : Pool → Pool) : (s.modPool i f).supplyHeld = s.supplyHeld := (rfl)
@[simp] theorem modPool_clockLost (s : State) (i : Nat) (f : Pool → Pool) : (s.modPool i f).clockLost = s.clockLost := (rfl)
@[simp] theorem modPool_fabricUp (s : State) (i : Nat) (f : Pool → Pool) : (s.modPool i f).fabricUp = s.fabricUp := (rfl)
@[simp] theorem modPool_tstArmed (s : State) (i : Nat) (f : Pool → Pool) : (s.modPool i f).tstArmed = s.tstArmed := (rfl)
@[simp] theorem modPool_fresh (s : State) (i : Nat) (f : Pool → Pool) : (s.modPool i f).fresh = s.fresh := (rfl)
@[simp] theorem modPool_outbox (s : State) (i : Nat) (f : Pool → Pool) : (s.modPool i f).outbox = s.outbox := (rfl)
@[simp] theorem modPool_late (s : State) (i : Nat) (f : Pool → Pool) : (s.modPool i f).late = s.late := (rfl)
@[simp] theorem modPool_fetched (s : State) (i : Nat) (f : Pool → Pool) : (s.modPool i f).fetched = s.fetched := (rfl)
@[simp] theorem modPool_ilkLvl (s : State) (i : Nat) (f : Pool → Pool) : (s.modPool i f).ilkLvl = s.ilkLvl := (rfl)
@[simp] theorem modPool_laneDark (s : State) (i : Nat) (f : Pool → Pool) : (s.modPool i f).laneDark = s.laneDark := (rfl)
@[simp] theorem modPool_inEdge (s : State) (i : Nat) (f : Pool → Pool) : (s.modPool i f).inEdge = s.inEdge := (rfl)
@[simp] theorem modPool_ssNow (s : State) (i : Nat) (f : Pool → Pool) : (s.modPool i f).ssNow = s.ssNow := (rfl)
@[simp] theorem modPool_seen (s : State) (i : Nat) (f : Pool → Pool) : (s.modPool i f).seen = s.seen := (rfl)
@[simp] theorem modPool_winLead (s : State) (i : Nat) (f : Pool → Pool) : (s.modPool i f).winLead = s.winLead := (rfl)
@[simp] theorem modPool_alive (s : State) (i : Nat) (f : Pool → Pool) : (s.modPool i f).alive = s.alive := (rfl)
@[simp] theorem modPool_dramWait (s : State) (i : Nat) (f : Pool → Pool) : (s.modPool i f).dramWait = s.dramWait := (rfl)
@[simp] theorem modPool_mapFrom (s : State) (i : Nat) (f : Pool → Pool) : (s.modPool i f).mapFrom = s.mapFrom := (rfl)
@[simp] theorem modPool_linkVols (s : State) (i : Nat) (f : Pool → Pool) : (s.modPool i f).linkVols = s.linkVols := (rfl)
@[simp] theorem modPool_starting (s : State) (i : Nat) (f : Pool → Pool) : (s.modPool i f).starting = s.starting := (rfl)
@[simp] theorem modBar_bar (s : State) (i : Nat) (f : Barrier → Barrier) (j : Nat) : (s.modBar i f).bar j = if i = j then f (s.bar i) else s.bar j :=
  tabGet_tabSet _ _ _ _ _
@[simp] theorem modBar_rd (s : State) (i : Nat) (f : Barrier → Barrier) (off : Nat) : (s.modBar i f).rd off = s.rd off := (rfl)
@[simp] theorem modBar_get (s : State) (i : Nat) (f : Barrier → Barrier) (g : Fld) : (s.modBar i f).get g = s.get g := (rfl)
@[simp] theorem modBar_flag (s : State) (i : Nat) (f : Barrier → Barrier) (g : Fld) : (s.modBar i f).flag g = s.flag g := (rfl)
@[simp] theorem modBar_rd64 (s : State) (i : Nat) (f : Barrier → Barrier) (off : Nat) : (s.modBar i f).rd64 off = s.rd64 off := (rfl)
@[simp] theorem modBar_beam (s : State) (i : Nat) (f : Barrier → Barrier) (j : Nat) : (s.modBar i f).beam j = s.beam j := (rfl)
@[simp] theorem modBar_pd (s : State) (i : Nat) (f : Barrier → Barrier) (j : Nat) : (s.modBar i f).pd j = s.pd j := (rfl)
@[simp] theorem modBar_port (s : State) (i : Nat) (f : Barrier → Barrier) (j : Nat) : (s.modBar i f).port j = s.port j := (rfl)
@[simp] theorem modBar_ctx (s : State) (i : Nat) (f : Barrier → Barrier) (j : Nat) : (s.modBar i f).ctx j = s.ctx j := (rfl)
@[simp] theorem modBar_cb (s : State) (i : Nat) (f : Barrier → Barrier) (j : Nat) : (s.modBar i f).cb j = s.cb j := (rfl)
@[simp] theorem modBar_cle (s : State) (i : Nat) (f : Barrier → Barrier) (j : Nat) : (s.modBar i f).cle j = s.cle j := (rfl)
@[simp] theorem modBar_pool (s : State) (i : Nat) (f : Barrier → Barrier) (j : Nat) : (s.modBar i f).pool j = s.pool j := (rfl)
@[simp] theorem modBar_dma (s : State) (i : Nat) (f : Barrier → Barrier) (j : Nat) : (s.modBar i f).dma j = s.dma j := (rfl)
@[simp] theorem modBar_codec (s : State) (i : Nat) (f : Barrier → Barrier) (j : Nat) : (s.modBar i f).codec j = s.codec j := (rfl)
@[simp] theorem modBar_mch (s : State) (i : Nat) (f : Barrier → Barrier) (j : Nat) : (s.modBar i f).mch j = s.mch j := (rfl)
@[simp] theorem modBar_eng (s : State) (i : Nat) (f : Barrier → Barrier) (j : Nat) : (s.modBar i f).eng j = s.eng j := (rfl)
@[simp] theorem modBar_lane (s : State) (i : Nat) (f : Barrier → Barrier) (j : Nat) : (s.modBar i f).lane j = s.lane j := (rfl)
@[simp] theorem modBar_lnk (s : State) (i : Nat) (f : Barrier → Barrier) (j : Nat) : (s.modBar i f).lnk j = s.lnk j := (rfl)
@[simp] theorem modBar_sink (s : State) (i : Nat) (f : Barrier → Barrier) (j : Nat) : (s.modBar i f).sink j = s.sink j := (rfl)
@[simp] theorem modBar_net (s : State) (i : Nat) (f : Barrier → Barrier) (j : Nat) : (s.modBar i f).net j = s.net j := (rfl)
@[simp] theorem modBar_qe (s : State) (i : Nat) (f : Barrier → Barrier) (j : Nat) : (s.modBar i f).qe j = s.qe j := (rfl)
@[simp] theorem modBar_eo (s : State) (i : Nat) (f : Barrier → Barrier) (j : Nat) : (s.modBar i f).eo j = s.eo j := (rfl)
@[simp] theorem modBar_tb (s : State) (i : Nat) (f : Barrier → Barrier) (j : Nat) : (s.modBar i f).tb j = s.tb j := (rfl)
@[simp] theorem modBar_ax (s : State) (i : Nat) (f : Barrier → Barrier) (j : Nat) : (s.modBar i f).ax j = s.ax j := (rfl)
@[simp] theorem modBar_pending (s : State) (i : Nat) (f : Barrier → Barrier) : (s.modBar i f).pending = s.pending := (rfl)
@[simp] theorem modBar_lmem (s : State) (i : Nat) (f : Barrier → Barrier) : (s.modBar i f).lmem = s.lmem := (rfl)
@[simp] theorem modBar_dram (s : State) (i : Nat) (f : Barrier → Barrier) : (s.modBar i f).dram = s.dram := (rfl)
@[simp] theorem modBar_trace (s : State) (i : Nat) (f : Barrier → Barrier) : (s.modBar i f).trace = s.trace := (rfl)
@[simp] theorem modBar_evNew (s : State) (i : Nat) (f : Barrier → Barrier) : (s.modBar i f).evNew = s.evNew := (rfl)
@[simp] theorem modBar_evq (s : State) (i : Nat) (f : Barrier → Barrier) : (s.modBar i f).evq = s.evq := (rfl)
@[simp] theorem modBar_evLoss (s : State) (i : Nat) (f : Barrier → Barrier) : (s.modBar i f).evLoss = s.evLoss := (rfl)
@[simp] theorem modBar_supplyHeld (s : State) (i : Nat) (f : Barrier → Barrier) : (s.modBar i f).supplyHeld = s.supplyHeld := (rfl)
@[simp] theorem modBar_clockLost (s : State) (i : Nat) (f : Barrier → Barrier) : (s.modBar i f).clockLost = s.clockLost := (rfl)
@[simp] theorem modBar_fabricUp (s : State) (i : Nat) (f : Barrier → Barrier) : (s.modBar i f).fabricUp = s.fabricUp := (rfl)
@[simp] theorem modBar_tstArmed (s : State) (i : Nat) (f : Barrier → Barrier) : (s.modBar i f).tstArmed = s.tstArmed := (rfl)
@[simp] theorem modBar_fresh (s : State) (i : Nat) (f : Barrier → Barrier) : (s.modBar i f).fresh = s.fresh := (rfl)
@[simp] theorem modBar_outbox (s : State) (i : Nat) (f : Barrier → Barrier) : (s.modBar i f).outbox = s.outbox := (rfl)
@[simp] theorem modBar_late (s : State) (i : Nat) (f : Barrier → Barrier) : (s.modBar i f).late = s.late := (rfl)
@[simp] theorem modBar_fetched (s : State) (i : Nat) (f : Barrier → Barrier) : (s.modBar i f).fetched = s.fetched := (rfl)
@[simp] theorem modBar_ilkLvl (s : State) (i : Nat) (f : Barrier → Barrier) : (s.modBar i f).ilkLvl = s.ilkLvl := (rfl)
@[simp] theorem modBar_laneDark (s : State) (i : Nat) (f : Barrier → Barrier) : (s.modBar i f).laneDark = s.laneDark := (rfl)
@[simp] theorem modBar_inEdge (s : State) (i : Nat) (f : Barrier → Barrier) : (s.modBar i f).inEdge = s.inEdge := (rfl)
@[simp] theorem modBar_ssNow (s : State) (i : Nat) (f : Barrier → Barrier) : (s.modBar i f).ssNow = s.ssNow := (rfl)
@[simp] theorem modBar_seen (s : State) (i : Nat) (f : Barrier → Barrier) : (s.modBar i f).seen = s.seen := (rfl)
@[simp] theorem modBar_winLead (s : State) (i : Nat) (f : Barrier → Barrier) : (s.modBar i f).winLead = s.winLead := (rfl)
@[simp] theorem modBar_alive (s : State) (i : Nat) (f : Barrier → Barrier) : (s.modBar i f).alive = s.alive := (rfl)
@[simp] theorem modBar_dramWait (s : State) (i : Nat) (f : Barrier → Barrier) : (s.modBar i f).dramWait = s.dramWait := (rfl)
@[simp] theorem modBar_mapFrom (s : State) (i : Nat) (f : Barrier → Barrier) : (s.modBar i f).mapFrom = s.mapFrom := (rfl)
@[simp] theorem modBar_linkVols (s : State) (i : Nat) (f : Barrier → Barrier) : (s.modBar i f).linkVols = s.linkVols := (rfl)
@[simp] theorem modBar_starting (s : State) (i : Nat) (f : Barrier → Barrier) : (s.modBar i f).starting = s.starting := (rfl)
@[simp] theorem modDma_dma (s : State) (i : Nat) (f : Dma → Dma) (j : Nat) : (s.modDma i f).dma j = if i = j then f (s.dma i) else s.dma j :=
  tabGet_tabSet _ _ _ _ _
@[simp] theorem modDma_rd (s : State) (i : Nat) (f : Dma → Dma) (off : Nat) : (s.modDma i f).rd off = s.rd off := (rfl)
@[simp] theorem modDma_get (s : State) (i : Nat) (f : Dma → Dma) (g : Fld) : (s.modDma i f).get g = s.get g := (rfl)
@[simp] theorem modDma_flag (s : State) (i : Nat) (f : Dma → Dma) (g : Fld) : (s.modDma i f).flag g = s.flag g := (rfl)
@[simp] theorem modDma_rd64 (s : State) (i : Nat) (f : Dma → Dma) (off : Nat) : (s.modDma i f).rd64 off = s.rd64 off := (rfl)
@[simp] theorem modDma_beam (s : State) (i : Nat) (f : Dma → Dma) (j : Nat) : (s.modDma i f).beam j = s.beam j := (rfl)
@[simp] theorem modDma_pd (s : State) (i : Nat) (f : Dma → Dma) (j : Nat) : (s.modDma i f).pd j = s.pd j := (rfl)
@[simp] theorem modDma_port (s : State) (i : Nat) (f : Dma → Dma) (j : Nat) : (s.modDma i f).port j = s.port j := (rfl)
@[simp] theorem modDma_ctx (s : State) (i : Nat) (f : Dma → Dma) (j : Nat) : (s.modDma i f).ctx j = s.ctx j := (rfl)
@[simp] theorem modDma_cb (s : State) (i : Nat) (f : Dma → Dma) (j : Nat) : (s.modDma i f).cb j = s.cb j := (rfl)
@[simp] theorem modDma_cle (s : State) (i : Nat) (f : Dma → Dma) (j : Nat) : (s.modDma i f).cle j = s.cle j := (rfl)
@[simp] theorem modDma_pool (s : State) (i : Nat) (f : Dma → Dma) (j : Nat) : (s.modDma i f).pool j = s.pool j := (rfl)
@[simp] theorem modDma_bar (s : State) (i : Nat) (f : Dma → Dma) (j : Nat) : (s.modDma i f).bar j = s.bar j := (rfl)
@[simp] theorem modDma_codec (s : State) (i : Nat) (f : Dma → Dma) (j : Nat) : (s.modDma i f).codec j = s.codec j := (rfl)
@[simp] theorem modDma_mch (s : State) (i : Nat) (f : Dma → Dma) (j : Nat) : (s.modDma i f).mch j = s.mch j := (rfl)
@[simp] theorem modDma_eng (s : State) (i : Nat) (f : Dma → Dma) (j : Nat) : (s.modDma i f).eng j = s.eng j := (rfl)
@[simp] theorem modDma_lane (s : State) (i : Nat) (f : Dma → Dma) (j : Nat) : (s.modDma i f).lane j = s.lane j := (rfl)
@[simp] theorem modDma_lnk (s : State) (i : Nat) (f : Dma → Dma) (j : Nat) : (s.modDma i f).lnk j = s.lnk j := (rfl)
@[simp] theorem modDma_sink (s : State) (i : Nat) (f : Dma → Dma) (j : Nat) : (s.modDma i f).sink j = s.sink j := (rfl)
@[simp] theorem modDma_net (s : State) (i : Nat) (f : Dma → Dma) (j : Nat) : (s.modDma i f).net j = s.net j := (rfl)
@[simp] theorem modDma_qe (s : State) (i : Nat) (f : Dma → Dma) (j : Nat) : (s.modDma i f).qe j = s.qe j := (rfl)
@[simp] theorem modDma_eo (s : State) (i : Nat) (f : Dma → Dma) (j : Nat) : (s.modDma i f).eo j = s.eo j := (rfl)
@[simp] theorem modDma_tb (s : State) (i : Nat) (f : Dma → Dma) (j : Nat) : (s.modDma i f).tb j = s.tb j := (rfl)
@[simp] theorem modDma_ax (s : State) (i : Nat) (f : Dma → Dma) (j : Nat) : (s.modDma i f).ax j = s.ax j := (rfl)
@[simp] theorem modDma_pending (s : State) (i : Nat) (f : Dma → Dma) : (s.modDma i f).pending = s.pending := (rfl)
@[simp] theorem modDma_lmem (s : State) (i : Nat) (f : Dma → Dma) : (s.modDma i f).lmem = s.lmem := (rfl)
@[simp] theorem modDma_dram (s : State) (i : Nat) (f : Dma → Dma) : (s.modDma i f).dram = s.dram := (rfl)
@[simp] theorem modDma_trace (s : State) (i : Nat) (f : Dma → Dma) : (s.modDma i f).trace = s.trace := (rfl)
@[simp] theorem modDma_evNew (s : State) (i : Nat) (f : Dma → Dma) : (s.modDma i f).evNew = s.evNew := (rfl)
@[simp] theorem modDma_evq (s : State) (i : Nat) (f : Dma → Dma) : (s.modDma i f).evq = s.evq := (rfl)
@[simp] theorem modDma_evLoss (s : State) (i : Nat) (f : Dma → Dma) : (s.modDma i f).evLoss = s.evLoss := (rfl)
@[simp] theorem modDma_supplyHeld (s : State) (i : Nat) (f : Dma → Dma) : (s.modDma i f).supplyHeld = s.supplyHeld := (rfl)
@[simp] theorem modDma_clockLost (s : State) (i : Nat) (f : Dma → Dma) : (s.modDma i f).clockLost = s.clockLost := (rfl)
@[simp] theorem modDma_fabricUp (s : State) (i : Nat) (f : Dma → Dma) : (s.modDma i f).fabricUp = s.fabricUp := (rfl)
@[simp] theorem modDma_tstArmed (s : State) (i : Nat) (f : Dma → Dma) : (s.modDma i f).tstArmed = s.tstArmed := (rfl)
@[simp] theorem modDma_fresh (s : State) (i : Nat) (f : Dma → Dma) : (s.modDma i f).fresh = s.fresh := (rfl)
@[simp] theorem modDma_outbox (s : State) (i : Nat) (f : Dma → Dma) : (s.modDma i f).outbox = s.outbox := (rfl)
@[simp] theorem modDma_late (s : State) (i : Nat) (f : Dma → Dma) : (s.modDma i f).late = s.late := (rfl)
@[simp] theorem modDma_fetched (s : State) (i : Nat) (f : Dma → Dma) : (s.modDma i f).fetched = s.fetched := (rfl)
@[simp] theorem modDma_ilkLvl (s : State) (i : Nat) (f : Dma → Dma) : (s.modDma i f).ilkLvl = s.ilkLvl := (rfl)
@[simp] theorem modDma_laneDark (s : State) (i : Nat) (f : Dma → Dma) : (s.modDma i f).laneDark = s.laneDark := (rfl)
@[simp] theorem modDma_inEdge (s : State) (i : Nat) (f : Dma → Dma) : (s.modDma i f).inEdge = s.inEdge := (rfl)
@[simp] theorem modDma_ssNow (s : State) (i : Nat) (f : Dma → Dma) : (s.modDma i f).ssNow = s.ssNow := (rfl)
@[simp] theorem modDma_seen (s : State) (i : Nat) (f : Dma → Dma) : (s.modDma i f).seen = s.seen := (rfl)
@[simp] theorem modDma_winLead (s : State) (i : Nat) (f : Dma → Dma) : (s.modDma i f).winLead = s.winLead := (rfl)
@[simp] theorem modDma_alive (s : State) (i : Nat) (f : Dma → Dma) : (s.modDma i f).alive = s.alive := (rfl)
@[simp] theorem modDma_dramWait (s : State) (i : Nat) (f : Dma → Dma) : (s.modDma i f).dramWait = s.dramWait := (rfl)
@[simp] theorem modDma_mapFrom (s : State) (i : Nat) (f : Dma → Dma) : (s.modDma i f).mapFrom = s.mapFrom := (rfl)
@[simp] theorem modDma_linkVols (s : State) (i : Nat) (f : Dma → Dma) : (s.modDma i f).linkVols = s.linkVols := (rfl)
@[simp] theorem modDma_starting (s : State) (i : Nat) (f : Dma → Dma) : (s.modDma i f).starting = s.starting := (rfl)
@[simp] theorem modCodec_codec (s : State) (i : Nat) (f : Codec → Codec) (j : Nat) : (s.modCodec i f).codec j = if i = j then f (s.codec i) else s.codec j :=
  tabGet_tabSet _ _ _ _ _
@[simp] theorem modCodec_rd (s : State) (i : Nat) (f : Codec → Codec) (off : Nat) : (s.modCodec i f).rd off = s.rd off := (rfl)
@[simp] theorem modCodec_get (s : State) (i : Nat) (f : Codec → Codec) (g : Fld) : (s.modCodec i f).get g = s.get g := (rfl)
@[simp] theorem modCodec_flag (s : State) (i : Nat) (f : Codec → Codec) (g : Fld) : (s.modCodec i f).flag g = s.flag g := (rfl)
@[simp] theorem modCodec_rd64 (s : State) (i : Nat) (f : Codec → Codec) (off : Nat) : (s.modCodec i f).rd64 off = s.rd64 off := (rfl)
@[simp] theorem modCodec_beam (s : State) (i : Nat) (f : Codec → Codec) (j : Nat) : (s.modCodec i f).beam j = s.beam j := (rfl)
@[simp] theorem modCodec_pd (s : State) (i : Nat) (f : Codec → Codec) (j : Nat) : (s.modCodec i f).pd j = s.pd j := (rfl)
@[simp] theorem modCodec_port (s : State) (i : Nat) (f : Codec → Codec) (j : Nat) : (s.modCodec i f).port j = s.port j := (rfl)
@[simp] theorem modCodec_ctx (s : State) (i : Nat) (f : Codec → Codec) (j : Nat) : (s.modCodec i f).ctx j = s.ctx j := (rfl)
@[simp] theorem modCodec_cb (s : State) (i : Nat) (f : Codec → Codec) (j : Nat) : (s.modCodec i f).cb j = s.cb j := (rfl)
@[simp] theorem modCodec_cle (s : State) (i : Nat) (f : Codec → Codec) (j : Nat) : (s.modCodec i f).cle j = s.cle j := (rfl)
@[simp] theorem modCodec_pool (s : State) (i : Nat) (f : Codec → Codec) (j : Nat) : (s.modCodec i f).pool j = s.pool j := (rfl)
@[simp] theorem modCodec_bar (s : State) (i : Nat) (f : Codec → Codec) (j : Nat) : (s.modCodec i f).bar j = s.bar j := (rfl)
@[simp] theorem modCodec_dma (s : State) (i : Nat) (f : Codec → Codec) (j : Nat) : (s.modCodec i f).dma j = s.dma j := (rfl)
@[simp] theorem modCodec_mch (s : State) (i : Nat) (f : Codec → Codec) (j : Nat) : (s.modCodec i f).mch j = s.mch j := (rfl)
@[simp] theorem modCodec_eng (s : State) (i : Nat) (f : Codec → Codec) (j : Nat) : (s.modCodec i f).eng j = s.eng j := (rfl)
@[simp] theorem modCodec_lane (s : State) (i : Nat) (f : Codec → Codec) (j : Nat) : (s.modCodec i f).lane j = s.lane j := (rfl)
@[simp] theorem modCodec_lnk (s : State) (i : Nat) (f : Codec → Codec) (j : Nat) : (s.modCodec i f).lnk j = s.lnk j := (rfl)
@[simp] theorem modCodec_sink (s : State) (i : Nat) (f : Codec → Codec) (j : Nat) : (s.modCodec i f).sink j = s.sink j := (rfl)
@[simp] theorem modCodec_net (s : State) (i : Nat) (f : Codec → Codec) (j : Nat) : (s.modCodec i f).net j = s.net j := (rfl)
@[simp] theorem modCodec_qe (s : State) (i : Nat) (f : Codec → Codec) (j : Nat) : (s.modCodec i f).qe j = s.qe j := (rfl)
@[simp] theorem modCodec_eo (s : State) (i : Nat) (f : Codec → Codec) (j : Nat) : (s.modCodec i f).eo j = s.eo j := (rfl)
@[simp] theorem modCodec_tb (s : State) (i : Nat) (f : Codec → Codec) (j : Nat) : (s.modCodec i f).tb j = s.tb j := (rfl)
@[simp] theorem modCodec_ax (s : State) (i : Nat) (f : Codec → Codec) (j : Nat) : (s.modCodec i f).ax j = s.ax j := (rfl)
@[simp] theorem modCodec_pending (s : State) (i : Nat) (f : Codec → Codec) : (s.modCodec i f).pending = s.pending := (rfl)
@[simp] theorem modCodec_lmem (s : State) (i : Nat) (f : Codec → Codec) : (s.modCodec i f).lmem = s.lmem := (rfl)
@[simp] theorem modCodec_dram (s : State) (i : Nat) (f : Codec → Codec) : (s.modCodec i f).dram = s.dram := (rfl)
@[simp] theorem modCodec_trace (s : State) (i : Nat) (f : Codec → Codec) : (s.modCodec i f).trace = s.trace := (rfl)
@[simp] theorem modCodec_evNew (s : State) (i : Nat) (f : Codec → Codec) : (s.modCodec i f).evNew = s.evNew := (rfl)
@[simp] theorem modCodec_evq (s : State) (i : Nat) (f : Codec → Codec) : (s.modCodec i f).evq = s.evq := (rfl)
@[simp] theorem modCodec_evLoss (s : State) (i : Nat) (f : Codec → Codec) : (s.modCodec i f).evLoss = s.evLoss := (rfl)
@[simp] theorem modCodec_supplyHeld (s : State) (i : Nat) (f : Codec → Codec) : (s.modCodec i f).supplyHeld = s.supplyHeld := (rfl)
@[simp] theorem modCodec_clockLost (s : State) (i : Nat) (f : Codec → Codec) : (s.modCodec i f).clockLost = s.clockLost := (rfl)
@[simp] theorem modCodec_fabricUp (s : State) (i : Nat) (f : Codec → Codec) : (s.modCodec i f).fabricUp = s.fabricUp := (rfl)
@[simp] theorem modCodec_tstArmed (s : State) (i : Nat) (f : Codec → Codec) : (s.modCodec i f).tstArmed = s.tstArmed := (rfl)
@[simp] theorem modCodec_fresh (s : State) (i : Nat) (f : Codec → Codec) : (s.modCodec i f).fresh = s.fresh := (rfl)
@[simp] theorem modCodec_outbox (s : State) (i : Nat) (f : Codec → Codec) : (s.modCodec i f).outbox = s.outbox := (rfl)
@[simp] theorem modCodec_late (s : State) (i : Nat) (f : Codec → Codec) : (s.modCodec i f).late = s.late := (rfl)
@[simp] theorem modCodec_fetched (s : State) (i : Nat) (f : Codec → Codec) : (s.modCodec i f).fetched = s.fetched := (rfl)
@[simp] theorem modCodec_ilkLvl (s : State) (i : Nat) (f : Codec → Codec) : (s.modCodec i f).ilkLvl = s.ilkLvl := (rfl)
@[simp] theorem modCodec_laneDark (s : State) (i : Nat) (f : Codec → Codec) : (s.modCodec i f).laneDark = s.laneDark := (rfl)
@[simp] theorem modCodec_inEdge (s : State) (i : Nat) (f : Codec → Codec) : (s.modCodec i f).inEdge = s.inEdge := (rfl)
@[simp] theorem modCodec_ssNow (s : State) (i : Nat) (f : Codec → Codec) : (s.modCodec i f).ssNow = s.ssNow := (rfl)
@[simp] theorem modCodec_seen (s : State) (i : Nat) (f : Codec → Codec) : (s.modCodec i f).seen = s.seen := (rfl)
@[simp] theorem modCodec_winLead (s : State) (i : Nat) (f : Codec → Codec) : (s.modCodec i f).winLead = s.winLead := (rfl)
@[simp] theorem modCodec_alive (s : State) (i : Nat) (f : Codec → Codec) : (s.modCodec i f).alive = s.alive := (rfl)
@[simp] theorem modCodec_dramWait (s : State) (i : Nat) (f : Codec → Codec) : (s.modCodec i f).dramWait = s.dramWait := (rfl)
@[simp] theorem modCodec_mapFrom (s : State) (i : Nat) (f : Codec → Codec) : (s.modCodec i f).mapFrom = s.mapFrom := (rfl)
@[simp] theorem modCodec_linkVols (s : State) (i : Nat) (f : Codec → Codec) : (s.modCodec i f).linkVols = s.linkVols := (rfl)
@[simp] theorem modCodec_starting (s : State) (i : Nat) (f : Codec → Codec) : (s.modCodec i f).starting = s.starting := (rfl)
@[simp] theorem modMch_mch (s : State) (i : Nat) (f : Mch → Mch) (j : Nat) : (s.modMch i f).mch j = if i = j then f (s.mch i) else s.mch j :=
  tabGet_tabSet _ _ _ _ _
@[simp] theorem modMch_rd (s : State) (i : Nat) (f : Mch → Mch) (off : Nat) : (s.modMch i f).rd off = s.rd off := (rfl)
@[simp] theorem modMch_get (s : State) (i : Nat) (f : Mch → Mch) (g : Fld) : (s.modMch i f).get g = s.get g := (rfl)
@[simp] theorem modMch_flag (s : State) (i : Nat) (f : Mch → Mch) (g : Fld) : (s.modMch i f).flag g = s.flag g := (rfl)
@[simp] theorem modMch_rd64 (s : State) (i : Nat) (f : Mch → Mch) (off : Nat) : (s.modMch i f).rd64 off = s.rd64 off := (rfl)
@[simp] theorem modMch_beam (s : State) (i : Nat) (f : Mch → Mch) (j : Nat) : (s.modMch i f).beam j = s.beam j := (rfl)
@[simp] theorem modMch_pd (s : State) (i : Nat) (f : Mch → Mch) (j : Nat) : (s.modMch i f).pd j = s.pd j := (rfl)
@[simp] theorem modMch_port (s : State) (i : Nat) (f : Mch → Mch) (j : Nat) : (s.modMch i f).port j = s.port j := (rfl)
@[simp] theorem modMch_ctx (s : State) (i : Nat) (f : Mch → Mch) (j : Nat) : (s.modMch i f).ctx j = s.ctx j := (rfl)
@[simp] theorem modMch_cb (s : State) (i : Nat) (f : Mch → Mch) (j : Nat) : (s.modMch i f).cb j = s.cb j := (rfl)
@[simp] theorem modMch_cle (s : State) (i : Nat) (f : Mch → Mch) (j : Nat) : (s.modMch i f).cle j = s.cle j := (rfl)
@[simp] theorem modMch_pool (s : State) (i : Nat) (f : Mch → Mch) (j : Nat) : (s.modMch i f).pool j = s.pool j := (rfl)
@[simp] theorem modMch_bar (s : State) (i : Nat) (f : Mch → Mch) (j : Nat) : (s.modMch i f).bar j = s.bar j := (rfl)
@[simp] theorem modMch_dma (s : State) (i : Nat) (f : Mch → Mch) (j : Nat) : (s.modMch i f).dma j = s.dma j := (rfl)
@[simp] theorem modMch_codec (s : State) (i : Nat) (f : Mch → Mch) (j : Nat) : (s.modMch i f).codec j = s.codec j := (rfl)
@[simp] theorem modMch_eng (s : State) (i : Nat) (f : Mch → Mch) (j : Nat) : (s.modMch i f).eng j = s.eng j := (rfl)
@[simp] theorem modMch_lane (s : State) (i : Nat) (f : Mch → Mch) (j : Nat) : (s.modMch i f).lane j = s.lane j := (rfl)
@[simp] theorem modMch_lnk (s : State) (i : Nat) (f : Mch → Mch) (j : Nat) : (s.modMch i f).lnk j = s.lnk j := (rfl)
@[simp] theorem modMch_sink (s : State) (i : Nat) (f : Mch → Mch) (j : Nat) : (s.modMch i f).sink j = s.sink j := (rfl)
@[simp] theorem modMch_net (s : State) (i : Nat) (f : Mch → Mch) (j : Nat) : (s.modMch i f).net j = s.net j := (rfl)
@[simp] theorem modMch_qe (s : State) (i : Nat) (f : Mch → Mch) (j : Nat) : (s.modMch i f).qe j = s.qe j := (rfl)
@[simp] theorem modMch_eo (s : State) (i : Nat) (f : Mch → Mch) (j : Nat) : (s.modMch i f).eo j = s.eo j := (rfl)
@[simp] theorem modMch_tb (s : State) (i : Nat) (f : Mch → Mch) (j : Nat) : (s.modMch i f).tb j = s.tb j := (rfl)
@[simp] theorem modMch_ax (s : State) (i : Nat) (f : Mch → Mch) (j : Nat) : (s.modMch i f).ax j = s.ax j := (rfl)
@[simp] theorem modMch_pending (s : State) (i : Nat) (f : Mch → Mch) : (s.modMch i f).pending = s.pending := (rfl)
@[simp] theorem modMch_lmem (s : State) (i : Nat) (f : Mch → Mch) : (s.modMch i f).lmem = s.lmem := (rfl)
@[simp] theorem modMch_dram (s : State) (i : Nat) (f : Mch → Mch) : (s.modMch i f).dram = s.dram := (rfl)
@[simp] theorem modMch_trace (s : State) (i : Nat) (f : Mch → Mch) : (s.modMch i f).trace = s.trace := (rfl)
@[simp] theorem modMch_evNew (s : State) (i : Nat) (f : Mch → Mch) : (s.modMch i f).evNew = s.evNew := (rfl)
@[simp] theorem modMch_evq (s : State) (i : Nat) (f : Mch → Mch) : (s.modMch i f).evq = s.evq := (rfl)
@[simp] theorem modMch_evLoss (s : State) (i : Nat) (f : Mch → Mch) : (s.modMch i f).evLoss = s.evLoss := (rfl)
@[simp] theorem modMch_supplyHeld (s : State) (i : Nat) (f : Mch → Mch) : (s.modMch i f).supplyHeld = s.supplyHeld := (rfl)
@[simp] theorem modMch_clockLost (s : State) (i : Nat) (f : Mch → Mch) : (s.modMch i f).clockLost = s.clockLost := (rfl)
@[simp] theorem modMch_fabricUp (s : State) (i : Nat) (f : Mch → Mch) : (s.modMch i f).fabricUp = s.fabricUp := (rfl)
@[simp] theorem modMch_tstArmed (s : State) (i : Nat) (f : Mch → Mch) : (s.modMch i f).tstArmed = s.tstArmed := (rfl)
@[simp] theorem modMch_fresh (s : State) (i : Nat) (f : Mch → Mch) : (s.modMch i f).fresh = s.fresh := (rfl)
@[simp] theorem modMch_outbox (s : State) (i : Nat) (f : Mch → Mch) : (s.modMch i f).outbox = s.outbox := (rfl)
@[simp] theorem modMch_late (s : State) (i : Nat) (f : Mch → Mch) : (s.modMch i f).late = s.late := (rfl)
@[simp] theorem modMch_fetched (s : State) (i : Nat) (f : Mch → Mch) : (s.modMch i f).fetched = s.fetched := (rfl)
@[simp] theorem modMch_ilkLvl (s : State) (i : Nat) (f : Mch → Mch) : (s.modMch i f).ilkLvl = s.ilkLvl := (rfl)
@[simp] theorem modMch_laneDark (s : State) (i : Nat) (f : Mch → Mch) : (s.modMch i f).laneDark = s.laneDark := (rfl)
@[simp] theorem modMch_inEdge (s : State) (i : Nat) (f : Mch → Mch) : (s.modMch i f).inEdge = s.inEdge := (rfl)
@[simp] theorem modMch_ssNow (s : State) (i : Nat) (f : Mch → Mch) : (s.modMch i f).ssNow = s.ssNow := (rfl)
@[simp] theorem modMch_seen (s : State) (i : Nat) (f : Mch → Mch) : (s.modMch i f).seen = s.seen := (rfl)
@[simp] theorem modMch_winLead (s : State) (i : Nat) (f : Mch → Mch) : (s.modMch i f).winLead = s.winLead := (rfl)
@[simp] theorem modMch_alive (s : State) (i : Nat) (f : Mch → Mch) : (s.modMch i f).alive = s.alive := (rfl)
@[simp] theorem modMch_dramWait (s : State) (i : Nat) (f : Mch → Mch) : (s.modMch i f).dramWait = s.dramWait := (rfl)
@[simp] theorem modMch_mapFrom (s : State) (i : Nat) (f : Mch → Mch) : (s.modMch i f).mapFrom = s.mapFrom := (rfl)
@[simp] theorem modMch_linkVols (s : State) (i : Nat) (f : Mch → Mch) : (s.modMch i f).linkVols = s.linkVols := (rfl)
@[simp] theorem modMch_starting (s : State) (i : Nat) (f : Mch → Mch) : (s.modMch i f).starting = s.starting := (rfl)
@[simp] theorem modEng_eng (s : State) (i : Nat) (f : Eng → Eng) (j : Nat) : (s.modEng i f).eng j = if i = j then f (s.eng i) else s.eng j :=
  tabGet_tabSet _ _ _ _ _
@[simp] theorem modEng_rd (s : State) (i : Nat) (f : Eng → Eng) (off : Nat) : (s.modEng i f).rd off = s.rd off := (rfl)
@[simp] theorem modEng_get (s : State) (i : Nat) (f : Eng → Eng) (g : Fld) : (s.modEng i f).get g = s.get g := (rfl)
@[simp] theorem modEng_flag (s : State) (i : Nat) (f : Eng → Eng) (g : Fld) : (s.modEng i f).flag g = s.flag g := (rfl)
@[simp] theorem modEng_rd64 (s : State) (i : Nat) (f : Eng → Eng) (off : Nat) : (s.modEng i f).rd64 off = s.rd64 off := (rfl)
@[simp] theorem modEng_beam (s : State) (i : Nat) (f : Eng → Eng) (j : Nat) : (s.modEng i f).beam j = s.beam j := (rfl)
@[simp] theorem modEng_pd (s : State) (i : Nat) (f : Eng → Eng) (j : Nat) : (s.modEng i f).pd j = s.pd j := (rfl)
@[simp] theorem modEng_port (s : State) (i : Nat) (f : Eng → Eng) (j : Nat) : (s.modEng i f).port j = s.port j := (rfl)
@[simp] theorem modEng_ctx (s : State) (i : Nat) (f : Eng → Eng) (j : Nat) : (s.modEng i f).ctx j = s.ctx j := (rfl)
@[simp] theorem modEng_cb (s : State) (i : Nat) (f : Eng → Eng) (j : Nat) : (s.modEng i f).cb j = s.cb j := (rfl)
@[simp] theorem modEng_cle (s : State) (i : Nat) (f : Eng → Eng) (j : Nat) : (s.modEng i f).cle j = s.cle j := (rfl)
@[simp] theorem modEng_pool (s : State) (i : Nat) (f : Eng → Eng) (j : Nat) : (s.modEng i f).pool j = s.pool j := (rfl)
@[simp] theorem modEng_bar (s : State) (i : Nat) (f : Eng → Eng) (j : Nat) : (s.modEng i f).bar j = s.bar j := (rfl)
@[simp] theorem modEng_dma (s : State) (i : Nat) (f : Eng → Eng) (j : Nat) : (s.modEng i f).dma j = s.dma j := (rfl)
@[simp] theorem modEng_codec (s : State) (i : Nat) (f : Eng → Eng) (j : Nat) : (s.modEng i f).codec j = s.codec j := (rfl)
@[simp] theorem modEng_mch (s : State) (i : Nat) (f : Eng → Eng) (j : Nat) : (s.modEng i f).mch j = s.mch j := (rfl)
@[simp] theorem modEng_lane (s : State) (i : Nat) (f : Eng → Eng) (j : Nat) : (s.modEng i f).lane j = s.lane j := (rfl)
@[simp] theorem modEng_lnk (s : State) (i : Nat) (f : Eng → Eng) (j : Nat) : (s.modEng i f).lnk j = s.lnk j := (rfl)
@[simp] theorem modEng_sink (s : State) (i : Nat) (f : Eng → Eng) (j : Nat) : (s.modEng i f).sink j = s.sink j := (rfl)
@[simp] theorem modEng_net (s : State) (i : Nat) (f : Eng → Eng) (j : Nat) : (s.modEng i f).net j = s.net j := (rfl)
@[simp] theorem modEng_qe (s : State) (i : Nat) (f : Eng → Eng) (j : Nat) : (s.modEng i f).qe j = s.qe j := (rfl)
@[simp] theorem modEng_eo (s : State) (i : Nat) (f : Eng → Eng) (j : Nat) : (s.modEng i f).eo j = s.eo j := (rfl)
@[simp] theorem modEng_tb (s : State) (i : Nat) (f : Eng → Eng) (j : Nat) : (s.modEng i f).tb j = s.tb j := (rfl)
@[simp] theorem modEng_ax (s : State) (i : Nat) (f : Eng → Eng) (j : Nat) : (s.modEng i f).ax j = s.ax j := (rfl)
@[simp] theorem modEng_pending (s : State) (i : Nat) (f : Eng → Eng) : (s.modEng i f).pending = s.pending := (rfl)
@[simp] theorem modEng_lmem (s : State) (i : Nat) (f : Eng → Eng) : (s.modEng i f).lmem = s.lmem := (rfl)
@[simp] theorem modEng_dram (s : State) (i : Nat) (f : Eng → Eng) : (s.modEng i f).dram = s.dram := (rfl)
@[simp] theorem modEng_trace (s : State) (i : Nat) (f : Eng → Eng) : (s.modEng i f).trace = s.trace := (rfl)
@[simp] theorem modEng_evNew (s : State) (i : Nat) (f : Eng → Eng) : (s.modEng i f).evNew = s.evNew := (rfl)
@[simp] theorem modEng_evq (s : State) (i : Nat) (f : Eng → Eng) : (s.modEng i f).evq = s.evq := (rfl)
@[simp] theorem modEng_evLoss (s : State) (i : Nat) (f : Eng → Eng) : (s.modEng i f).evLoss = s.evLoss := (rfl)
@[simp] theorem modEng_supplyHeld (s : State) (i : Nat) (f : Eng → Eng) : (s.modEng i f).supplyHeld = s.supplyHeld := (rfl)
@[simp] theorem modEng_clockLost (s : State) (i : Nat) (f : Eng → Eng) : (s.modEng i f).clockLost = s.clockLost := (rfl)
@[simp] theorem modEng_fabricUp (s : State) (i : Nat) (f : Eng → Eng) : (s.modEng i f).fabricUp = s.fabricUp := (rfl)
@[simp] theorem modEng_tstArmed (s : State) (i : Nat) (f : Eng → Eng) : (s.modEng i f).tstArmed = s.tstArmed := (rfl)
@[simp] theorem modEng_fresh (s : State) (i : Nat) (f : Eng → Eng) : (s.modEng i f).fresh = s.fresh := (rfl)
@[simp] theorem modEng_outbox (s : State) (i : Nat) (f : Eng → Eng) : (s.modEng i f).outbox = s.outbox := (rfl)
@[simp] theorem modEng_late (s : State) (i : Nat) (f : Eng → Eng) : (s.modEng i f).late = s.late := (rfl)
@[simp] theorem modEng_fetched (s : State) (i : Nat) (f : Eng → Eng) : (s.modEng i f).fetched = s.fetched := (rfl)
@[simp] theorem modEng_ilkLvl (s : State) (i : Nat) (f : Eng → Eng) : (s.modEng i f).ilkLvl = s.ilkLvl := (rfl)
@[simp] theorem modEng_laneDark (s : State) (i : Nat) (f : Eng → Eng) : (s.modEng i f).laneDark = s.laneDark := (rfl)
@[simp] theorem modEng_inEdge (s : State) (i : Nat) (f : Eng → Eng) : (s.modEng i f).inEdge = s.inEdge := (rfl)
@[simp] theorem modEng_ssNow (s : State) (i : Nat) (f : Eng → Eng) : (s.modEng i f).ssNow = s.ssNow := (rfl)
@[simp] theorem modEng_seen (s : State) (i : Nat) (f : Eng → Eng) : (s.modEng i f).seen = s.seen := (rfl)
@[simp] theorem modEng_winLead (s : State) (i : Nat) (f : Eng → Eng) : (s.modEng i f).winLead = s.winLead := (rfl)
@[simp] theorem modEng_alive (s : State) (i : Nat) (f : Eng → Eng) : (s.modEng i f).alive = s.alive := (rfl)
@[simp] theorem modEng_dramWait (s : State) (i : Nat) (f : Eng → Eng) : (s.modEng i f).dramWait = s.dramWait := (rfl)
@[simp] theorem modEng_mapFrom (s : State) (i : Nat) (f : Eng → Eng) : (s.modEng i f).mapFrom = s.mapFrom := (rfl)
@[simp] theorem modEng_linkVols (s : State) (i : Nat) (f : Eng → Eng) : (s.modEng i f).linkVols = s.linkVols := (rfl)
@[simp] theorem modEng_starting (s : State) (i : Nat) (f : Eng → Eng) : (s.modEng i f).starting = s.starting := (rfl)
@[simp] theorem modLane_lane (s : State) (i : Nat) (f : Lane → Lane) (j : Nat) : (s.modLane i f).lane j = if i = j then f (s.lane i) else s.lane j :=
  tabGet_tabSet _ _ _ _ _
@[simp] theorem modLane_rd (s : State) (i : Nat) (f : Lane → Lane) (off : Nat) : (s.modLane i f).rd off = s.rd off := (rfl)
@[simp] theorem modLane_get (s : State) (i : Nat) (f : Lane → Lane) (g : Fld) : (s.modLane i f).get g = s.get g := (rfl)
@[simp] theorem modLane_flag (s : State) (i : Nat) (f : Lane → Lane) (g : Fld) : (s.modLane i f).flag g = s.flag g := (rfl)
@[simp] theorem modLane_rd64 (s : State) (i : Nat) (f : Lane → Lane) (off : Nat) : (s.modLane i f).rd64 off = s.rd64 off := (rfl)
@[simp] theorem modLane_beam (s : State) (i : Nat) (f : Lane → Lane) (j : Nat) : (s.modLane i f).beam j = s.beam j := (rfl)
@[simp] theorem modLane_pd (s : State) (i : Nat) (f : Lane → Lane) (j : Nat) : (s.modLane i f).pd j = s.pd j := (rfl)
@[simp] theorem modLane_port (s : State) (i : Nat) (f : Lane → Lane) (j : Nat) : (s.modLane i f).port j = s.port j := (rfl)
@[simp] theorem modLane_ctx (s : State) (i : Nat) (f : Lane → Lane) (j : Nat) : (s.modLane i f).ctx j = s.ctx j := (rfl)
@[simp] theorem modLane_cb (s : State) (i : Nat) (f : Lane → Lane) (j : Nat) : (s.modLane i f).cb j = s.cb j := (rfl)
@[simp] theorem modLane_cle (s : State) (i : Nat) (f : Lane → Lane) (j : Nat) : (s.modLane i f).cle j = s.cle j := (rfl)
@[simp] theorem modLane_pool (s : State) (i : Nat) (f : Lane → Lane) (j : Nat) : (s.modLane i f).pool j = s.pool j := (rfl)
@[simp] theorem modLane_bar (s : State) (i : Nat) (f : Lane → Lane) (j : Nat) : (s.modLane i f).bar j = s.bar j := (rfl)
@[simp] theorem modLane_dma (s : State) (i : Nat) (f : Lane → Lane) (j : Nat) : (s.modLane i f).dma j = s.dma j := (rfl)
@[simp] theorem modLane_codec (s : State) (i : Nat) (f : Lane → Lane) (j : Nat) : (s.modLane i f).codec j = s.codec j := (rfl)
@[simp] theorem modLane_mch (s : State) (i : Nat) (f : Lane → Lane) (j : Nat) : (s.modLane i f).mch j = s.mch j := (rfl)
@[simp] theorem modLane_eng (s : State) (i : Nat) (f : Lane → Lane) (j : Nat) : (s.modLane i f).eng j = s.eng j := (rfl)
@[simp] theorem modLane_lnk (s : State) (i : Nat) (f : Lane → Lane) (j : Nat) : (s.modLane i f).lnk j = s.lnk j := (rfl)
@[simp] theorem modLane_sink (s : State) (i : Nat) (f : Lane → Lane) (j : Nat) : (s.modLane i f).sink j = s.sink j := (rfl)
@[simp] theorem modLane_net (s : State) (i : Nat) (f : Lane → Lane) (j : Nat) : (s.modLane i f).net j = s.net j := (rfl)
@[simp] theorem modLane_qe (s : State) (i : Nat) (f : Lane → Lane) (j : Nat) : (s.modLane i f).qe j = s.qe j := (rfl)
@[simp] theorem modLane_eo (s : State) (i : Nat) (f : Lane → Lane) (j : Nat) : (s.modLane i f).eo j = s.eo j := (rfl)
@[simp] theorem modLane_tb (s : State) (i : Nat) (f : Lane → Lane) (j : Nat) : (s.modLane i f).tb j = s.tb j := (rfl)
@[simp] theorem modLane_ax (s : State) (i : Nat) (f : Lane → Lane) (j : Nat) : (s.modLane i f).ax j = s.ax j := (rfl)
@[simp] theorem modLane_pending (s : State) (i : Nat) (f : Lane → Lane) : (s.modLane i f).pending = s.pending := (rfl)
@[simp] theorem modLane_lmem (s : State) (i : Nat) (f : Lane → Lane) : (s.modLane i f).lmem = s.lmem := (rfl)
@[simp] theorem modLane_dram (s : State) (i : Nat) (f : Lane → Lane) : (s.modLane i f).dram = s.dram := (rfl)
@[simp] theorem modLane_trace (s : State) (i : Nat) (f : Lane → Lane) : (s.modLane i f).trace = s.trace := (rfl)
@[simp] theorem modLane_evNew (s : State) (i : Nat) (f : Lane → Lane) : (s.modLane i f).evNew = s.evNew := (rfl)
@[simp] theorem modLane_evq (s : State) (i : Nat) (f : Lane → Lane) : (s.modLane i f).evq = s.evq := (rfl)
@[simp] theorem modLane_evLoss (s : State) (i : Nat) (f : Lane → Lane) : (s.modLane i f).evLoss = s.evLoss := (rfl)
@[simp] theorem modLane_supplyHeld (s : State) (i : Nat) (f : Lane → Lane) : (s.modLane i f).supplyHeld = s.supplyHeld := (rfl)
@[simp] theorem modLane_clockLost (s : State) (i : Nat) (f : Lane → Lane) : (s.modLane i f).clockLost = s.clockLost := (rfl)
@[simp] theorem modLane_fabricUp (s : State) (i : Nat) (f : Lane → Lane) : (s.modLane i f).fabricUp = s.fabricUp := (rfl)
@[simp] theorem modLane_tstArmed (s : State) (i : Nat) (f : Lane → Lane) : (s.modLane i f).tstArmed = s.tstArmed := (rfl)
@[simp] theorem modLane_fresh (s : State) (i : Nat) (f : Lane → Lane) : (s.modLane i f).fresh = s.fresh := (rfl)
@[simp] theorem modLane_outbox (s : State) (i : Nat) (f : Lane → Lane) : (s.modLane i f).outbox = s.outbox := (rfl)
@[simp] theorem modLane_late (s : State) (i : Nat) (f : Lane → Lane) : (s.modLane i f).late = s.late := (rfl)
@[simp] theorem modLane_fetched (s : State) (i : Nat) (f : Lane → Lane) : (s.modLane i f).fetched = s.fetched := (rfl)
@[simp] theorem modLane_ilkLvl (s : State) (i : Nat) (f : Lane → Lane) : (s.modLane i f).ilkLvl = s.ilkLvl := (rfl)
@[simp] theorem modLane_laneDark (s : State) (i : Nat) (f : Lane → Lane) : (s.modLane i f).laneDark = s.laneDark := (rfl)
@[simp] theorem modLane_inEdge (s : State) (i : Nat) (f : Lane → Lane) : (s.modLane i f).inEdge = s.inEdge := (rfl)
@[simp] theorem modLane_ssNow (s : State) (i : Nat) (f : Lane → Lane) : (s.modLane i f).ssNow = s.ssNow := (rfl)
@[simp] theorem modLane_seen (s : State) (i : Nat) (f : Lane → Lane) : (s.modLane i f).seen = s.seen := (rfl)
@[simp] theorem modLane_winLead (s : State) (i : Nat) (f : Lane → Lane) : (s.modLane i f).winLead = s.winLead := (rfl)
@[simp] theorem modLane_alive (s : State) (i : Nat) (f : Lane → Lane) : (s.modLane i f).alive = s.alive := (rfl)
@[simp] theorem modLane_dramWait (s : State) (i : Nat) (f : Lane → Lane) : (s.modLane i f).dramWait = s.dramWait := (rfl)
@[simp] theorem modLane_mapFrom (s : State) (i : Nat) (f : Lane → Lane) : (s.modLane i f).mapFrom = s.mapFrom := (rfl)
@[simp] theorem modLane_linkVols (s : State) (i : Nat) (f : Lane → Lane) : (s.modLane i f).linkVols = s.linkVols := (rfl)
@[simp] theorem modLane_starting (s : State) (i : Nat) (f : Lane → Lane) : (s.modLane i f).starting = s.starting := (rfl)
@[simp] theorem modLnk_lnk (s : State) (i : Nat) (f : Lnk → Lnk) (j : Nat) : (s.modLnk i f).lnk j = if i = j then f (s.lnk i) else s.lnk j :=
  tabGet_tabSet _ _ _ _ _
@[simp] theorem modLnk_rd (s : State) (i : Nat) (f : Lnk → Lnk) (off : Nat) : (s.modLnk i f).rd off = s.rd off := (rfl)
@[simp] theorem modLnk_get (s : State) (i : Nat) (f : Lnk → Lnk) (g : Fld) : (s.modLnk i f).get g = s.get g := (rfl)
@[simp] theorem modLnk_flag (s : State) (i : Nat) (f : Lnk → Lnk) (g : Fld) : (s.modLnk i f).flag g = s.flag g := (rfl)
@[simp] theorem modLnk_rd64 (s : State) (i : Nat) (f : Lnk → Lnk) (off : Nat) : (s.modLnk i f).rd64 off = s.rd64 off := (rfl)
@[simp] theorem modLnk_beam (s : State) (i : Nat) (f : Lnk → Lnk) (j : Nat) : (s.modLnk i f).beam j = s.beam j := (rfl)
@[simp] theorem modLnk_pd (s : State) (i : Nat) (f : Lnk → Lnk) (j : Nat) : (s.modLnk i f).pd j = s.pd j := (rfl)
@[simp] theorem modLnk_port (s : State) (i : Nat) (f : Lnk → Lnk) (j : Nat) : (s.modLnk i f).port j = s.port j := (rfl)
@[simp] theorem modLnk_ctx (s : State) (i : Nat) (f : Lnk → Lnk) (j : Nat) : (s.modLnk i f).ctx j = s.ctx j := (rfl)
@[simp] theorem modLnk_cb (s : State) (i : Nat) (f : Lnk → Lnk) (j : Nat) : (s.modLnk i f).cb j = s.cb j := (rfl)
@[simp] theorem modLnk_cle (s : State) (i : Nat) (f : Lnk → Lnk) (j : Nat) : (s.modLnk i f).cle j = s.cle j := (rfl)
@[simp] theorem modLnk_pool (s : State) (i : Nat) (f : Lnk → Lnk) (j : Nat) : (s.modLnk i f).pool j = s.pool j := (rfl)
@[simp] theorem modLnk_bar (s : State) (i : Nat) (f : Lnk → Lnk) (j : Nat) : (s.modLnk i f).bar j = s.bar j := (rfl)
@[simp] theorem modLnk_dma (s : State) (i : Nat) (f : Lnk → Lnk) (j : Nat) : (s.modLnk i f).dma j = s.dma j := (rfl)
@[simp] theorem modLnk_codec (s : State) (i : Nat) (f : Lnk → Lnk) (j : Nat) : (s.modLnk i f).codec j = s.codec j := (rfl)
@[simp] theorem modLnk_mch (s : State) (i : Nat) (f : Lnk → Lnk) (j : Nat) : (s.modLnk i f).mch j = s.mch j := (rfl)
@[simp] theorem modLnk_eng (s : State) (i : Nat) (f : Lnk → Lnk) (j : Nat) : (s.modLnk i f).eng j = s.eng j := (rfl)
@[simp] theorem modLnk_lane (s : State) (i : Nat) (f : Lnk → Lnk) (j : Nat) : (s.modLnk i f).lane j = s.lane j := (rfl)
@[simp] theorem modLnk_sink (s : State) (i : Nat) (f : Lnk → Lnk) (j : Nat) : (s.modLnk i f).sink j = s.sink j := (rfl)
@[simp] theorem modLnk_net (s : State) (i : Nat) (f : Lnk → Lnk) (j : Nat) : (s.modLnk i f).net j = s.net j := (rfl)
@[simp] theorem modLnk_qe (s : State) (i : Nat) (f : Lnk → Lnk) (j : Nat) : (s.modLnk i f).qe j = s.qe j := (rfl)
@[simp] theorem modLnk_eo (s : State) (i : Nat) (f : Lnk → Lnk) (j : Nat) : (s.modLnk i f).eo j = s.eo j := (rfl)
@[simp] theorem modLnk_tb (s : State) (i : Nat) (f : Lnk → Lnk) (j : Nat) : (s.modLnk i f).tb j = s.tb j := (rfl)
@[simp] theorem modLnk_ax (s : State) (i : Nat) (f : Lnk → Lnk) (j : Nat) : (s.modLnk i f).ax j = s.ax j := (rfl)
@[simp] theorem modLnk_pending (s : State) (i : Nat) (f : Lnk → Lnk) : (s.modLnk i f).pending = s.pending := (rfl)
@[simp] theorem modLnk_lmem (s : State) (i : Nat) (f : Lnk → Lnk) : (s.modLnk i f).lmem = s.lmem := (rfl)
@[simp] theorem modLnk_dram (s : State) (i : Nat) (f : Lnk → Lnk) : (s.modLnk i f).dram = s.dram := (rfl)
@[simp] theorem modLnk_trace (s : State) (i : Nat) (f : Lnk → Lnk) : (s.modLnk i f).trace = s.trace := (rfl)
@[simp] theorem modLnk_evNew (s : State) (i : Nat) (f : Lnk → Lnk) : (s.modLnk i f).evNew = s.evNew := (rfl)
@[simp] theorem modLnk_evq (s : State) (i : Nat) (f : Lnk → Lnk) : (s.modLnk i f).evq = s.evq := (rfl)
@[simp] theorem modLnk_evLoss (s : State) (i : Nat) (f : Lnk → Lnk) : (s.modLnk i f).evLoss = s.evLoss := (rfl)
@[simp] theorem modLnk_supplyHeld (s : State) (i : Nat) (f : Lnk → Lnk) : (s.modLnk i f).supplyHeld = s.supplyHeld := (rfl)
@[simp] theorem modLnk_clockLost (s : State) (i : Nat) (f : Lnk → Lnk) : (s.modLnk i f).clockLost = s.clockLost := (rfl)
@[simp] theorem modLnk_fabricUp (s : State) (i : Nat) (f : Lnk → Lnk) : (s.modLnk i f).fabricUp = s.fabricUp := (rfl)
@[simp] theorem modLnk_tstArmed (s : State) (i : Nat) (f : Lnk → Lnk) : (s.modLnk i f).tstArmed = s.tstArmed := (rfl)
@[simp] theorem modLnk_fresh (s : State) (i : Nat) (f : Lnk → Lnk) : (s.modLnk i f).fresh = s.fresh := (rfl)
@[simp] theorem modLnk_outbox (s : State) (i : Nat) (f : Lnk → Lnk) : (s.modLnk i f).outbox = s.outbox := (rfl)
@[simp] theorem modLnk_late (s : State) (i : Nat) (f : Lnk → Lnk) : (s.modLnk i f).late = s.late := (rfl)
@[simp] theorem modLnk_fetched (s : State) (i : Nat) (f : Lnk → Lnk) : (s.modLnk i f).fetched = s.fetched := (rfl)
@[simp] theorem modLnk_ilkLvl (s : State) (i : Nat) (f : Lnk → Lnk) : (s.modLnk i f).ilkLvl = s.ilkLvl := (rfl)
@[simp] theorem modLnk_laneDark (s : State) (i : Nat) (f : Lnk → Lnk) : (s.modLnk i f).laneDark = s.laneDark := (rfl)
@[simp] theorem modLnk_inEdge (s : State) (i : Nat) (f : Lnk → Lnk) : (s.modLnk i f).inEdge = s.inEdge := (rfl)
@[simp] theorem modLnk_ssNow (s : State) (i : Nat) (f : Lnk → Lnk) : (s.modLnk i f).ssNow = s.ssNow := (rfl)
@[simp] theorem modLnk_seen (s : State) (i : Nat) (f : Lnk → Lnk) : (s.modLnk i f).seen = s.seen := (rfl)
@[simp] theorem modLnk_winLead (s : State) (i : Nat) (f : Lnk → Lnk) : (s.modLnk i f).winLead = s.winLead := (rfl)
@[simp] theorem modLnk_alive (s : State) (i : Nat) (f : Lnk → Lnk) : (s.modLnk i f).alive = s.alive := (rfl)
@[simp] theorem modLnk_dramWait (s : State) (i : Nat) (f : Lnk → Lnk) : (s.modLnk i f).dramWait = s.dramWait := (rfl)
@[simp] theorem modLnk_mapFrom (s : State) (i : Nat) (f : Lnk → Lnk) : (s.modLnk i f).mapFrom = s.mapFrom := (rfl)
@[simp] theorem modLnk_linkVols (s : State) (i : Nat) (f : Lnk → Lnk) : (s.modLnk i f).linkVols = s.linkVols := (rfl)
@[simp] theorem modLnk_starting (s : State) (i : Nat) (f : Lnk → Lnk) : (s.modLnk i f).starting = s.starting := (rfl)
@[simp] theorem modSink_sink (s : State) (i : Nat) (f : Sink → Sink) (j : Nat) : (s.modSink i f).sink j = if i = j then f (s.sink i) else s.sink j :=
  tabGet_tabSet _ _ _ _ _
@[simp] theorem modSink_rd (s : State) (i : Nat) (f : Sink → Sink) (off : Nat) : (s.modSink i f).rd off = s.rd off := (rfl)
@[simp] theorem modSink_get (s : State) (i : Nat) (f : Sink → Sink) (g : Fld) : (s.modSink i f).get g = s.get g := (rfl)
@[simp] theorem modSink_flag (s : State) (i : Nat) (f : Sink → Sink) (g : Fld) : (s.modSink i f).flag g = s.flag g := (rfl)
@[simp] theorem modSink_rd64 (s : State) (i : Nat) (f : Sink → Sink) (off : Nat) : (s.modSink i f).rd64 off = s.rd64 off := (rfl)
@[simp] theorem modSink_beam (s : State) (i : Nat) (f : Sink → Sink) (j : Nat) : (s.modSink i f).beam j = s.beam j := (rfl)
@[simp] theorem modSink_pd (s : State) (i : Nat) (f : Sink → Sink) (j : Nat) : (s.modSink i f).pd j = s.pd j := (rfl)
@[simp] theorem modSink_port (s : State) (i : Nat) (f : Sink → Sink) (j : Nat) : (s.modSink i f).port j = s.port j := (rfl)
@[simp] theorem modSink_ctx (s : State) (i : Nat) (f : Sink → Sink) (j : Nat) : (s.modSink i f).ctx j = s.ctx j := (rfl)
@[simp] theorem modSink_cb (s : State) (i : Nat) (f : Sink → Sink) (j : Nat) : (s.modSink i f).cb j = s.cb j := (rfl)
@[simp] theorem modSink_cle (s : State) (i : Nat) (f : Sink → Sink) (j : Nat) : (s.modSink i f).cle j = s.cle j := (rfl)
@[simp] theorem modSink_pool (s : State) (i : Nat) (f : Sink → Sink) (j : Nat) : (s.modSink i f).pool j = s.pool j := (rfl)
@[simp] theorem modSink_bar (s : State) (i : Nat) (f : Sink → Sink) (j : Nat) : (s.modSink i f).bar j = s.bar j := (rfl)
@[simp] theorem modSink_dma (s : State) (i : Nat) (f : Sink → Sink) (j : Nat) : (s.modSink i f).dma j = s.dma j := (rfl)
@[simp] theorem modSink_codec (s : State) (i : Nat) (f : Sink → Sink) (j : Nat) : (s.modSink i f).codec j = s.codec j := (rfl)
@[simp] theorem modSink_mch (s : State) (i : Nat) (f : Sink → Sink) (j : Nat) : (s.modSink i f).mch j = s.mch j := (rfl)
@[simp] theorem modSink_eng (s : State) (i : Nat) (f : Sink → Sink) (j : Nat) : (s.modSink i f).eng j = s.eng j := (rfl)
@[simp] theorem modSink_lane (s : State) (i : Nat) (f : Sink → Sink) (j : Nat) : (s.modSink i f).lane j = s.lane j := (rfl)
@[simp] theorem modSink_lnk (s : State) (i : Nat) (f : Sink → Sink) (j : Nat) : (s.modSink i f).lnk j = s.lnk j := (rfl)
@[simp] theorem modSink_net (s : State) (i : Nat) (f : Sink → Sink) (j : Nat) : (s.modSink i f).net j = s.net j := (rfl)
@[simp] theorem modSink_qe (s : State) (i : Nat) (f : Sink → Sink) (j : Nat) : (s.modSink i f).qe j = s.qe j := (rfl)
@[simp] theorem modSink_eo (s : State) (i : Nat) (f : Sink → Sink) (j : Nat) : (s.modSink i f).eo j = s.eo j := (rfl)
@[simp] theorem modSink_tb (s : State) (i : Nat) (f : Sink → Sink) (j : Nat) : (s.modSink i f).tb j = s.tb j := (rfl)
@[simp] theorem modSink_ax (s : State) (i : Nat) (f : Sink → Sink) (j : Nat) : (s.modSink i f).ax j = s.ax j := (rfl)
@[simp] theorem modSink_pending (s : State) (i : Nat) (f : Sink → Sink) : (s.modSink i f).pending = s.pending := (rfl)
@[simp] theorem modSink_lmem (s : State) (i : Nat) (f : Sink → Sink) : (s.modSink i f).lmem = s.lmem := (rfl)
@[simp] theorem modSink_dram (s : State) (i : Nat) (f : Sink → Sink) : (s.modSink i f).dram = s.dram := (rfl)
@[simp] theorem modSink_trace (s : State) (i : Nat) (f : Sink → Sink) : (s.modSink i f).trace = s.trace := (rfl)
@[simp] theorem modSink_evNew (s : State) (i : Nat) (f : Sink → Sink) : (s.modSink i f).evNew = s.evNew := (rfl)
@[simp] theorem modSink_evq (s : State) (i : Nat) (f : Sink → Sink) : (s.modSink i f).evq = s.evq := (rfl)
@[simp] theorem modSink_evLoss (s : State) (i : Nat) (f : Sink → Sink) : (s.modSink i f).evLoss = s.evLoss := (rfl)
@[simp] theorem modSink_supplyHeld (s : State) (i : Nat) (f : Sink → Sink) : (s.modSink i f).supplyHeld = s.supplyHeld := (rfl)
@[simp] theorem modSink_clockLost (s : State) (i : Nat) (f : Sink → Sink) : (s.modSink i f).clockLost = s.clockLost := (rfl)
@[simp] theorem modSink_fabricUp (s : State) (i : Nat) (f : Sink → Sink) : (s.modSink i f).fabricUp = s.fabricUp := (rfl)
@[simp] theorem modSink_tstArmed (s : State) (i : Nat) (f : Sink → Sink) : (s.modSink i f).tstArmed = s.tstArmed := (rfl)
@[simp] theorem modSink_fresh (s : State) (i : Nat) (f : Sink → Sink) : (s.modSink i f).fresh = s.fresh := (rfl)
@[simp] theorem modSink_outbox (s : State) (i : Nat) (f : Sink → Sink) : (s.modSink i f).outbox = s.outbox := (rfl)
@[simp] theorem modSink_late (s : State) (i : Nat) (f : Sink → Sink) : (s.modSink i f).late = s.late := (rfl)
@[simp] theorem modSink_fetched (s : State) (i : Nat) (f : Sink → Sink) : (s.modSink i f).fetched = s.fetched := (rfl)
@[simp] theorem modSink_ilkLvl (s : State) (i : Nat) (f : Sink → Sink) : (s.modSink i f).ilkLvl = s.ilkLvl := (rfl)
@[simp] theorem modSink_laneDark (s : State) (i : Nat) (f : Sink → Sink) : (s.modSink i f).laneDark = s.laneDark := (rfl)
@[simp] theorem modSink_inEdge (s : State) (i : Nat) (f : Sink → Sink) : (s.modSink i f).inEdge = s.inEdge := (rfl)
@[simp] theorem modSink_ssNow (s : State) (i : Nat) (f : Sink → Sink) : (s.modSink i f).ssNow = s.ssNow := (rfl)
@[simp] theorem modSink_seen (s : State) (i : Nat) (f : Sink → Sink) : (s.modSink i f).seen = s.seen := (rfl)
@[simp] theorem modSink_winLead (s : State) (i : Nat) (f : Sink → Sink) : (s.modSink i f).winLead = s.winLead := (rfl)
@[simp] theorem modSink_alive (s : State) (i : Nat) (f : Sink → Sink) : (s.modSink i f).alive = s.alive := (rfl)
@[simp] theorem modSink_dramWait (s : State) (i : Nat) (f : Sink → Sink) : (s.modSink i f).dramWait = s.dramWait := (rfl)
@[simp] theorem modSink_mapFrom (s : State) (i : Nat) (f : Sink → Sink) : (s.modSink i f).mapFrom = s.mapFrom := (rfl)
@[simp] theorem modSink_linkVols (s : State) (i : Nat) (f : Sink → Sink) : (s.modSink i f).linkVols = s.linkVols := (rfl)
@[simp] theorem modSink_starting (s : State) (i : Nat) (f : Sink → Sink) : (s.modSink i f).starting = s.starting := (rfl)
@[simp] theorem modNet_net (s : State) (i : Nat) (f : Net → Net) (j : Nat) : (s.modNet i f).net j = if i = j then f (s.net i) else s.net j :=
  tabGet_tabSet _ _ _ _ _
@[simp] theorem modNet_rd (s : State) (i : Nat) (f : Net → Net) (off : Nat) : (s.modNet i f).rd off = s.rd off := (rfl)
@[simp] theorem modNet_get (s : State) (i : Nat) (f : Net → Net) (g : Fld) : (s.modNet i f).get g = s.get g := (rfl)
@[simp] theorem modNet_flag (s : State) (i : Nat) (f : Net → Net) (g : Fld) : (s.modNet i f).flag g = s.flag g := (rfl)
@[simp] theorem modNet_rd64 (s : State) (i : Nat) (f : Net → Net) (off : Nat) : (s.modNet i f).rd64 off = s.rd64 off := (rfl)
@[simp] theorem modNet_beam (s : State) (i : Nat) (f : Net → Net) (j : Nat) : (s.modNet i f).beam j = s.beam j := (rfl)
@[simp] theorem modNet_pd (s : State) (i : Nat) (f : Net → Net) (j : Nat) : (s.modNet i f).pd j = s.pd j := (rfl)
@[simp] theorem modNet_port (s : State) (i : Nat) (f : Net → Net) (j : Nat) : (s.modNet i f).port j = s.port j := (rfl)
@[simp] theorem modNet_ctx (s : State) (i : Nat) (f : Net → Net) (j : Nat) : (s.modNet i f).ctx j = s.ctx j := (rfl)
@[simp] theorem modNet_cb (s : State) (i : Nat) (f : Net → Net) (j : Nat) : (s.modNet i f).cb j = s.cb j := (rfl)
@[simp] theorem modNet_cle (s : State) (i : Nat) (f : Net → Net) (j : Nat) : (s.modNet i f).cle j = s.cle j := (rfl)
@[simp] theorem modNet_pool (s : State) (i : Nat) (f : Net → Net) (j : Nat) : (s.modNet i f).pool j = s.pool j := (rfl)
@[simp] theorem modNet_bar (s : State) (i : Nat) (f : Net → Net) (j : Nat) : (s.modNet i f).bar j = s.bar j := (rfl)
@[simp] theorem modNet_dma (s : State) (i : Nat) (f : Net → Net) (j : Nat) : (s.modNet i f).dma j = s.dma j := (rfl)
@[simp] theorem modNet_codec (s : State) (i : Nat) (f : Net → Net) (j : Nat) : (s.modNet i f).codec j = s.codec j := (rfl)
@[simp] theorem modNet_mch (s : State) (i : Nat) (f : Net → Net) (j : Nat) : (s.modNet i f).mch j = s.mch j := (rfl)
@[simp] theorem modNet_eng (s : State) (i : Nat) (f : Net → Net) (j : Nat) : (s.modNet i f).eng j = s.eng j := (rfl)
@[simp] theorem modNet_lane (s : State) (i : Nat) (f : Net → Net) (j : Nat) : (s.modNet i f).lane j = s.lane j := (rfl)
@[simp] theorem modNet_lnk (s : State) (i : Nat) (f : Net → Net) (j : Nat) : (s.modNet i f).lnk j = s.lnk j := (rfl)
@[simp] theorem modNet_sink (s : State) (i : Nat) (f : Net → Net) (j : Nat) : (s.modNet i f).sink j = s.sink j := (rfl)
@[simp] theorem modNet_qe (s : State) (i : Nat) (f : Net → Net) (j : Nat) : (s.modNet i f).qe j = s.qe j := (rfl)
@[simp] theorem modNet_eo (s : State) (i : Nat) (f : Net → Net) (j : Nat) : (s.modNet i f).eo j = s.eo j := (rfl)
@[simp] theorem modNet_tb (s : State) (i : Nat) (f : Net → Net) (j : Nat) : (s.modNet i f).tb j = s.tb j := (rfl)
@[simp] theorem modNet_ax (s : State) (i : Nat) (f : Net → Net) (j : Nat) : (s.modNet i f).ax j = s.ax j := (rfl)
@[simp] theorem modNet_pending (s : State) (i : Nat) (f : Net → Net) : (s.modNet i f).pending = s.pending := (rfl)
@[simp] theorem modNet_lmem (s : State) (i : Nat) (f : Net → Net) : (s.modNet i f).lmem = s.lmem := (rfl)
@[simp] theorem modNet_dram (s : State) (i : Nat) (f : Net → Net) : (s.modNet i f).dram = s.dram := (rfl)
@[simp] theorem modNet_trace (s : State) (i : Nat) (f : Net → Net) : (s.modNet i f).trace = s.trace := (rfl)
@[simp] theorem modNet_evNew (s : State) (i : Nat) (f : Net → Net) : (s.modNet i f).evNew = s.evNew := (rfl)
@[simp] theorem modNet_evq (s : State) (i : Nat) (f : Net → Net) : (s.modNet i f).evq = s.evq := (rfl)
@[simp] theorem modNet_evLoss (s : State) (i : Nat) (f : Net → Net) : (s.modNet i f).evLoss = s.evLoss := (rfl)
@[simp] theorem modNet_supplyHeld (s : State) (i : Nat) (f : Net → Net) : (s.modNet i f).supplyHeld = s.supplyHeld := (rfl)
@[simp] theorem modNet_clockLost (s : State) (i : Nat) (f : Net → Net) : (s.modNet i f).clockLost = s.clockLost := (rfl)
@[simp] theorem modNet_fabricUp (s : State) (i : Nat) (f : Net → Net) : (s.modNet i f).fabricUp = s.fabricUp := (rfl)
@[simp] theorem modNet_tstArmed (s : State) (i : Nat) (f : Net → Net) : (s.modNet i f).tstArmed = s.tstArmed := (rfl)
@[simp] theorem modNet_fresh (s : State) (i : Nat) (f : Net → Net) : (s.modNet i f).fresh = s.fresh := (rfl)
@[simp] theorem modNet_outbox (s : State) (i : Nat) (f : Net → Net) : (s.modNet i f).outbox = s.outbox := (rfl)
@[simp] theorem modNet_late (s : State) (i : Nat) (f : Net → Net) : (s.modNet i f).late = s.late := (rfl)
@[simp] theorem modNet_fetched (s : State) (i : Nat) (f : Net → Net) : (s.modNet i f).fetched = s.fetched := (rfl)
@[simp] theorem modNet_ilkLvl (s : State) (i : Nat) (f : Net → Net) : (s.modNet i f).ilkLvl = s.ilkLvl := (rfl)
@[simp] theorem modNet_laneDark (s : State) (i : Nat) (f : Net → Net) : (s.modNet i f).laneDark = s.laneDark := (rfl)
@[simp] theorem modNet_inEdge (s : State) (i : Nat) (f : Net → Net) : (s.modNet i f).inEdge = s.inEdge := (rfl)
@[simp] theorem modNet_ssNow (s : State) (i : Nat) (f : Net → Net) : (s.modNet i f).ssNow = s.ssNow := (rfl)
@[simp] theorem modNet_seen (s : State) (i : Nat) (f : Net → Net) : (s.modNet i f).seen = s.seen := (rfl)
@[simp] theorem modNet_winLead (s : State) (i : Nat) (f : Net → Net) : (s.modNet i f).winLead = s.winLead := (rfl)
@[simp] theorem modNet_alive (s : State) (i : Nat) (f : Net → Net) : (s.modNet i f).alive = s.alive := (rfl)
@[simp] theorem modNet_dramWait (s : State) (i : Nat) (f : Net → Net) : (s.modNet i f).dramWait = s.dramWait := (rfl)
@[simp] theorem modNet_mapFrom (s : State) (i : Nat) (f : Net → Net) : (s.modNet i f).mapFrom = s.mapFrom := (rfl)
@[simp] theorem modNet_linkVols (s : State) (i : Nat) (f : Net → Net) : (s.modNet i f).linkVols = s.linkVols := (rfl)
@[simp] theorem modNet_starting (s : State) (i : Nat) (f : Net → Net) : (s.modNet i f).starting = s.starting := (rfl)
@[simp] theorem modQe_qe (s : State) (i : Nat) (f : Qe → Qe) (j : Nat) : (s.modQe i f).qe j = if i = j then f (s.qe i) else s.qe j :=
  tabGet_tabSet _ _ _ _ _
@[simp] theorem modQe_rd (s : State) (i : Nat) (f : Qe → Qe) (off : Nat) : (s.modQe i f).rd off = s.rd off := (rfl)
@[simp] theorem modQe_get (s : State) (i : Nat) (f : Qe → Qe) (g : Fld) : (s.modQe i f).get g = s.get g := (rfl)
@[simp] theorem modQe_flag (s : State) (i : Nat) (f : Qe → Qe) (g : Fld) : (s.modQe i f).flag g = s.flag g := (rfl)
@[simp] theorem modQe_rd64 (s : State) (i : Nat) (f : Qe → Qe) (off : Nat) : (s.modQe i f).rd64 off = s.rd64 off := (rfl)
@[simp] theorem modQe_beam (s : State) (i : Nat) (f : Qe → Qe) (j : Nat) : (s.modQe i f).beam j = s.beam j := (rfl)
@[simp] theorem modQe_pd (s : State) (i : Nat) (f : Qe → Qe) (j : Nat) : (s.modQe i f).pd j = s.pd j := (rfl)
@[simp] theorem modQe_port (s : State) (i : Nat) (f : Qe → Qe) (j : Nat) : (s.modQe i f).port j = s.port j := (rfl)
@[simp] theorem modQe_ctx (s : State) (i : Nat) (f : Qe → Qe) (j : Nat) : (s.modQe i f).ctx j = s.ctx j := (rfl)
@[simp] theorem modQe_cb (s : State) (i : Nat) (f : Qe → Qe) (j : Nat) : (s.modQe i f).cb j = s.cb j := (rfl)
@[simp] theorem modQe_cle (s : State) (i : Nat) (f : Qe → Qe) (j : Nat) : (s.modQe i f).cle j = s.cle j := (rfl)
@[simp] theorem modQe_pool (s : State) (i : Nat) (f : Qe → Qe) (j : Nat) : (s.modQe i f).pool j = s.pool j := (rfl)
@[simp] theorem modQe_bar (s : State) (i : Nat) (f : Qe → Qe) (j : Nat) : (s.modQe i f).bar j = s.bar j := (rfl)
@[simp] theorem modQe_dma (s : State) (i : Nat) (f : Qe → Qe) (j : Nat) : (s.modQe i f).dma j = s.dma j := (rfl)
@[simp] theorem modQe_codec (s : State) (i : Nat) (f : Qe → Qe) (j : Nat) : (s.modQe i f).codec j = s.codec j := (rfl)
@[simp] theorem modQe_mch (s : State) (i : Nat) (f : Qe → Qe) (j : Nat) : (s.modQe i f).mch j = s.mch j := (rfl)
@[simp] theorem modQe_eng (s : State) (i : Nat) (f : Qe → Qe) (j : Nat) : (s.modQe i f).eng j = s.eng j := (rfl)
@[simp] theorem modQe_lane (s : State) (i : Nat) (f : Qe → Qe) (j : Nat) : (s.modQe i f).lane j = s.lane j := (rfl)
@[simp] theorem modQe_lnk (s : State) (i : Nat) (f : Qe → Qe) (j : Nat) : (s.modQe i f).lnk j = s.lnk j := (rfl)
@[simp] theorem modQe_sink (s : State) (i : Nat) (f : Qe → Qe) (j : Nat) : (s.modQe i f).sink j = s.sink j := (rfl)
@[simp] theorem modQe_net (s : State) (i : Nat) (f : Qe → Qe) (j : Nat) : (s.modQe i f).net j = s.net j := (rfl)
@[simp] theorem modQe_eo (s : State) (i : Nat) (f : Qe → Qe) (j : Nat) : (s.modQe i f).eo j = s.eo j := (rfl)
@[simp] theorem modQe_tb (s : State) (i : Nat) (f : Qe → Qe) (j : Nat) : (s.modQe i f).tb j = s.tb j := (rfl)
@[simp] theorem modQe_ax (s : State) (i : Nat) (f : Qe → Qe) (j : Nat) : (s.modQe i f).ax j = s.ax j := (rfl)
@[simp] theorem modQe_pending (s : State) (i : Nat) (f : Qe → Qe) : (s.modQe i f).pending = s.pending := (rfl)
@[simp] theorem modQe_lmem (s : State) (i : Nat) (f : Qe → Qe) : (s.modQe i f).lmem = s.lmem := (rfl)
@[simp] theorem modQe_dram (s : State) (i : Nat) (f : Qe → Qe) : (s.modQe i f).dram = s.dram := (rfl)
@[simp] theorem modQe_trace (s : State) (i : Nat) (f : Qe → Qe) : (s.modQe i f).trace = s.trace := (rfl)
@[simp] theorem modQe_evNew (s : State) (i : Nat) (f : Qe → Qe) : (s.modQe i f).evNew = s.evNew := (rfl)
@[simp] theorem modQe_evq (s : State) (i : Nat) (f : Qe → Qe) : (s.modQe i f).evq = s.evq := (rfl)
@[simp] theorem modQe_evLoss (s : State) (i : Nat) (f : Qe → Qe) : (s.modQe i f).evLoss = s.evLoss := (rfl)
@[simp] theorem modQe_supplyHeld (s : State) (i : Nat) (f : Qe → Qe) : (s.modQe i f).supplyHeld = s.supplyHeld := (rfl)
@[simp] theorem modQe_clockLost (s : State) (i : Nat) (f : Qe → Qe) : (s.modQe i f).clockLost = s.clockLost := (rfl)
@[simp] theorem modQe_fabricUp (s : State) (i : Nat) (f : Qe → Qe) : (s.modQe i f).fabricUp = s.fabricUp := (rfl)
@[simp] theorem modQe_tstArmed (s : State) (i : Nat) (f : Qe → Qe) : (s.modQe i f).tstArmed = s.tstArmed := (rfl)
@[simp] theorem modQe_fresh (s : State) (i : Nat) (f : Qe → Qe) : (s.modQe i f).fresh = s.fresh := (rfl)
@[simp] theorem modQe_outbox (s : State) (i : Nat) (f : Qe → Qe) : (s.modQe i f).outbox = s.outbox := (rfl)
@[simp] theorem modQe_late (s : State) (i : Nat) (f : Qe → Qe) : (s.modQe i f).late = s.late := (rfl)
@[simp] theorem modQe_fetched (s : State) (i : Nat) (f : Qe → Qe) : (s.modQe i f).fetched = s.fetched := (rfl)
@[simp] theorem modQe_ilkLvl (s : State) (i : Nat) (f : Qe → Qe) : (s.modQe i f).ilkLvl = s.ilkLvl := (rfl)
@[simp] theorem modQe_laneDark (s : State) (i : Nat) (f : Qe → Qe) : (s.modQe i f).laneDark = s.laneDark := (rfl)
@[simp] theorem modQe_inEdge (s : State) (i : Nat) (f : Qe → Qe) : (s.modQe i f).inEdge = s.inEdge := (rfl)
@[simp] theorem modQe_ssNow (s : State) (i : Nat) (f : Qe → Qe) : (s.modQe i f).ssNow = s.ssNow := (rfl)
@[simp] theorem modQe_seen (s : State) (i : Nat) (f : Qe → Qe) : (s.modQe i f).seen = s.seen := (rfl)
@[simp] theorem modQe_winLead (s : State) (i : Nat) (f : Qe → Qe) : (s.modQe i f).winLead = s.winLead := (rfl)
@[simp] theorem modQe_alive (s : State) (i : Nat) (f : Qe → Qe) : (s.modQe i f).alive = s.alive := (rfl)
@[simp] theorem modQe_dramWait (s : State) (i : Nat) (f : Qe → Qe) : (s.modQe i f).dramWait = s.dramWait := (rfl)
@[simp] theorem modQe_mapFrom (s : State) (i : Nat) (f : Qe → Qe) : (s.modQe i f).mapFrom = s.mapFrom := (rfl)
@[simp] theorem modQe_linkVols (s : State) (i : Nat) (f : Qe → Qe) : (s.modQe i f).linkVols = s.linkVols := (rfl)
@[simp] theorem modQe_starting (s : State) (i : Nat) (f : Qe → Qe) : (s.modQe i f).starting = s.starting := (rfl)
@[simp] theorem modEo_eo (s : State) (i : Nat) (f : Eo → Eo) (j : Nat) : (s.modEo i f).eo j = if i = j then f (s.eo i) else s.eo j :=
  tabGet_tabSet _ _ _ _ _
@[simp] theorem modEo_rd (s : State) (i : Nat) (f : Eo → Eo) (off : Nat) : (s.modEo i f).rd off = s.rd off := (rfl)
@[simp] theorem modEo_get (s : State) (i : Nat) (f : Eo → Eo) (g : Fld) : (s.modEo i f).get g = s.get g := (rfl)
@[simp] theorem modEo_flag (s : State) (i : Nat) (f : Eo → Eo) (g : Fld) : (s.modEo i f).flag g = s.flag g := (rfl)
@[simp] theorem modEo_rd64 (s : State) (i : Nat) (f : Eo → Eo) (off : Nat) : (s.modEo i f).rd64 off = s.rd64 off := (rfl)
@[simp] theorem modEo_beam (s : State) (i : Nat) (f : Eo → Eo) (j : Nat) : (s.modEo i f).beam j = s.beam j := (rfl)
@[simp] theorem modEo_pd (s : State) (i : Nat) (f : Eo → Eo) (j : Nat) : (s.modEo i f).pd j = s.pd j := (rfl)
@[simp] theorem modEo_port (s : State) (i : Nat) (f : Eo → Eo) (j : Nat) : (s.modEo i f).port j = s.port j := (rfl)
@[simp] theorem modEo_ctx (s : State) (i : Nat) (f : Eo → Eo) (j : Nat) : (s.modEo i f).ctx j = s.ctx j := (rfl)
@[simp] theorem modEo_cb (s : State) (i : Nat) (f : Eo → Eo) (j : Nat) : (s.modEo i f).cb j = s.cb j := (rfl)
@[simp] theorem modEo_cle (s : State) (i : Nat) (f : Eo → Eo) (j : Nat) : (s.modEo i f).cle j = s.cle j := (rfl)
@[simp] theorem modEo_pool (s : State) (i : Nat) (f : Eo → Eo) (j : Nat) : (s.modEo i f).pool j = s.pool j := (rfl)
@[simp] theorem modEo_bar (s : State) (i : Nat) (f : Eo → Eo) (j : Nat) : (s.modEo i f).bar j = s.bar j := (rfl)
@[simp] theorem modEo_dma (s : State) (i : Nat) (f : Eo → Eo) (j : Nat) : (s.modEo i f).dma j = s.dma j := (rfl)
@[simp] theorem modEo_codec (s : State) (i : Nat) (f : Eo → Eo) (j : Nat) : (s.modEo i f).codec j = s.codec j := (rfl)
@[simp] theorem modEo_mch (s : State) (i : Nat) (f : Eo → Eo) (j : Nat) : (s.modEo i f).mch j = s.mch j := (rfl)
@[simp] theorem modEo_eng (s : State) (i : Nat) (f : Eo → Eo) (j : Nat) : (s.modEo i f).eng j = s.eng j := (rfl)
@[simp] theorem modEo_lane (s : State) (i : Nat) (f : Eo → Eo) (j : Nat) : (s.modEo i f).lane j = s.lane j := (rfl)
@[simp] theorem modEo_lnk (s : State) (i : Nat) (f : Eo → Eo) (j : Nat) : (s.modEo i f).lnk j = s.lnk j := (rfl)
@[simp] theorem modEo_sink (s : State) (i : Nat) (f : Eo → Eo) (j : Nat) : (s.modEo i f).sink j = s.sink j := (rfl)
@[simp] theorem modEo_net (s : State) (i : Nat) (f : Eo → Eo) (j : Nat) : (s.modEo i f).net j = s.net j := (rfl)
@[simp] theorem modEo_qe (s : State) (i : Nat) (f : Eo → Eo) (j : Nat) : (s.modEo i f).qe j = s.qe j := (rfl)
@[simp] theorem modEo_tb (s : State) (i : Nat) (f : Eo → Eo) (j : Nat) : (s.modEo i f).tb j = s.tb j := (rfl)
@[simp] theorem modEo_ax (s : State) (i : Nat) (f : Eo → Eo) (j : Nat) : (s.modEo i f).ax j = s.ax j := (rfl)
@[simp] theorem modEo_pending (s : State) (i : Nat) (f : Eo → Eo) : (s.modEo i f).pending = s.pending := (rfl)
@[simp] theorem modEo_lmem (s : State) (i : Nat) (f : Eo → Eo) : (s.modEo i f).lmem = s.lmem := (rfl)
@[simp] theorem modEo_dram (s : State) (i : Nat) (f : Eo → Eo) : (s.modEo i f).dram = s.dram := (rfl)
@[simp] theorem modEo_trace (s : State) (i : Nat) (f : Eo → Eo) : (s.modEo i f).trace = s.trace := (rfl)
@[simp] theorem modEo_evNew (s : State) (i : Nat) (f : Eo → Eo) : (s.modEo i f).evNew = s.evNew := (rfl)
@[simp] theorem modEo_evq (s : State) (i : Nat) (f : Eo → Eo) : (s.modEo i f).evq = s.evq := (rfl)
@[simp] theorem modEo_evLoss (s : State) (i : Nat) (f : Eo → Eo) : (s.modEo i f).evLoss = s.evLoss := (rfl)
@[simp] theorem modEo_supplyHeld (s : State) (i : Nat) (f : Eo → Eo) : (s.modEo i f).supplyHeld = s.supplyHeld := (rfl)
@[simp] theorem modEo_clockLost (s : State) (i : Nat) (f : Eo → Eo) : (s.modEo i f).clockLost = s.clockLost := (rfl)
@[simp] theorem modEo_fabricUp (s : State) (i : Nat) (f : Eo → Eo) : (s.modEo i f).fabricUp = s.fabricUp := (rfl)
@[simp] theorem modEo_tstArmed (s : State) (i : Nat) (f : Eo → Eo) : (s.modEo i f).tstArmed = s.tstArmed := (rfl)
@[simp] theorem modEo_fresh (s : State) (i : Nat) (f : Eo → Eo) : (s.modEo i f).fresh = s.fresh := (rfl)
@[simp] theorem modEo_outbox (s : State) (i : Nat) (f : Eo → Eo) : (s.modEo i f).outbox = s.outbox := (rfl)
@[simp] theorem modEo_late (s : State) (i : Nat) (f : Eo → Eo) : (s.modEo i f).late = s.late := (rfl)
@[simp] theorem modEo_fetched (s : State) (i : Nat) (f : Eo → Eo) : (s.modEo i f).fetched = s.fetched := (rfl)
@[simp] theorem modEo_ilkLvl (s : State) (i : Nat) (f : Eo → Eo) : (s.modEo i f).ilkLvl = s.ilkLvl := (rfl)
@[simp] theorem modEo_laneDark (s : State) (i : Nat) (f : Eo → Eo) : (s.modEo i f).laneDark = s.laneDark := (rfl)
@[simp] theorem modEo_inEdge (s : State) (i : Nat) (f : Eo → Eo) : (s.modEo i f).inEdge = s.inEdge := (rfl)
@[simp] theorem modEo_ssNow (s : State) (i : Nat) (f : Eo → Eo) : (s.modEo i f).ssNow = s.ssNow := (rfl)
@[simp] theorem modEo_seen (s : State) (i : Nat) (f : Eo → Eo) : (s.modEo i f).seen = s.seen := (rfl)
@[simp] theorem modEo_winLead (s : State) (i : Nat) (f : Eo → Eo) : (s.modEo i f).winLead = s.winLead := (rfl)
@[simp] theorem modEo_alive (s : State) (i : Nat) (f : Eo → Eo) : (s.modEo i f).alive = s.alive := (rfl)
@[simp] theorem modEo_dramWait (s : State) (i : Nat) (f : Eo → Eo) : (s.modEo i f).dramWait = s.dramWait := (rfl)
@[simp] theorem modEo_mapFrom (s : State) (i : Nat) (f : Eo → Eo) : (s.modEo i f).mapFrom = s.mapFrom := (rfl)
@[simp] theorem modEo_linkVols (s : State) (i : Nat) (f : Eo → Eo) : (s.modEo i f).linkVols = s.linkVols := (rfl)
@[simp] theorem modEo_starting (s : State) (i : Nat) (f : Eo → Eo) : (s.modEo i f).starting = s.starting := (rfl)
@[simp] theorem modTb_tb (s : State) (i : Nat) (f : Tb → Tb) (j : Nat) : (s.modTb i f).tb j = if i = j then f (s.tb i) else s.tb j :=
  tabGet_tabSet _ _ _ _ _
@[simp] theorem modTb_rd (s : State) (i : Nat) (f : Tb → Tb) (off : Nat) : (s.modTb i f).rd off = s.rd off := (rfl)
@[simp] theorem modTb_get (s : State) (i : Nat) (f : Tb → Tb) (g : Fld) : (s.modTb i f).get g = s.get g := (rfl)
@[simp] theorem modTb_flag (s : State) (i : Nat) (f : Tb → Tb) (g : Fld) : (s.modTb i f).flag g = s.flag g := (rfl)
@[simp] theorem modTb_rd64 (s : State) (i : Nat) (f : Tb → Tb) (off : Nat) : (s.modTb i f).rd64 off = s.rd64 off := (rfl)
@[simp] theorem modTb_beam (s : State) (i : Nat) (f : Tb → Tb) (j : Nat) : (s.modTb i f).beam j = s.beam j := (rfl)
@[simp] theorem modTb_pd (s : State) (i : Nat) (f : Tb → Tb) (j : Nat) : (s.modTb i f).pd j = s.pd j := (rfl)
@[simp] theorem modTb_port (s : State) (i : Nat) (f : Tb → Tb) (j : Nat) : (s.modTb i f).port j = s.port j := (rfl)
@[simp] theorem modTb_ctx (s : State) (i : Nat) (f : Tb → Tb) (j : Nat) : (s.modTb i f).ctx j = s.ctx j := (rfl)
@[simp] theorem modTb_cb (s : State) (i : Nat) (f : Tb → Tb) (j : Nat) : (s.modTb i f).cb j = s.cb j := (rfl)
@[simp] theorem modTb_cle (s : State) (i : Nat) (f : Tb → Tb) (j : Nat) : (s.modTb i f).cle j = s.cle j := (rfl)
@[simp] theorem modTb_pool (s : State) (i : Nat) (f : Tb → Tb) (j : Nat) : (s.modTb i f).pool j = s.pool j := (rfl)
@[simp] theorem modTb_bar (s : State) (i : Nat) (f : Tb → Tb) (j : Nat) : (s.modTb i f).bar j = s.bar j := (rfl)
@[simp] theorem modTb_dma (s : State) (i : Nat) (f : Tb → Tb) (j : Nat) : (s.modTb i f).dma j = s.dma j := (rfl)
@[simp] theorem modTb_codec (s : State) (i : Nat) (f : Tb → Tb) (j : Nat) : (s.modTb i f).codec j = s.codec j := (rfl)
@[simp] theorem modTb_mch (s : State) (i : Nat) (f : Tb → Tb) (j : Nat) : (s.modTb i f).mch j = s.mch j := (rfl)
@[simp] theorem modTb_eng (s : State) (i : Nat) (f : Tb → Tb) (j : Nat) : (s.modTb i f).eng j = s.eng j := (rfl)
@[simp] theorem modTb_lane (s : State) (i : Nat) (f : Tb → Tb) (j : Nat) : (s.modTb i f).lane j = s.lane j := (rfl)
@[simp] theorem modTb_lnk (s : State) (i : Nat) (f : Tb → Tb) (j : Nat) : (s.modTb i f).lnk j = s.lnk j := (rfl)
@[simp] theorem modTb_sink (s : State) (i : Nat) (f : Tb → Tb) (j : Nat) : (s.modTb i f).sink j = s.sink j := (rfl)
@[simp] theorem modTb_net (s : State) (i : Nat) (f : Tb → Tb) (j : Nat) : (s.modTb i f).net j = s.net j := (rfl)
@[simp] theorem modTb_qe (s : State) (i : Nat) (f : Tb → Tb) (j : Nat) : (s.modTb i f).qe j = s.qe j := (rfl)
@[simp] theorem modTb_eo (s : State) (i : Nat) (f : Tb → Tb) (j : Nat) : (s.modTb i f).eo j = s.eo j := (rfl)
@[simp] theorem modTb_ax (s : State) (i : Nat) (f : Tb → Tb) (j : Nat) : (s.modTb i f).ax j = s.ax j := (rfl)
@[simp] theorem modTb_pending (s : State) (i : Nat) (f : Tb → Tb) : (s.modTb i f).pending = s.pending := (rfl)
@[simp] theorem modTb_lmem (s : State) (i : Nat) (f : Tb → Tb) : (s.modTb i f).lmem = s.lmem := (rfl)
@[simp] theorem modTb_dram (s : State) (i : Nat) (f : Tb → Tb) : (s.modTb i f).dram = s.dram := (rfl)
@[simp] theorem modTb_trace (s : State) (i : Nat) (f : Tb → Tb) : (s.modTb i f).trace = s.trace := (rfl)
@[simp] theorem modTb_evNew (s : State) (i : Nat) (f : Tb → Tb) : (s.modTb i f).evNew = s.evNew := (rfl)
@[simp] theorem modTb_evq (s : State) (i : Nat) (f : Tb → Tb) : (s.modTb i f).evq = s.evq := (rfl)
@[simp] theorem modTb_evLoss (s : State) (i : Nat) (f : Tb → Tb) : (s.modTb i f).evLoss = s.evLoss := (rfl)
@[simp] theorem modTb_supplyHeld (s : State) (i : Nat) (f : Tb → Tb) : (s.modTb i f).supplyHeld = s.supplyHeld := (rfl)
@[simp] theorem modTb_clockLost (s : State) (i : Nat) (f : Tb → Tb) : (s.modTb i f).clockLost = s.clockLost := (rfl)
@[simp] theorem modTb_fabricUp (s : State) (i : Nat) (f : Tb → Tb) : (s.modTb i f).fabricUp = s.fabricUp := (rfl)
@[simp] theorem modTb_tstArmed (s : State) (i : Nat) (f : Tb → Tb) : (s.modTb i f).tstArmed = s.tstArmed := (rfl)
@[simp] theorem modTb_fresh (s : State) (i : Nat) (f : Tb → Tb) : (s.modTb i f).fresh = s.fresh := (rfl)
@[simp] theorem modTb_outbox (s : State) (i : Nat) (f : Tb → Tb) : (s.modTb i f).outbox = s.outbox := (rfl)
@[simp] theorem modTb_late (s : State) (i : Nat) (f : Tb → Tb) : (s.modTb i f).late = s.late := (rfl)
@[simp] theorem modTb_fetched (s : State) (i : Nat) (f : Tb → Tb) : (s.modTb i f).fetched = s.fetched := (rfl)
@[simp] theorem modTb_ilkLvl (s : State) (i : Nat) (f : Tb → Tb) : (s.modTb i f).ilkLvl = s.ilkLvl := (rfl)
@[simp] theorem modTb_laneDark (s : State) (i : Nat) (f : Tb → Tb) : (s.modTb i f).laneDark = s.laneDark := (rfl)
@[simp] theorem modTb_inEdge (s : State) (i : Nat) (f : Tb → Tb) : (s.modTb i f).inEdge = s.inEdge := (rfl)
@[simp] theorem modTb_ssNow (s : State) (i : Nat) (f : Tb → Tb) : (s.modTb i f).ssNow = s.ssNow := (rfl)
@[simp] theorem modTb_seen (s : State) (i : Nat) (f : Tb → Tb) : (s.modTb i f).seen = s.seen := (rfl)
@[simp] theorem modTb_winLead (s : State) (i : Nat) (f : Tb → Tb) : (s.modTb i f).winLead = s.winLead := (rfl)
@[simp] theorem modTb_alive (s : State) (i : Nat) (f : Tb → Tb) : (s.modTb i f).alive = s.alive := (rfl)
@[simp] theorem modTb_dramWait (s : State) (i : Nat) (f : Tb → Tb) : (s.modTb i f).dramWait = s.dramWait := (rfl)
@[simp] theorem modTb_mapFrom (s : State) (i : Nat) (f : Tb → Tb) : (s.modTb i f).mapFrom = s.mapFrom := (rfl)
@[simp] theorem modTb_linkVols (s : State) (i : Nat) (f : Tb → Tb) : (s.modTb i f).linkVols = s.linkVols := (rfl)
@[simp] theorem modTb_starting (s : State) (i : Nat) (f : Tb → Tb) : (s.modTb i f).starting = s.starting := (rfl)
@[simp] theorem modAx_ax (s : State) (i : Nat) (f : Axis → Axis) (j : Nat) : (s.modAx i f).ax j = if i = j then f (s.ax i) else s.ax j :=
  tabGet_tabSet _ _ _ _ _
@[simp] theorem modAx_rd (s : State) (i : Nat) (f : Axis → Axis) (off : Nat) : (s.modAx i f).rd off = s.rd off := (rfl)
@[simp] theorem modAx_get (s : State) (i : Nat) (f : Axis → Axis) (g : Fld) : (s.modAx i f).get g = s.get g := (rfl)
@[simp] theorem modAx_flag (s : State) (i : Nat) (f : Axis → Axis) (g : Fld) : (s.modAx i f).flag g = s.flag g := (rfl)
@[simp] theorem modAx_rd64 (s : State) (i : Nat) (f : Axis → Axis) (off : Nat) : (s.modAx i f).rd64 off = s.rd64 off := (rfl)
@[simp] theorem modAx_beam (s : State) (i : Nat) (f : Axis → Axis) (j : Nat) : (s.modAx i f).beam j = s.beam j := (rfl)
@[simp] theorem modAx_pd (s : State) (i : Nat) (f : Axis → Axis) (j : Nat) : (s.modAx i f).pd j = s.pd j := (rfl)
@[simp] theorem modAx_port (s : State) (i : Nat) (f : Axis → Axis) (j : Nat) : (s.modAx i f).port j = s.port j := (rfl)
@[simp] theorem modAx_ctx (s : State) (i : Nat) (f : Axis → Axis) (j : Nat) : (s.modAx i f).ctx j = s.ctx j := (rfl)
@[simp] theorem modAx_cb (s : State) (i : Nat) (f : Axis → Axis) (j : Nat) : (s.modAx i f).cb j = s.cb j := (rfl)
@[simp] theorem modAx_cle (s : State) (i : Nat) (f : Axis → Axis) (j : Nat) : (s.modAx i f).cle j = s.cle j := (rfl)
@[simp] theorem modAx_pool (s : State) (i : Nat) (f : Axis → Axis) (j : Nat) : (s.modAx i f).pool j = s.pool j := (rfl)
@[simp] theorem modAx_bar (s : State) (i : Nat) (f : Axis → Axis) (j : Nat) : (s.modAx i f).bar j = s.bar j := (rfl)
@[simp] theorem modAx_dma (s : State) (i : Nat) (f : Axis → Axis) (j : Nat) : (s.modAx i f).dma j = s.dma j := (rfl)
@[simp] theorem modAx_codec (s : State) (i : Nat) (f : Axis → Axis) (j : Nat) : (s.modAx i f).codec j = s.codec j := (rfl)
@[simp] theorem modAx_mch (s : State) (i : Nat) (f : Axis → Axis) (j : Nat) : (s.modAx i f).mch j = s.mch j := (rfl)
@[simp] theorem modAx_eng (s : State) (i : Nat) (f : Axis → Axis) (j : Nat) : (s.modAx i f).eng j = s.eng j := (rfl)
@[simp] theorem modAx_lane (s : State) (i : Nat) (f : Axis → Axis) (j : Nat) : (s.modAx i f).lane j = s.lane j := (rfl)
@[simp] theorem modAx_lnk (s : State) (i : Nat) (f : Axis → Axis) (j : Nat) : (s.modAx i f).lnk j = s.lnk j := (rfl)
@[simp] theorem modAx_sink (s : State) (i : Nat) (f : Axis → Axis) (j : Nat) : (s.modAx i f).sink j = s.sink j := (rfl)
@[simp] theorem modAx_net (s : State) (i : Nat) (f : Axis → Axis) (j : Nat) : (s.modAx i f).net j = s.net j := (rfl)
@[simp] theorem modAx_qe (s : State) (i : Nat) (f : Axis → Axis) (j : Nat) : (s.modAx i f).qe j = s.qe j := (rfl)
@[simp] theorem modAx_eo (s : State) (i : Nat) (f : Axis → Axis) (j : Nat) : (s.modAx i f).eo j = s.eo j := (rfl)
@[simp] theorem modAx_tb (s : State) (i : Nat) (f : Axis → Axis) (j : Nat) : (s.modAx i f).tb j = s.tb j := (rfl)
@[simp] theorem modAx_pending (s : State) (i : Nat) (f : Axis → Axis) : (s.modAx i f).pending = s.pending := (rfl)
@[simp] theorem modAx_lmem (s : State) (i : Nat) (f : Axis → Axis) : (s.modAx i f).lmem = s.lmem := (rfl)
@[simp] theorem modAx_dram (s : State) (i : Nat) (f : Axis → Axis) : (s.modAx i f).dram = s.dram := (rfl)
@[simp] theorem modAx_trace (s : State) (i : Nat) (f : Axis → Axis) : (s.modAx i f).trace = s.trace := (rfl)
@[simp] theorem modAx_evNew (s : State) (i : Nat) (f : Axis → Axis) : (s.modAx i f).evNew = s.evNew := (rfl)
@[simp] theorem modAx_evq (s : State) (i : Nat) (f : Axis → Axis) : (s.modAx i f).evq = s.evq := (rfl)
@[simp] theorem modAx_evLoss (s : State) (i : Nat) (f : Axis → Axis) : (s.modAx i f).evLoss = s.evLoss := (rfl)
@[simp] theorem modAx_supplyHeld (s : State) (i : Nat) (f : Axis → Axis) : (s.modAx i f).supplyHeld = s.supplyHeld := (rfl)
@[simp] theorem modAx_clockLost (s : State) (i : Nat) (f : Axis → Axis) : (s.modAx i f).clockLost = s.clockLost := (rfl)
@[simp] theorem modAx_fabricUp (s : State) (i : Nat) (f : Axis → Axis) : (s.modAx i f).fabricUp = s.fabricUp := (rfl)
@[simp] theorem modAx_tstArmed (s : State) (i : Nat) (f : Axis → Axis) : (s.modAx i f).tstArmed = s.tstArmed := (rfl)
@[simp] theorem modAx_fresh (s : State) (i : Nat) (f : Axis → Axis) : (s.modAx i f).fresh = s.fresh := (rfl)
@[simp] theorem modAx_outbox (s : State) (i : Nat) (f : Axis → Axis) : (s.modAx i f).outbox = s.outbox := (rfl)
@[simp] theorem modAx_late (s : State) (i : Nat) (f : Axis → Axis) : (s.modAx i f).late = s.late := (rfl)
@[simp] theorem modAx_fetched (s : State) (i : Nat) (f : Axis → Axis) : (s.modAx i f).fetched = s.fetched := (rfl)
@[simp] theorem modAx_ilkLvl (s : State) (i : Nat) (f : Axis → Axis) : (s.modAx i f).ilkLvl = s.ilkLvl := (rfl)
@[simp] theorem modAx_laneDark (s : State) (i : Nat) (f : Axis → Axis) : (s.modAx i f).laneDark = s.laneDark := (rfl)
@[simp] theorem modAx_inEdge (s : State) (i : Nat) (f : Axis → Axis) : (s.modAx i f).inEdge = s.inEdge := (rfl)
@[simp] theorem modAx_ssNow (s : State) (i : Nat) (f : Axis → Axis) : (s.modAx i f).ssNow = s.ssNow := (rfl)
@[simp] theorem modAx_seen (s : State) (i : Nat) (f : Axis → Axis) : (s.modAx i f).seen = s.seen := (rfl)
@[simp] theorem modAx_winLead (s : State) (i : Nat) (f : Axis → Axis) : (s.modAx i f).winLead = s.winLead := (rfl)
@[simp] theorem modAx_alive (s : State) (i : Nat) (f : Axis → Axis) : (s.modAx i f).alive = s.alive := (rfl)
@[simp] theorem modAx_dramWait (s : State) (i : Nat) (f : Axis → Axis) : (s.modAx i f).dramWait = s.dramWait := (rfl)
@[simp] theorem modAx_mapFrom (s : State) (i : Nat) (f : Axis → Axis) : (s.modAx i f).mapFrom = s.mapFrom := (rfl)
@[simp] theorem modAx_linkVols (s : State) (i : Nat) (f : Axis → Axis) : (s.modAx i f).linkVols = s.linkVols := (rfl)
@[simp] theorem modAx_starting (s : State) (i : Nat) (f : Axis → Axis) : (s.modAx i f).starting = s.starting := (rfl)

end Sys2Proof.Machine
end

