-- ==== Sys2Proof/Laws/Frame.lean ====
section
/-! SUPPORT. Laws of what every meaning shares: events, perturbation points, accepted writes, and the frame of a step. -/

namespace Sys2Proof.Machine

/-! ### Frames -/

theorem sameBut_refl (l : List Part) (s : State) : sameBut l s s := fun p _ => by cases p <;> exact rfl

theorem sameBut_of {l : List Part} {s t : State} (h : ∀ p : Part, p.same s t) : sameBut l s t := fun p _ => h p

theorem Part.same_trans {s t u : State} : ∀ {p : Part}, p.same s t → p.same t u → p.same s u := by
  intro p h1 h2
  cases p <;> exact Eq.trans h2 h1

theorem sameBut_mono {l m : List Part} {s t : State} (h : sameBut l s t) (hl : ∀ p, p ∈ l → p ∈ m) : sameBut m s t :=
  fun p hp => h p fun hm => hp (hl p hm)

/-- Frames compose. -/
theorem sameBut_trans {l : List Part} {s t u : State} (h : sameBut l s t) (h' : sameBut l t u) : sameBut l s u :=
  fun p hp => Part.same_trans (h p hp) (h' p hp)

/-- A frame followed by a change of registers alone. -/
theorem sameBut_then {l : List Part} {s t u : State} (h : sameBut l s t) (h' : sameBut [] t u) : sameBut l s u :=
  sameBut_trans h (sameBut_mono h' (by simp))

theorem sameRegs_refl (l : List Nat) (s : State) : sameRegs l s s := fun _ _ => rfl

theorem sameRegs_mono {l m : List Nat} {s t : State} (h : sameRegs l s t) (hl : ∀ o, o ∈ l → o ∈ m) : sameRegs m s t :=
  fun o ho => h o fun hm => ho (hl o hm)

theorem sameRegs_trans {l : List Nat} {s t u : State} (h : sameRegs l s t) (h' : sameRegs l t u) : sameRegs l s u :=
  fun o ho => (h' o ho).trans (h o ho)

theorem sameBut_when {l : List Part} {s : State} {c : Bool} {f : State → State} (h : c = true → sameBut l s (f s)) :
    sameBut l s (s.when c f) := by
  unfold State.when
  split
  · exact h (by assumption)
  · exact sameBut_refl l s

theorem sameRegs_when {l : List Nat} {s : State} {c : Bool} {f : State → State} (h : c = true → sameRegs l s (f s)) :
    sameRegs l s (s.when c f) := by
  unfold State.when
  split
  · exact h (by assumption)
  · exact sameRegs_refl l s

theorem sameBut_wr (s : State) (a : Nat) (v : Word) : sameBut [] s (s.wr a v) := sameBut_of fun p => by cases p <;> rfl
theorem sameBut_set (s : State) (f : Fld) (v : Nat) : sameBut [] s (s.set f v) := sameBut_wr _ _ _
theorem sameBut_setFlag (s : State) (f : Fld) (c : Bool) : sameBut [] s (s.setFlag f c) := sameBut_wr _ _ _
theorem sameBut_wr64 (s : State) (a v : Nat) : sameBut [] s (s.wr64 a v) := sameBut_trans (sameBut_wr _ _ _) (sameBut_wr _ _ _)
theorem sameBut_bumpWrap (s : State) (a : Nat) : sameBut [] s (s.bumpWrap a) := sameBut_wr _ _ _
theorem sameBut_bumpSat (s : State) (a : Nat) : sameBut [] s (s.bumpSat a) := by
  unfold State.bumpSat
  split
  · exact sameBut_refl _ _
  · exact sameBut_wr _ _ _
theorem sameBut_add64 (s : State) (a n : Nat) : sameBut [] s (s.add64 a n) := sameBut_wr64 _ _ _
theorem sameBut_addSat (s : State) (a n : Nat) : sameBut [] s (s.addSat a n) := sameBut_wr _ _ _
theorem sameBut_raise (s : State) (id inst : Nat) (arg : Word) : sameBut [] s (s.raise id inst arg) :=
  sameBut_of fun p => by cases p <;> rfl
theorem sameBut_nextFresh (s : State) : sameBut [] s s.nextFresh := sameBut_of fun p => by cases p <;> rfl
theorem sameBut_modBeam (s : State) (i : Nat) (f : Beam → Beam) : sameBut [.beams] s (s.modBeam i f) :=
  fun p hp => by cases p <;> first | rfl | exact absurd (List.mem_singleton.mpr rfl) hp
theorem sameBut_modPd (s : State) (i : Nat) (f : Pd → Pd) : sameBut [.pds] s (s.modPd i f) :=
  fun p hp => by cases p <;> first | rfl | exact absurd (List.mem_singleton.mpr rfl) hp
theorem sameBut_modPort (s : State) (i : Nat) (f : CamPort → CamPort) : sameBut [.ports] s (s.modPort i f) :=
  fun p hp => by cases p <;> first | rfl | exact absurd (List.mem_singleton.mpr rfl) hp
theorem sameBut_modCtx (s : State) (i : Nat) (f : CamCtx → CamCtx) : sameBut [.ctxs] s (s.modCtx i f) :=
  fun p hp => by cases p <;> first | rfl | exact absurd (List.mem_singleton.mpr rfl) hp
theorem sameBut_modCb (s : State) (i : Nat) (f : CleB → CleB) : sameBut [.cleb] s (s.modCb i f) :=
  fun p hp => by cases p <;> first | rfl | exact absurd (List.mem_singleton.mpr rfl) hp
theorem sameBut_modCle (s : State) (i : Nat) (f : Cle → Cle) : sameBut [.cles] s (s.modCle i f) :=
  fun p hp => by cases p <;> first | rfl | exact absurd (List.mem_singleton.mpr rfl) hp
theorem sameBut_modPool (s : State) (i : Nat) (f : Pool → Pool) : sameBut [.pools] s (s.modPool i f) :=
  fun p hp => by cases p <;> first | rfl | exact absurd (List.mem_singleton.mpr rfl) hp
theorem sameBut_modBar (s : State) (i : Nat) (f : Barrier → Barrier) : sameBut [.bars] s (s.modBar i f) :=
  fun p hp => by cases p <;> first | rfl | exact absurd (List.mem_singleton.mpr rfl) hp
theorem sameBut_modDma (s : State) (i : Nat) (f : Dma → Dma) : sameBut [.dmas] s (s.modDma i f) :=
  fun p hp => by cases p <;> first | rfl | exact absurd (List.mem_singleton.mpr rfl) hp
theorem sameBut_modCodec (s : State) (i : Nat) (f : Codec → Codec) : sameBut [.codecs] s (s.modCodec i f) :=
  fun p hp => by cases p <;> first | rfl | exact absurd (List.mem_singleton.mpr rfl) hp
theorem sameBut_modMch (s : State) (i : Nat) (f : Mch → Mch) : sameBut [.mchs] s (s.modMch i f) :=
  fun p hp => by cases p <;> first | rfl | exact absurd (List.mem_singleton.mpr rfl) hp
theorem sameBut_modEng (s : State) (i : Nat) (f : Eng → Eng) : sameBut [.engs] s (s.modEng i f) :=
  fun p hp => by cases p <;> first | rfl | exact absurd (List.mem_singleton.mpr rfl) hp
theorem sameBut_modLane (s : State) (i : Nat) (f : Lane → Lane) : sameBut [.lanes] s (s.modLane i f) :=
  fun p hp => by cases p <;> first | rfl | exact absurd (List.mem_singleton.mpr rfl) hp
theorem sameBut_modLnk (s : State) (i : Nat) (f : Lnk → Lnk) : sameBut [.lnks] s (s.modLnk i f) :=
  fun p hp => by cases p <;> first | rfl | exact absurd (List.mem_singleton.mpr rfl) hp
theorem sameBut_modSink (s : State) (i : Nat) (f : Sink → Sink) : sameBut [.sinks] s (s.modSink i f) :=
  fun p hp => by cases p <;> first | rfl | exact absurd (List.mem_singleton.mpr rfl) hp
theorem sameBut_modNet (s : State) (i : Nat) (f : Net → Net) : sameBut [.nets] s (s.modNet i f) :=
  fun p hp => by cases p <;> first | rfl | exact absurd (List.mem_singleton.mpr rfl) hp
theorem sameBut_modQe (s : State) (i : Nat) (f : Qe → Qe) : sameBut [.qes] s (s.modQe i f) :=
  fun p hp => by cases p <;> first | rfl | exact absurd (List.mem_singleton.mpr rfl) hp
theorem sameBut_modEo (s : State) (i : Nat) (f : Eo → Eo) : sameBut [.eos] s (s.modEo i f) :=
  fun p hp => by cases p <;> first | rfl | exact absurd (List.mem_singleton.mpr rfl) hp
theorem sameBut_modTb (s : State) (i : Nat) (f : Tb → Tb) : sameBut [.tbs] s (s.modTb i f) :=
  fun p hp => by cases p <;> first | rfl | exact absurd (List.mem_singleton.mpr rfl) hp
theorem sameBut_modAx (s : State) (i : Nat) (f : Axis → Axis) : sameBut [.axes] s (s.modAx i f) :=
  fun p hp => by cases p <;> first | rfl | exact absurd (List.mem_singleton.mpr rfl) hp

/-! Frames as rewriting rules: an update drops out of a frame that admits it. -/

theorem Part.same_symm {s t : State} {p : Part} (h : p.same s t) : p.same t s := by cases p <;> exact Eq.symm h

/-- An update that keeps every part outside `l` drops out of a frame that admits `l`. -/
theorem sameBut_drop {l : List Part} {s t u : State} (h : sameBut l t u) : sameBut l s u ↔ sameBut l s t :=
  ⟨fun k p hp => Part.same_trans (k p hp) (Part.same_symm (h p hp)), fun k => sameBut_trans k h⟩

theorem sameBut_nil_drop {l : List Part} {s t u : State} (h : sameBut [] t u) : sameBut l s u ↔ sameBut l s t :=
  sameBut_drop (sameBut_mono h (by simp))

@[simp] theorem sameBut_self (l : List Part) (s : State) : sameBut l s s ↔ True := iff_true_intro (sameBut_refl l s)

@[simp] theorem sameBut_wr_iff (l : List Part) (s t : State) (a : Nat) (v : Word) : sameBut l s (t.wr a v) ↔ sameBut l s t :=
  sameBut_nil_drop (sameBut_wr _ _ _)
@[simp] theorem sameBut_set_iff (l : List Part) (s t : State) (f : Fld) (v : Nat) : sameBut l s (t.set f v) ↔ sameBut l s t :=
  sameBut_nil_drop (sameBut_set _ _ _)
@[simp] theorem sameBut_setFlag_iff (l : List Part) (s t : State) (f : Fld) (c : Bool) : sameBut l s (t.setFlag f c) ↔ sameBut l s t :=
  sameBut_nil_drop (sameBut_setFlag _ _ _)
@[simp] theorem sameBut_wr64_iff (l : List Part) (s t : State) (a v : Nat) : sameBut l s (t.wr64 a v) ↔ sameBut l s t :=
  sameBut_nil_drop (sameBut_wr64 _ _ _)
@[simp] theorem sameBut_bumpWrap_iff (l : List Part) (s t : State) (a : Nat) : sameBut l s (t.bumpWrap a) ↔ sameBut l s t :=
  sameBut_nil_drop (sameBut_bumpWrap _ _)
@[simp] theorem sameBut_bumpSat_iff (l : List Part) (s t : State) (a : Nat) : sameBut l s (t.bumpSat a) ↔ sameBut l s t :=
  sameBut_nil_drop (sameBut_bumpSat _ _)
@[simp] theorem sameBut_add64_iff (l : List Part) (s t : State) (a n : Nat) : sameBut l s (t.add64 a n) ↔ sameBut l s t :=
  sameBut_nil_drop (sameBut_add64 _ _ _)
@[simp] theorem sameBut_addSat_iff (l : List Part) (s t : State) (a n : Nat) : sameBut l s (t.addSat a n) ↔ sameBut l s t :=
  sameBut_nil_drop (sameBut_addSat _ _ _)
@[simp] theorem sameBut_raise_iff (l : List Part) (s t : State) (id inst : Nat) (arg : Word) : sameBut l s (t.raise id inst arg) ↔ sameBut l s t :=
  sameBut_nil_drop (sameBut_raise _ _ _ _)
@[simp] theorem sameBut_nextFresh_iff (l : List Part) (s t : State) : sameBut l s (t.nextFresh) ↔ sameBut l s t :=
  sameBut_nil_drop (sameBut_nextFresh _)
@[simp] theorem sameBut_modBeam_iff (l : List Part) (s t : State) (i : Nat) (f : Beam → Beam) (h : Part.beams ∈ l) :
    sameBut l s (t.modBeam i f) ↔ sameBut l s t :=
  sameBut_drop (sameBut_mono (sameBut_modBeam _ _ _) (by simp [h]))
@[simp] theorem sameBut_modPd_iff (l : List Part) (s t : State) (i : Nat) (f : Pd → Pd) (h : Part.pds ∈ l) :
    sameBut l s (t.modPd i f) ↔ sameBut l s t :=
  sameBut_drop (sameBut_mono (sameBut_modPd _ _ _) (by simp [h]))
@[simp] theorem sameBut_modPort_iff (l : List Part) (s t : State) (i : Nat) (f : CamPort → CamPort) (h : Part.ports ∈ l) :
    sameBut l s (t.modPort i f) ↔ sameBut l s t :=
  sameBut_drop (sameBut_mono (sameBut_modPort _ _ _) (by simp [h]))
@[simp] theorem sameBut_modCtx_iff (l : List Part) (s t : State) (i : Nat) (f : CamCtx → CamCtx) (h : Part.ctxs ∈ l) :
    sameBut l s (t.modCtx i f) ↔ sameBut l s t :=
  sameBut_drop (sameBut_mono (sameBut_modCtx _ _ _) (by simp [h]))
@[simp] theorem sameBut_modCb_iff (l : List Part) (s t : State) (i : Nat) (f : CleB → CleB) (h : Part.cleb ∈ l) :
    sameBut l s (t.modCb i f) ↔ sameBut l s t :=
  sameBut_drop (sameBut_mono (sameBut_modCb _ _ _) (by simp [h]))
@[simp] theorem sameBut_modCle_iff (l : List Part) (s t : State) (i : Nat) (f : Cle → Cle) (h : Part.cles ∈ l) :
    sameBut l s (t.modCle i f) ↔ sameBut l s t :=
  sameBut_drop (sameBut_mono (sameBut_modCle _ _ _) (by simp [h]))
@[simp] theorem sameBut_modPool_iff (l : List Part) (s t : State) (i : Nat) (f : Pool → Pool) (h : Part.pools ∈ l) :
    sameBut l s (t.modPool i f) ↔ sameBut l s t :=
  sameBut_drop (sameBut_mono (sameBut_modPool _ _ _) (by simp [h]))
@[simp] theorem sameBut_modBar_iff (l : List Part) (s t : State) (i : Nat) (f : Barrier → Barrier) (h : Part.bars ∈ l) :
    sameBut l s (t.modBar i f) ↔ sameBut l s t :=
  sameBut_drop (sameBut_mono (sameBut_modBar _ _ _) (by simp [h]))
@[simp] theorem sameBut_modDma_iff (l : List Part) (s t : State) (i : Nat) (f : Dma → Dma) (h : Part.dmas ∈ l) :
    sameBut l s (t.modDma i f) ↔ sameBut l s t :=
  sameBut_drop (sameBut_mono (sameBut_modDma _ _ _) (by simp [h]))
@[simp] theorem sameBut_modCodec_iff (l : List Part) (s t : State) (i : Nat) (f : Codec → Codec) (h : Part.codecs ∈ l) :
    sameBut l s (t.modCodec i f) ↔ sameBut l s t :=
  sameBut_drop (sameBut_mono (sameBut_modCodec _ _ _) (by simp [h]))
@[simp] theorem sameBut_modMch_iff (l : List Part) (s t : State) (i : Nat) (f : Mch → Mch) (h : Part.mchs ∈ l) :
    sameBut l s (t.modMch i f) ↔ sameBut l s t :=
  sameBut_drop (sameBut_mono (sameBut_modMch _ _ _) (by simp [h]))
@[simp] theorem sameBut_modEng_iff (l : List Part) (s t : State) (i : Nat) (f : Eng → Eng) (h : Part.engs ∈ l) :
    sameBut l s (t.modEng i f) ↔ sameBut l s t :=
  sameBut_drop (sameBut_mono (sameBut_modEng _ _ _) (by simp [h]))
@[simp] theorem sameBut_modLane_iff (l : List Part) (s t : State) (i : Nat) (f : Lane → Lane) (h : Part.lanes ∈ l) :
    sameBut l s (t.modLane i f) ↔ sameBut l s t :=
  sameBut_drop (sameBut_mono (sameBut_modLane _ _ _) (by simp [h]))
@[simp] theorem sameBut_modLnk_iff (l : List Part) (s t : State) (i : Nat) (f : Lnk → Lnk) (h : Part.lnks ∈ l) :
    sameBut l s (t.modLnk i f) ↔ sameBut l s t :=
  sameBut_drop (sameBut_mono (sameBut_modLnk _ _ _) (by simp [h]))
@[simp] theorem sameBut_modSink_iff (l : List Part) (s t : State) (i : Nat) (f : Sink → Sink) (h : Part.sinks ∈ l) :
    sameBut l s (t.modSink i f) ↔ sameBut l s t :=
  sameBut_drop (sameBut_mono (sameBut_modSink _ _ _) (by simp [h]))
@[simp] theorem sameBut_modNet_iff (l : List Part) (s t : State) (i : Nat) (f : Net → Net) (h : Part.nets ∈ l) :
    sameBut l s (t.modNet i f) ↔ sameBut l s t :=
  sameBut_drop (sameBut_mono (sameBut_modNet _ _ _) (by simp [h]))
@[simp] theorem sameBut_modQe_iff (l : List Part) (s t : State) (i : Nat) (f : Qe → Qe) (h : Part.qes ∈ l) :
    sameBut l s (t.modQe i f) ↔ sameBut l s t :=
  sameBut_drop (sameBut_mono (sameBut_modQe _ _ _) (by simp [h]))
@[simp] theorem sameBut_modEo_iff (l : List Part) (s t : State) (i : Nat) (f : Eo → Eo) (h : Part.eos ∈ l) :
    sameBut l s (t.modEo i f) ↔ sameBut l s t :=
  sameBut_drop (sameBut_mono (sameBut_modEo _ _ _) (by simp [h]))
@[simp] theorem sameBut_modTb_iff (l : List Part) (s t : State) (i : Nat) (f : Tb → Tb) (h : Part.tbs ∈ l) :
    sameBut l s (t.modTb i f) ↔ sameBut l s t :=
  sameBut_drop (sameBut_mono (sameBut_modTb _ _ _) (by simp [h]))
@[simp] theorem sameBut_modAx_iff (l : List Part) (s t : State) (i : Nat) (f : Axis → Axis) (h : Part.axes ∈ l) :
    sameBut l s (t.modAx i f) ↔ sameBut l s t :=
  sameBut_drop (sameBut_mono (sameBut_modAx _ _ _) (by simp [h]))

theorem sameRegs_drop {l : List Nat} {s t u : State} (h : sameRegs l t u) : sameRegs l s u ↔ sameRegs l s t :=
  ⟨fun k o ho => (h o ho).symm.trans (k o ho), fun k => sameRegs_trans k h⟩

@[simp] theorem sameRegs_self (l : List Nat) (s : State) : sameRegs l s s ↔ True := iff_true_intro (sameRegs_refl l s)

theorem sameRegs_wr_iff (l : List Nat) (s t : State) (a : Nat) (v : Word) (h : a ∈ l) :
    sameRegs l s (t.wr a v) ↔ sameRegs l s t :=
  sameRegs_drop fun o ho => rd_wr_ne t a o v fun e => ho (e ▸ h)
theorem sameRegs_set_iff (l : List Nat) (s t : State) (f : Fld) (v : Nat) (h : f.off ∈ l) :
    sameRegs l s (t.set f v) ↔ sameRegs l s t := sameRegs_wr_iff l s t _ _ h
theorem sameRegs_setFlag_iff (l : List Nat) (s t : State) (f : Fld) (c : Bool) (h : f.off ∈ l) :
    sameRegs l s (t.setFlag f c) ↔ sameRegs l s t := sameRegs_wr_iff l s t _ _ h
theorem sameRegs_wr64_iff (l : List Nat) (s t : State) (a v : Nat) (h : a ∈ l) (h' : a + 4 ∈ l) :
    sameRegs l s (t.wr64 a v) ↔ sameRegs l s t :=
  (sameRegs_wr_iff l s _ _ _ h').trans (sameRegs_wr_iff l s t _ _ h)
theorem sameRegs_bumpWrap_iff (l : List Nat) (s t : State) (a : Nat) (h : a ∈ l) :
    sameRegs l s (t.bumpWrap a) ↔ sameRegs l s t := sameRegs_wr_iff l s t _ _ h
theorem sameRegs_bumpSat_iff (l : List Nat) (s t : State) (a : Nat) (h : a ∈ l) :
    sameRegs l s (t.bumpSat a) ↔ sameRegs l s t :=
  sameRegs_drop fun o ho => (rd_bumpSat t a o).trans (if_neg fun e : a = o => ho (e ▸ h))
theorem sameRegs_add64_iff (l : List Nat) (s t : State) (a n : Nat) (h : a ∈ l) (h' : a + 4 ∈ l) :
    sameRegs l s (t.add64 a n) ↔ sameRegs l s t := sameRegs_wr64_iff l s t _ _ h h'
theorem sameRegs_addSat_iff (l : List Nat) (s t : State) (a n : Nat) (h : a ∈ l) :
    sameRegs l s (t.addSat a n) ↔ sameRegs l s t := sameRegs_wr_iff l s t _ _ h
theorem sameRegs_raise_iff (l : List Nat) (s t : State) (id inst : Nat) (arg : Word) (h : EVR_ALERT_PEND ∈ l) :
    sameRegs l s (t.raise id inst arg) ↔ sameRegs l s t := sameRegs_wr_iff l s t _ _ h
@[simp] theorem sameRegs_modBeam_iff (l : List Nat) (s t : State) (i : Nat) (f : Beam → Beam) :
    sameRegs l s (t.modBeam i f) ↔ sameRegs l s t := Iff.rfl
@[simp] theorem sameRegs_modPd_iff (l : List Nat) (s t : State) (i : Nat) (f : Pd → Pd) :
    sameRegs l s (t.modPd i f) ↔ sameRegs l s t := Iff.rfl
@[simp] theorem sameRegs_modPort_iff (l : List Nat) (s t : State) (i : Nat) (f : CamPort → CamPort) :
    sameRegs l s (t.modPort i f) ↔ sameRegs l s t := Iff.rfl
@[simp] theorem sameRegs_modCtx_iff (l : List Nat) (s t : State) (i : Nat) (f : CamCtx → CamCtx) :
    sameRegs l s (t.modCtx i f) ↔ sameRegs l s t := Iff.rfl
@[simp] theorem sameRegs_modCb_iff (l : List Nat) (s t : State) (i : Nat) (f : CleB → CleB) :
    sameRegs l s (t.modCb i f) ↔ sameRegs l s t := Iff.rfl
@[simp] theorem sameRegs_modCle_iff (l : List Nat) (s t : State) (i : Nat) (f : Cle → Cle) :
    sameRegs l s (t.modCle i f) ↔ sameRegs l s t := Iff.rfl
@[simp] theorem sameRegs_modPool_iff (l : List Nat) (s t : State) (i : Nat) (f : Pool → Pool) :
    sameRegs l s (t.modPool i f) ↔ sameRegs l s t := Iff.rfl
@[simp] theorem sameRegs_modBar_iff (l : List Nat) (s t : State) (i : Nat) (f : Barrier → Barrier) :
    sameRegs l s (t.modBar i f) ↔ sameRegs l s t := Iff.rfl
@[simp] theorem sameRegs_modDma_iff (l : List Nat) (s t : State) (i : Nat) (f : Dma → Dma) :
    sameRegs l s (t.modDma i f) ↔ sameRegs l s t := Iff.rfl
@[simp] theorem sameRegs_modCodec_iff (l : List Nat) (s t : State) (i : Nat) (f : Codec → Codec) :
    sameRegs l s (t.modCodec i f) ↔ sameRegs l s t := Iff.rfl
@[simp] theorem sameRegs_modMch_iff (l : List Nat) (s t : State) (i : Nat) (f : Mch → Mch) :
    sameRegs l s (t.modMch i f) ↔ sameRegs l s t := Iff.rfl
@[simp] theorem sameRegs_modEng_iff (l : List Nat) (s t : State) (i : Nat) (f : Eng → Eng) :
    sameRegs l s (t.modEng i f) ↔ sameRegs l s t := Iff.rfl
@[simp] theorem sameRegs_modLane_iff (l : List Nat) (s t : State) (i : Nat) (f : Lane → Lane) :
    sameRegs l s (t.modLane i f) ↔ sameRegs l s t := Iff.rfl
@[simp] theorem sameRegs_modLnk_iff (l : List Nat) (s t : State) (i : Nat) (f : Lnk → Lnk) :
    sameRegs l s (t.modLnk i f) ↔ sameRegs l s t := Iff.rfl
@[simp] theorem sameRegs_modSink_iff (l : List Nat) (s t : State) (i : Nat) (f : Sink → Sink) :
    sameRegs l s (t.modSink i f) ↔ sameRegs l s t := Iff.rfl
@[simp] theorem sameRegs_modNet_iff (l : List Nat) (s t : State) (i : Nat) (f : Net → Net) :
    sameRegs l s (t.modNet i f) ↔ sameRegs l s t := Iff.rfl
@[simp] theorem sameRegs_modQe_iff (l : List Nat) (s t : State) (i : Nat) (f : Qe → Qe) :
    sameRegs l s (t.modQe i f) ↔ sameRegs l s t := Iff.rfl
@[simp] theorem sameRegs_modEo_iff (l : List Nat) (s t : State) (i : Nat) (f : Eo → Eo) :
    sameRegs l s (t.modEo i f) ↔ sameRegs l s t := Iff.rfl
@[simp] theorem sameRegs_modTb_iff (l : List Nat) (s t : State) (i : Nat) (f : Tb → Tb) :
    sameRegs l s (t.modTb i f) ↔ sameRegs l s t := Iff.rfl
@[simp] theorem sameRegs_modAx_iff (l : List Nat) (s t : State) (i : Nat) (f : Axis → Axis) :
    sameRegs l s (t.modAx i f) ↔ sameRegs l s t := Iff.rfl

/-! ### Events -/

theorem rd_raise (s : State) (id inst : Nat) (arg : Word) (off : Nat) :
    (s.raise id inst arg).rd off =
      if EVR_ALERT_PEND = off then s.rd EVR_ALERT_PEND ||| (1#32 <<< alertRow id) else s.rd off :=
  rd_wr s EVR_ALERT_PEND off _

theorem rd_raise_ne (s : State) (id inst : Nat) (arg : Word) (off : Nat) (h : EVR_ALERT_PEND ≠ off) :
    (s.raise id inst arg).rd off = s.rd off := by rw [rd_raise, if_neg h]

theorem get_raise (s : State) (id inst : Nat) (arg : Word) (g : Fld) (h : EVR_ALERT_PEND ≠ g.off) :
    (s.raise id inst arg).get g = s.get g := by simp [State.get, rd_raise_ne _ _ _ _ _ h]

theorem flag_raise (s : State) (id inst : Nat) (arg : Word) (g : Fld) (h : EVR_ALERT_PEND ≠ g.off) :
    (s.raise id inst arg).flag g = s.flag g := by simp [State.flag, get_raise _ _ _ _ _ h]

theorem raise_evq (s : State) (id inst : Nat) (arg : Word) : (s.raise id inst arg).evq = s.evq := (rfl)

theorem raise_evNew (s : State) (id inst : Nat) (arg : Word) :
    ∃ e, (s.raise id inst arg).evNew = s.evNew ++ [e] ∧ e.id = id ∧ e.inst = inst ∧ e.arg = arg :=
  ⟨_, rfl, rfl, rfl, rfl⟩

/-- What entering the queue can change. -/
theorem enqueueEv_frame (s : State) (e : Ev) :
    (s.enqueueEv e).evNew = s.evNew ∧ sameBut [] s (s.enqueueEv e) ∧
    (∀ off, EVR_DROP ≠ off → (s.enqueueEv e).rd off = s.rd off) ∧
    (((s.enqueueEv e).evq = s.evq ++ [e] ∧ (s.enqueueEv e).evLoss = s.evLoss) ∨
      ((s.enqueueEv e).evq = s.evq ∧ (s.enqueueEv e).evLoss = true)) := by
  unfold State.enqueueEv
  by_cases h : s.evq.length < 64
  · rw [if_pos h]
    exact ⟨rfl, sameBut_of fun p => by cases p <;> rfl, fun _ _ => rfl, .inl ⟨rfl, rfl⟩⟩
  · rw [if_neg h]
    refine ⟨bumpSat_evNew s EVR_DROP, ?_, fun off hoff => ?_, .inr ⟨bumpSat_evq s EVR_DROP, rfl⟩⟩
    · exact sameBut_trans (sameBut_bumpSat s EVR_DROP) (sameBut_of fun p => by cases p <;> rfl)
    · exact (rd_bumpSat s EVR_DROP off).trans (if_neg hoff)

theorem mem_evInsert (e x : Ev) : ∀ l : List Ev, x ∈ evInsert e l ↔ x = e ∨ x ∈ l
  | [] => by simp [evInsert]
  | y :: ys => by
    unfold evInsert
    split
    · rw [List.mem_cons, mem_evInsert e x ys, List.mem_cons]
      constructor
      · rintro (h | h | h) <;> simp [h]
      · rintro (h | h | h) <;> simp [h]
    · rw [List.mem_cons]

theorem mem_evSort (x : Ev) (l : List Ev) : x ∈ evSort l ↔ x ∈ l := by
  have key : ∀ (l acc : List Ev), x ∈ l.foldl (fun acc e => evInsert e acc) acc ↔ x ∈ l ∨ x ∈ acc := by
    intro l
    induction l with
    | nil => simp
    | cons y ys ih =>
      intro acc
      rw [List.foldl_cons, ih, mem_evInsert, List.mem_cons]
      constructor
      · rintro (h | h | h) <;> simp [h]
      · rintro ((h | h) | h) <;> simp [h]
  rw [evSort, key]
  simp

/-- Everything that a run of events into the queue can change, and what it records. -/
theorem enqueueAll_frame : ∀ (l : List Ev) (s : State),
    (l.foldl State.enqueueEv s).evNew = s.evNew ∧ sameBut [] s (l.foldl State.enqueueEv s) ∧
    (∀ off, EVR_DROP ≠ off → (l.foldl State.enqueueEv s).rd off = s.rd off) ∧
    (∃ q, (l.foldl State.enqueueEv s).evq = s.evq ++ q ∧
      ∀ e ∈ l, e ∈ q ∨ (l.foldl State.enqueueEv s).evLoss = true) ∧
    (s.evLoss = true → (l.foldl State.enqueueEv s).evLoss = true)
  | [], s => ⟨rfl, sameBut_refl _ s, fun _ _ => rfl, ⟨[], by simp⟩, id⟩
  | e :: es, s => by
    obtain ⟨h1, h2, h3, h4⟩ := enqueueEv_frame s e
    obtain ⟨i1, i2, i3, ⟨q, i4, i5⟩, i6⟩ := enqueueAll_frame es (s.enqueueEv e)
    simp only [List.foldl_cons]
    refine ⟨i1.trans h1, sameBut_trans h2 i2, fun off ho => (i3 off ho).trans (h3 off ho), ?_, ?_⟩
    · rcases h4 with ⟨hq, _⟩ | ⟨hq, hl⟩
      · refine ⟨e :: q, by rw [i4, hq]; simp, fun x hx => ?_⟩
        rcases List.mem_cons.mp hx with rfl | hx
        · exact .inl (List.mem_cons_self ..)
        · exact (i5 x hx).imp_left (List.mem_cons_of_mem _)
      · refine ⟨q, by rw [i4, hq], fun x hx => ?_⟩
        rcases List.mem_cons.mp hx with rfl | hx
        · exact .inr (i6 hl)
        · exact i5 x hx
    · intro hs
      rcases h4 with ⟨_, hl⟩ | ⟨_, hl⟩
      · exact i6 (hl.trans hs)
      · exact i6 hl

theorem flush_evNew (s : State) : s.flush.evNew = [] := (enqueueAll_frame _ _).1
theorem sameBut_flush (s : State) : sameBut [] s s.flush := sameBut_trans (sameBut_of fun p => by cases p <;> rfl) (enqueueAll_frame _ _).2.1
theorem rd_flush (s : State) (off : Nat) (h : EVR_DROP ≠ off) : s.flush.rd off = s.rd off :=
  (enqueueAll_frame _ _).2.2.1 off h
theorem get_flush (s : State) (g : Fld) (h : EVR_DROP ≠ g.off) : s.flush.get g = s.get g := by
  simp [State.get, rd_flush _ _ h]
theorem flag_flush (s : State) (g : Fld) (h : EVR_DROP ≠ g.off) : s.flush.flag g = s.flag g := by
  simp [State.flag, get_flush _ _ h]
theorem rd64_flush (s : State) (lo : Nat) (h : EVR_DROP ≠ lo) (h' : EVR_DROP ≠ lo + 4) : s.flush.rd64 lo = s.rd64 lo := by
  simp [State.rd64, State.rdN, rd_flush _ _ h, rd_flush _ _ h']

/-- An event of the step is recorded when the step ends. -/
theorem recorded_flush (s u : State) (id inst : Nat) (e : Ev) (he : e ∈ u.evNew) (hid : e.id = id) (hi : e.inst = inst)
    (hq : u.evq = s.evq) (hp : bitOf (u.rdN EVR_ALERT_PEND) (alertRow id) = true) : recorded s u.flush id inst := by
  refine ⟨?_, ?_⟩
  · have : u.flush.rd EVR_ALERT_PEND = u.rd EVR_ALERT_PEND := rd_flush _ _ (by decide)
    simpa [State.rdN, this] using hp
  · obtain ⟨q, h1, h2⟩ := (enqueueAll_frame (evSort u.evNew) { u with evNew := [], ssNow := 0, seen := [] }).2.2.2.1
    rcases h2 e ((mem_evSort e u.evNew).mpr he) with h | h
    · refine .inl ⟨e, ?_, hid, hi⟩
      have : u.flush.evq = s.evq ++ q := by
        show (List.foldl State.enqueueEv _ _).evq = _
        rw [h1]
        simp [hq]
      rw [this, List.drop_left]
      exact h
    · exact .inr h

/-- The alert bit of an event is set once it is raised. -/
theorem bitOf_raise (s : State) (id inst : Nat) (arg : Word) (h : id < 0x400) :
    bitOf ((s.raise id inst arg).rdN EVR_ALERT_PEND) (alertRow id) = true := by
  have hr : alertRow id < 32 := by unfold alertRow; split <;> omega
  have : (s.rd EVR_ALERT_PEND ||| (1#32 <<< alertRow id)).getLsbD (alertRow id) = true := by
    simp [hr]
  unfold bitOf State.rdN
  rw [rd_raise, if_pos rfl, beq_iff_eq]
  rw [← BitVec.testBit_toNat, Nat.testBit_eq_decide_div_mod_eq] at this
  simpa using this

/-! ### Accepted writes -/

theorem forN_induct {P : State → Prop} (n : Nat) (f : Nat → State → State) (h : ∀ i t, i < n → P t → P (f i t)) (s : State)
    (hs : P s) : P (forN n f s) := by
  unfold forN
  have key : ∀ (l : List Nat) (s : State), (∀ i ∈ l, i < n) → P s → P (l.foldl (fun t i => f i t) s) := by
    intro l
    induction l with
    | nil => exact fun _ _ h => h
    | cons x xs ih =>
      intro s hl hs
      exact ih _ (fun i hi => hl i (List.mem_cons_of_mem _ hi)) (h x s (hl x (List.mem_cons_self ..)) hs)
  exact key _ s (fun i hi => List.mem_range.mp hi) hs

/-- What a perturbation point can change. -/
theorem tstHit_frame (s : State) (p i : Nat) :
    (s.tstHit p i).evNew = s.evNew ∧ (s.tstHit p i).evq = s.evq ∧ (s.tstHit p i).tstArmed = s.tstArmed ∧
    sameBut [] s (s.tstHit p i) ∧
    ∀ off, (∀ k, k < 8 → TST_PT_CNT k ≠ off) → (s.tstHit p i).rd off = s.rd off := by
  unfold State.tstHit
  refine forN_induct (P := fun t => t.evNew = s.evNew ∧ t.evq = s.evq ∧ t.tstArmed = s.tstArmed ∧
    sameBut [] s t ∧ ∀ off, (∀ k, k < 8 → TST_PT_CNT k ≠ off) → t.rd off = s.rd off)
    8 _ ?_ s ⟨rfl, rfl, rfl, sameBut_refl _ s, fun _ _ => rfl⟩
  rintro k t hk ⟨h1, h2, h3, h4, h5⟩
  dsimp only
  split
  · split
    · refine ⟨h1, h2, h3, sameBut_trans h4 (sameBut_of fun p => by cases p <;> rfl), fun off ho => ?_⟩
      rw [rd_bumpWrap, if_neg (ho k hk)]
      exact h5 off ho
    · exact ⟨h1, h2, h3, sameBut_trans h4 (sameBut_of fun p => by cases p <;> rfl), h5⟩
  · exact ⟨h1, h2, h3, h4, h5⟩

/-- What the unlock sequence can change. -/
theorem tstWatch_frame (s : State) (off : Nat) (v : Word) :
    (∃ l, (s.tstWatch off v).evNew = s.evNew ++ l) ∧ (s.tstWatch off v).evq = s.evq ∧
    sameBut [] s (s.tstWatch off v) ∧
    ∀ o, EVR_ALERT_PEND ≠ o → TST_STATUS ≠ o → (s.tstWatch off v).rd o = s.rd o := by
  unfold State.tstWatch
  split
  · split
    · refine ⟨⟨_, rfl⟩, rfl, sameBut_of fun p => by cases p <;> rfl, fun o h1 h2 => ?_⟩
      rw [rd_raise_ne _ _ _ _ _ h1]
      exact rd_set_ne _ _ _ _ h2
    · refine ⟨⟨_, rfl⟩, rfl, sameBut_of fun p => by cases p <;> rfl, fun o h1 h2 => ?_⟩
      rw [rd_raise_ne _ _ _ _ _ h1]
      rfl
  · exact ⟨⟨[], by simp⟩, rfl, sameBut_of fun p => by cases p <;> rfl, fun _ _ _ => rfl⟩

/-- Everything that the acceptance of a register write can change. -/
theorem accepted_frame (s : State) (off : Nat) (v : Word) :
    (∃ l, (s.accepted off v).evNew = s.evNew ++ l) ∧ (s.accepted off v).evq = s.evq ∧
    sameBut [] s (s.accepted off v) ∧ ∀ o, o ∉ wrRegs → (s.accepted off v).rd o = s.rd o := by
  obtain ⟨h1, h2, h3, h4, h5⟩ := tstHit_frame s 9 0
  obtain ⟨⟨l, k1⟩, k2, k3, k4⟩ := tstWatch_frame (s.tstHit 9 0) off v
  refine ⟨⟨l, ?_⟩, k2.trans h2, sameBut_trans h4 k3, fun o ho => ?_⟩
  · exact k1.trans (by rw [h1])
  · simp only [wrRegs, List.mem_cons, List.not_mem_nil, or_false, not_or] at ho
    obtain ⟨a1, a2, a3, b0, b1, b2, b3, b4, b5, b6, b7⟩ := ho
    unfold State.accepted
    rw [k4 o (Ne.symm a1) (Ne.symm a3), h5 o]
    intro k hk
    have : k = 0 ∨ k = 1 ∨ k = 2 ∨ k = 3 ∨ k = 4 ∨ k = 5 ∨ k = 6 ∨ k = 7 := by omega
    rcases this with rfl | rfl | rfl | rfl | rfl | rfl | rfl | rfl <;> exact Ne.symm (by assumption)

theorem rd_accepted (s : State) (a off : Nat) (v : Word) (h : off ∉ wrRegs) : (s.accepted a v).rd off = s.rd off :=
  (accepted_frame s a v).2.2.2 off h
theorem get_accepted (s : State) (a : Nat) (v : Word) (g : Fld) (h : g.off ∉ wrRegs) : (s.accepted a v).get g = s.get g := by
  simp [State.get, rd_accepted _ _ _ _ h]
theorem flag_accepted (s : State) (a : Nat) (v : Word) (g : Fld) (h : g.off ∉ wrRegs) : (s.accepted a v).flag g = s.flag g := by
  simp [State.flag, get_accepted _ _ _ _ h]
theorem sameBut_accepted (s : State) (a : Nat) (v : Word) : sameBut [] s (s.accepted a v) := (accepted_frame s a v).2.2.1

/-! ### The frame of a step -/

theorem run_alive {s : State} (f : State → State) (h : s.alive = true) : run f s = .next (f s).flush := by
  rw [run, if_pos h]

theorem run_held {s : State} (f : State → State) (h : s.alive = false) : run f s = .next s := by
  rw [run, h]; rfl

theorem State.up_alive {s : State} (h : s.up = true) : s.alive = true := by
  unfold State.up at h
  exact (Bool.and_eq_true _ _ ▸ h).1

theorem runReg_up {s : State} (off : Nat) (v : Word) (f : State → State) (h : s.up = true) :
    runReg off v f s = .next (f (s.accepted off v)).flush := by
  rw [runReg, run_alive _ (State.up_alive h), if_pos h]

theorem runReg_down {s : State} (off : Nat) (v : Word) (f : State → State) (h : s.alive = true) (hu : s.up = false) :
    runReg off v f s = .next s.flush := by
  rw [runReg, run_alive _ h, hu]; rfl

theorem runSeen_alive {s : State} (x : Seen) (f : State → State) (h : s.alive = true) :
    runSeen x f s = .next (f { s with seen := x }).flush := run_alive _ h

theorem runLaneReg_up {s : State} (off : Nat) (v : Word) (f : State → State) (h : s.up = true) (hd : s.dark off = false) :
    runLaneReg off v f s = .next (f (s.accepted off v)).flush := by
  rw [runLaneReg, run_alive _ (State.up_alive h), if_pos h, if_neg (by simp [hd])]

/-- A write of a lane register without its clock times out (R564). -/
theorem runLaneReg_dark {s : State} (off : Nat) (v : Word) (f : State → State) (h : s.up = true) (hd : s.dark off = true) :
    runLaneReg off v f s = .next (s.fabTimeout off).flush := by
  rw [runLaneReg, run_alive _ (State.up_alive h), if_pos h, if_pos hd]

@[simp] theorem sameBut_flush_iff (l : List Part) (s t : State) : sameBut l s t.flush ↔ sameBut l s t :=
  sameBut_nil_drop (sameBut_flush t)
@[simp] theorem sameBut_accepted_iff (l : List Part) (s t : State) (a : Nat) (v : Word) :
    sameBut l s (t.accepted a v) ↔ sameBut l s t := sameBut_nil_drop (sameBut_accepted _ _ _)
theorem sameRegs_flush_iff (l : List Nat) (s t : State) (h : EVR_DROP ∈ l) : sameRegs l s t.flush ↔ sameRegs l s t :=
  sameRegs_drop fun o ho => rd_flush t o fun e => ho (e ▸ h)
theorem sameRegs_accepted_iff (l : List Nat) (s t : State) (a : Nat) (v : Word) (h : ∀ o ∈ wrRegs, o ∈ l) :
    sameRegs l s (t.accepted a v) ↔ sameRegs l s t :=
  sameRegs_drop fun o ho => rd_accepted t a o v fun e => ho (h o e)

theorem sameRegs_flush {l : List Nat} {s u : State} (h : sameRegs l s u) (hd : EVR_DROP ∈ l) : sameRegs l s u.flush :=
  fun off ho => (rd_flush u off fun e => ho (e ▸ hd)).trans (h off ho)

end Sys2Proof.Machine
end

