-- ==== Sys2Proof/Laws/Issue.lean ====
section
/-! SUPPORT. Laws of the issue of instructions by a Scan Engine. -/

namespace Sys2Proof.Machine

theorem fldIns_beside (lo w : Nat) (x : Word) (v : Nat) :
    fldIns lo w x v &&& ~~~(((1#32 <<< w) - 1#32) <<< lo) = x &&& ~~~(((1#32 <<< w) - 1#32) <<< lo) := by
  unfold fldIns
  generalize (((1#32 <<< w) - 1#32) <<< lo : Word) = m
  generalize (BitVec.ofNat 32 v <<< lo : Word) = y
  ext i hi
  simp only [BitVec.getElem_and, BitVec.getElem_or, BitVec.getElem_not]
  cases x[i] <;> cases y[i] <;> cases m[i] <;> rfl

/-- Setting a field keeps every bit of the register outside it. -/
theorem rd_set_beside (s : State) (f : Fld) (v off : Nat) : (s.set f v).rd off &&& ~~~fldMask f = s.rd off &&& ~~~fldMask f := by
  rw [rd_set]
  split
  · exact fldIns_beside _ _ _ _
  · rfl

/-- An instruction that issues takes effect by its meaning, once the words ahead of it are fetched. -/
theorem run_issue {s : State} {b op n : Nat} {m : Option Nat} {x : BitVec 64}
    (f : BitVec 64 → State → State) (h : s.issues b op m x) :
    run (fun t => t.issue b op m n f) s = .next (f x (s.primed b n)).flush := by
  obtain ⟨h1, h2, h3, h4, h5, h6⟩ := h
  rw [run_alive _ h1]
  congr 2
  unfold State.issue State.fetch
  rw [if_pos h2]
  have hm : (m.any fun k => k != iM x) = false := by
    cases m with
    | none => rfl
    | some k => simp [h5 k rfl]
  simp [h3, h4, hm, h6, State.primed]

/-- Fetching ahead changes the words held, and nothing else (R120). -/
theorem primed_eq (s : State) (b n : Nat) : s.primed b n = { s with fetched := (s.primed b n).fetched } := rfl

@[simp] theorem primed_rd (s : State) (b n off : Nat) : (s.primed b n).rd off = s.rd off := rfl
@[simp] theorem primed_get (s : State) (b n : Nat) (f : Fld) : (s.primed b n).get f = s.get f := rfl
@[simp] theorem primed_flag (s : State) (b n : Nat) (f : Fld) : (s.primed b n).flag f = s.flag f := rfl
@[simp] theorem primed_eng (s : State) (b n c : Nat) : (s.primed b n).eng c = s.eng c := rfl
@[simp] theorem primed_beam (s : State) (b n c : Nat) : (s.primed b n).beam c = s.beam c := rfl
@[simp] theorem primed_lmem (s : State) (b n : Nat) : (s.primed b n).lmem = s.lmem := rfl

theorem words_setWords (s : State) (b c : Nat) (l : List (Nat × BitVec 64)) :
    (s.setWords b l).words c = if b = c then l else s.words c := tabGet_tabSet _ _ _ _ _

end Sys2Proof.Machine
end

