-- ==== Sys2Proof/WellFormed.lean ====
section
/-! DEFINITION. Which commands can occur: the checks on their operands that the types do not make. -/

namespace Sys2Proof

/-- What arrives as a command frame fits an Ethernet frame (R317, R318, R488); its own checks are the machine's. -/
def frameOk (f : List Byte) : Bool := decide (f.length ≤ 1518)

/-- What arrives as a packet has its START block in front (R467). -/
def wireOk (b : List LnkBlock) : Bool := b.head? |>.any fun x => x.ctl && x.word.toNat % 256 == 0x78

/-- An Ethernet frame with its header and FCS. -/
def ethOk (f : List Byte) : Bool := decide (14 ≤ f.length ∧ f.length ≤ 1518)

/-- Can the command occur? -/
def Instr.wf : Instr → Bool
  | .dramRequest r => decide (1 ≤ r.len ∧ r.addr.toNat + r.len ≤ 2 ^ 40) && r.data.all fun d => d.length == r.len
  | .pixelLine _ payload _ => decide (payload.length < 65536)
  | .embeddedData k | .camUnknown k => decide (k.payload.length < 65536)
  | .cap _ _ c => c.lanes == 2 || c.lanes == 4
  | .credit _ t _ => decide (t ≤ 1)
  | .ping _ f | .readReg _ f | .writeReg _ f | .snap _ f | .batchLoad _ f | .batchArm _ f
  | .batchStart _ f | .batchHold _ f | .batchResume _ f | .batchAbort _ f | .batchStatus _ f | .safeStop _ f | .beamRestart _ f
  | .cancel _ f | .journalRead _ f | .session _ f | .badOpcode _ f => frameOk f
  | .readMem _ f | .writeMem _ f => frameOk f.val
  | .ethCmdForward _ _ f => frameOk f
  | .cmd _ b | .rsp _ b | .bcast _ b | .event _ b => wireOk b
  | .arpRequest _ f | .icmpEchoRequest _ f | .neighbourSolicitation _ f | .ptpFrame _ f _ => ethOk f
  | .thermalSample t => t.length == 12
  | .vmSample mv => mv.length == 16
  | .registerWrite off _ => off.toNat % 4 == 0
  | .fabricTimeout off _ => off.toNat % 4 == 0
  | _ => true

end Sys2Proof
end

