-- ==== Sys2Proof/Tests/Slice0.lean ====
section
/-! SUPPORT. Tests: the checks of WellFormed, single steps whose results the manual states, and for each statement a state and
operands that meet its hypotheses. -/

namespace Sys2Proof.Tests

open Sys2Proof Sys2Proof.Machine

set_option Elab.async false

/-! ### Ill-formed commands are refused -/

/-- An instruction word from its fields (R132). -/
def word (op m a b h l : Nat) : BitVec 64 :=
  BitVec.ofNat 64 (op * 2 ^ 58 + m * 2 ^ 56 + a * 2 ^ 52 + b * 2 ^ 48 + h * 2 ^ 24 + l)

/-- A packet of a type, for device 3. -/
def pkt (ty : Nat) (payload : List Byte) : LnkPkt :=
  { ty := BitVec.ofNat 4 ty, host := false, hops := 0, dest := 3, src := 0, tag := 0, payload := payload }

theorem test_wf_frame_too_long : (Instr.ping 0 (List.replicate 1519 0)).wf = false := by decide +kernel
theorem test_wf_frame_longest : (Instr.ping 0 (List.replicate 1518 0)).wf = true := by decide +kernel
theorem test_wf_frame_for_another_device_too_long : (Instr.ethCmdForward 0 ⟨0, 0⟩ (List.replicate 1519 0)).wf = false := by decide +kernel
theorem test_wf_packet_without_start : (Instr.cmd 0 ((pktBlocks (pkt 1 [])).drop 1)).wf = false := by decide +kernel
theorem test_wf_packet : (Instr.rsp 0 (pktBlocks (pkt 2 []))).wf = true := by decide +kernel
theorem test_wf_ethernet_frame_too_short : (Instr.arpRequest 0 (List.replicate 13 0)).wf = false := by decide +kernel
theorem test_wf_ethernet_frame_too_long : (Instr.ptpFrame 0 (List.replicate 1519 0) 0).wf = false := by decide +kernel
theorem test_wf_request_of_nothing : (Instr.dramRequest ⟨0, true, 60, 0, none⟩).wf = false := by decide +kernel
theorem test_wf_request_across_blocks : (Instr.dramRequest ⟨0, true, 60, 8, none⟩).wf = true := by decide +kernel
theorem test_wf_request_of_another_length : (Instr.dramRequest ⟨0, true, 0, 8, some [1]⟩).wf = false := by decide +kernel
theorem test_wf_line_too_long : (Instr.pixelLine ⟨7, 0⟩ (List.replicate 65536 0) 0).wf = false := by decide +kernel
theorem test_wf_cap_lanes : (Instr.cap 0 true { (default : CapInfo) with lanes := 3 }).wf = false := by decide +kernel
theorem test_wf_credit_of_two_packets : (Instr.credit 0 2 0).wf = false := by decide +kernel
theorem test_wf_thermal_sample_short : (Instr.thermalSample [1]).wf = false := by decide +kernel
theorem test_wf_voltage_sample_short : (Instr.vmSample [1]).wf = false := by decide +kernel
theorem test_wf_register_offset : (Instr.registerWrite 2 ⟨0, false⟩).wf = false := by decide +kernel
theorem test_wf_timeout_offset : (Instr.fabricTimeout 3 false).wf = false := by decide +kernel

/-! ### States for the witnesses -/

/-- The machine after reset with its fabric up. -/
def on : State := { State.reset with fabricUp := true }

/-- `on` with some fields set. -/
def put (l : List (Fld × Nat)) : State := l.foldl (fun s x => s.set x.1 x.2) on

/-- Engine 0 runs and can issue, and its pages 0 and 1 are present. -/
def runs : State := put [(SCN_STATUS_RUN 0, 1), (⟨SCN_PAGE_LO 0, 0, 2⟩, 3)]

/-- That engine with a word fetched ahead at its PC. -/
def held (x : BitVec 64) : State := runs.setWords 0 [(0, x)]

/-- A word issues where its parts can be checked. -/
theorem issues_of {s : State} {b op : Nat} {m : Option Nat} {x : BitVec 64}
    (h : (s.alive && s.mayIssue b && (s.wordAt b (s.get (SCN_PC_PC b)) == some x) && (iOp x == op) && (m.all fun k => iM x == k)
      && !illegalWord x) = true) : s.issues b op m x := by
  simp only [Bool.and_eq_true, beq_iff_eq, Bool.not_eq_true'] at h
  obtain ⟨⟨⟨⟨⟨h1, h2⟩, h3⟩, h4⟩, h5⟩, h6⟩ := h
  refine ⟨h1, h2, h3, h4, ?_, h6⟩
  rintro k rfl
  simpa using h5

/-- A command frame with its two checks (R318). -/
def frame (op flags seq at_ : Nat) (args : List Byte) : List Byte :=
  let head := leBytes 2 0x574B ++ leBytes 1 1 ++ leBytes 1 flags ++ leBytes 2 op ++ leBytes 2 0 ++ leBytes 4 seq ++
    leBytes 2 args.length ++ leBytes 2 0 ++ leBytes 8 at_ ++ leBytes 4 0
  head ++ leBytes 4 (crc32c (head ++ args)).toNat ++ args

/-- The command function is READY, and the management processor may send. -/
def ready : State := put [(MGT_CMD_STATUS_STATE, 2)]

/-- Camera port 7 is READY, and context 35 on it. -/
def cam : State := put [(CAM_CP_STATUS_STATE 7, 2), (CAM_CTX_STATUS_STATE 35, 2), (CAM_CTX_CTRL_PORT 35, 7), (CAM_CTX_GEOM_W 35, 8), (CAM_CTX_GEOM_H 35, 2), (CAM_CTX_CTRL_DT 35, 1)]

/-- A packet header of port 7 on virtual channel 0 for a line of 8 pixels in RAW10, with its check bits and some bits inverted. -/
def hdr (dt flip : Nat) : CsiHdr :=
  let h : CsiHdr := ⟨7, BitVec.ofNat 32 (dt + 10 * 2 ^ 8)⟩
  { h with word := (h.word ||| BitVec.ofNat 32 (h.syndrome * 2 ^ 24)) ^^^ BitVec.ofNat 32 flip }

/-- Context 35 with a frame open. -/
def filming : State := cam.modCtx 35 fun x => { x with frames := [{ (default : CamFrame) with open_ := true }] }

/-- Both DRAM channels are READY, with every rank filled. -/
def dram : State :=
  put [(MEM_M_STATUS_STATE 0, 2), (MEM_M_STATUS_STATE 1, 2), (MEM_M_CFG_RANKS 0, 1), (MEM_M_CFG_RANKS 1, 1)]

/-! ### States and operands that meet the hypotheses of the statements -/

theorem test_met_DataInstructions :
    (held (word 0x28 1 15 0 255 16777215)).issues 0 0x28 none (word 0x28 1 15 0 255 16777215) ∧
    (held (word 0x29 0 0 15 0 0)).issues 0 0x29 none (word 0x29 0 0 15 0 0) ∧
    (held (word 0x2A 1 1 0 0 1)).issues 0 0x2A none (word 0x2A 1 1 0 0 1) ∧
    (held (word 0x2B 0 1 2 0 0)).issues 0 0x2B none (word 0x2B 0 1 2 0 0) ∧
    (held (word 0x2C 1 1 0 0 0)).issues 0 0x2C none (word 0x2C 1 1 0 0 0) ∧
    (held (word 0x2F 0 1 1 0 0)).issues 0 0x2F none (word 0x2F 0 1 1 0 0) ∧
    (held (word 0x2D 1 1 0 0 31)).issues 0 0x2D none (word 0x2D 1 1 0 0 31) ∧
    (held (word 0x2E 2 1 2 0 0)).issues 0 0x2E none (word 0x2E 2 1 2 0 0) := by
  refine ⟨?_, ?_, ?_, ?_, ?_, ?_, ?_, ?_⟩ <;> exact issues_of (by decide +kernel)

theorem test_met_LoadStoreInstructions :
    (held (word 0x30 1 0 0 0 0xFFFC)).issues 0 0x30 none (word 0x30 1 0 0 0 0xFFFC) ∧
    (held (word 0x31 0 0 1 0 0xFFFF)).issues 0 0x31 none (word 0x31 0 0 1 0 0xFFFF) := by
  refine ⟨?_, ?_⟩ <;> exact issues_of (by decide +kernel)

/-- Address 0 is on a page that is present, 0xFFFC on one that is not. -/
theorem test_LoadStore_cases :
    runs.present 0 0 = true ∧ runs.present 0 0xFFFC = false := by decide +kernel

theorem test_met_ControlFlowInstructions :
    (held (word 0x24 1 0 0 0 0xFFF8)).issues 0 0x24 none (word 0x24 1 0 0 0 0xFFF8) ∧
    (held (word 0x25 1 0 11 0 8)).issues 0 0x25 none (word 0x25 1 0 11 0 8) ∧
    (held (word 0x20 0 0 0 0 0)).issues 0 0x20 none (word 0x20 0 0 0 0 0) ∧
    (held (word 0x21 0 0 0 0 0)).issues 0 0x21 none (word 0x21 0 0 0 0 0) ∧
    (held (word 0x22 1 0 0 16777215 8)).issues 0 0x22 none (word 0x22 1 0 0 16777215 8) ∧
    (held (word 0x23 0 0 0 0 0)).issues 0 0x23 none (word 0x23 0 0 0 0 0) := by
  refine ⟨?_, ?_, ?_, ?_, ?_, ?_⟩ <;> exact issues_of (by decide +kernel)

theorem test_met_CourtInstructions :
    (held (word 0x11 0 0 1 0 0)).issues 0 0x11 none (word 0x11 0 0 1 0 0) ∧
    (held (word 0x12 0 0 0 0xFFFFFF 0)).issues 0 0x12 none (word 0x12 0 0 0 0xFFFFFF 0) ∧
    (held (word 0x13 0 0 0 0 0)).issues 0 0x13 (some 0) (word 0x13 0 0 0 0 0) ∧
    (held (word 0x13 1 0 0 0 0)).issues 0 0x13 (some 1) (word 0x13 1 0 0 0 0) ∧
    (held (word 0x14 0 0 0 0 63)).issues 0 0x14 (some 0) (word 0x14 0 0 0 0 63) ∧
    (held (word 0x14 1 15 0 0 0)).issues 0 0x14 (some 1) (word 0x14 1 15 0 0 0) ∧
    (held (word 0x15 0 0 0 0 0)).issues 0 0x15 none (word 0x15 0 0 0 0 0) := by
  refine ⟨?_, ?_, ?_, ?_, ?_, ?_, ?_⟩ <;> exact issues_of (by decide +kernel)

theorem test_met_CouplingInstructions :
    (held (word 0x34 1 0 1 0 65535)).issues 0 0x34 none (word 0x34 1 0 1 0 65535) ∧
    (held (word 0x35 0 0 0 0 0)).issues 0 0x35 none (word 0x35 0 0 0 0 0) ∧
    (held (word 0x38 1 0 1 0 16777215)).issues 0 0x38 none (word 0x38 1 0 1 0 16777215) ∧
    (held (word 0x39 1 0 0 0 65535)).issues 0 0x39 none (word 0x39 1 0 0 0 65535) ∧
    (held (word 0x3A 1 0 0 0 0)).issues 0 0x3A none (word 0x3A 1 0 0 0 0) := by
  refine ⟨?_, ?_, ?_, ?_, ?_⟩ <;> exact issues_of (by decide +kernel)

/-- R133: opcode 0 is not assigned. -/
theorem test_met_illegal :
    runs.alive = true ∧ runs.mayIssue 0 = true ∧ illegalWord (word 0 0 0 0 0 0) = true ∧ illegalWord (word 0x25 1 0 12 0 0) = true := by decide +kernel

theorem test_met_WaitingInstructions :
    (held (word 0x10 1 0 0 0 16777215)).issues 0 0x10 none (word 0x10 1 0 0 0 16777215) ∧
    (held (word 0x18 0 0 0 0 15)).issues 0 0x18 (some 0) (word 0x18 0 0 0 0 15) ∧
    (held (word 0x18 1 0 0 16777215 0)).issues 0 0x18 (some 1) (word 0x18 1 0 0 16777215 0) := by
  refine ⟨?_, ?_, ?_⟩ <;> exact issues_of (by decide +kernel)

theorem test_met_SyncTimeout :
    (∀ w ∈ [Wait.syncB 3 (some 0), Wait.syncF 15 (some 0)],
      let s := runs.modEng 0 fun e => { e with wait := w };
      s.alive = true ∧ s.running 0 = true ∧ (s.eng 0).wait = w) := by decide +kernel

theorem test_met_SettingInstructions :
    (held (word 0x05 3 0 0 16777215 500000)).issues 0 0x05 none (word 0x05 3 0 0 16777215 500000) ∧
    (held (word 0x06 1 0 0 0 65535)).issues 0 0x06 none (word 0x06 1 0 0 0 65535) ∧
    (held (word 0x07 1 0 0 0 0)).issues 0 0x07 none (word 0x07 1 0 0 0 0) ∧
    (held (word 0x08 1 0 0 0 1)).issues 0 0x08 none (word 0x08 1 0 0 0 1) ∧
    (held (word 0x04 1 0 0 0 0)).issues 0 0x04 (some 1) (word 0x04 1 0 0 0 0) := by
  refine ⟨?_, ?_, ?_, ?_, ?_⟩ <;> exact issues_of (by decide +kernel)

theorem test_met_ExposureInstructions :
    (held (word 0x01 3 0 1 0 0)).issues 0 0x01 none (word 0x01 3 0 1 0 0) ∧
    (held (word 0x02 2 0 1 0 0xFFF0)).issues 0 0x02 none (word 0x02 2 0 1 0 0xFFF0) ∧
    (held (word 0x03 0 0 1 0 1)).issues 0 0x03 none (word 0x03 0 0 1 0 1) ∧
    (held (word 0x09 1 0 0 0 16777215)).issues 0 0x09 none (word 0x09 1 0 0 0 16777215) ∧
    (held (word 0x04 0 0 1 0 0)).issues 0 0x04 (some 0) (word 0x04 0 0 1 0 0) := by
  refine ⟨?_, ?_, ?_, ?_, ?_⟩ <;> exact issues_of (by decide +kernel)

theorem test_met_EngineFunction :
    on.up = true := by decide +kernel

/-- The buffer has room in the first state and is full in the second. -/
theorem test_met_PointCompute :
    (∀ n ∈ [0, 1],
      let s := runs.modEng 0 fun e => { e with seg := .hold ⟨5, 6, 7⟩ ⟨0, 0, 0⟩, te := 655360, buf := List.replicate n default };
      s.alive = true ∧ s.running 0 = true ∧ (s.eng 0).stopped = false ∧ (s.eng 0).owns = true ∧ (s.eng 0).ready = none ∧
        ((s.eng 0).ppv ≤ (s.eng 0).buf.length ↔ n = 1)) := by decide +kernel

theorem test_met_TakeBytes :
    (let k : Take := { pool := 0, addr := 32, result := some 4095, bytes := List.replicate 32 1, vis := true, written := false };
      let s := runs.modEng 0 fun e => { e with take := some k };
      let u := s.modEng 0 fun e => { e with wait := .pullw 15 };
      s.alive = true ∧ s.running 0 = true ∧ (s.eng 0).take = some k ∧ (s.eng 0).wait = .none ∧
        u.alive = true ∧ u.running 0 = true ∧ (u.eng 0).take = some k ∧ (u.eng 0).wait = .pullw 15) := by decide +kernel

/-- The last node, the first number above it, a running engine, and one in the cycle in which it starts. -/
theorem test_met_GridAccess :
    (put [(BIO_GRID_ADDR_ADDR 31, 4224)]).up = true ∧ (put [(BIO_GRID_ADDR_ADDR 31, 4224)]).get (BIO_GRID_ADDR_ADDR 31) = 4224 ∧
      (put [(BIO_GRID_ADDR_ADDR 31, 4225)]).get (BIO_GRID_ADDR_ADDR 31) = 4225 ∧ on.running 0 = false ∧ on.ssInProgress 0 = false ∧
      bitOf on.starting 0 = false ∧ bitOf ({ on with starting := 1 } : State).starting 0 = true ∧
      runs.up = true ∧ runs.running 0 = true := by decide +kernel

/-- OFF; running in READY; idle in READY; FAULT; heads of both kinds that have not answered. -/
theorem test_met_ChannelLifecycle :
    (on.up = true ∧ on.flag (BIO_CTRL_EN 0) = false ∧ on.get (BIO_STATUS_STATE 0) = 0) ∧
      (let s := put [(BIO_CTRL_EN 0, 1), (BIO_STATUS_STATE 0, 2), (SCN_STATUS_RUN 0, 1)];
        s.up = true ∧ s.flag (BIO_CTRL_EN 0) = true ∧ s.get (BIO_STATUS_STATE 0) = 2 ∧ s.running 0 = true ∧
          s.flag (BIO_STATUS_SAFE 0) = false ∧ (s.beam 0).ssPend = 0) ∧
      (let s := put [(BIO_CTRL_EN 0, 1), (BIO_STATUS_STATE 0, 2)];
        s.running 0 = false ∧ s.ssInProgress 0 = false) ∧
      (let s := put [(BIO_CTRL_EN 0, 1), (BIO_STATUS_STATE 0, 4)];
        s.up = true ∧ s.flag (BIO_CTRL_EN 0) = true ∧ s.get (BIO_STATUS_STATE 0) = 4) ∧
      (∀ hd ∈ [true, false],
        let s := (put [(BIO_STATUS_STATE 0, 1)]).modBeam 0 fun r => { r with hd := hd, startVol := 100 };
        s.alive = true ∧ s.get (BIO_STATUS_STATE 0) = 1 ∧ (s.beam 0).hd = hd ∧ s.flag (BIO_STATUS_ACT_VALID 0) = false ∧
          (s.beam 0).heard = false ∧ 100 ≤ (s.beam 0).startVol) := by decide +kernel

/-- An XY-HD head whose search is under way, and one whose words come: status words of slot 9 and of slot 0, one that
fails, and a loss; on a head of the other kind, a frame with even parity and one without. -/
theorem test_met_BeamInputs :
    (let s := (put [(BIO_STATUS_STATE 0, 2)]).modBeam 0 fun r => { r with hd := true, hist := List.replicate 10 (0, r.codes) };
        s.alive = true ∧ s.get (BIO_STATUS_STATE 0) ≠ 0 ∧ (s.beam 0).hd = true ∧ (s.beam 0).rxDone = false ∧ 10 ≤ (s.beam 0).hist.length) ∧
      (let s := (put [(BIO_STATUS_STATE 0, 2)]).modBeam 0 fun r =>
          { r with hd := true, rxDone := true, lost := 10, hist := (List.range 20).map fun i => ((19 - i) % 10, r.codes) };
        let body (line slot : Nat) : Nat := 2 * 2 ^ 38 + line * 2 ^ 36 + slot * 2 ^ 32 + 0x123456 * 2 ^ 8;
        let w (line slot : Nat) : BitVec 40 := BitVec.ofNat 40 (body line slot + crc8Of (body line slot));
        s.alive = true ∧ s.get (BIO_STATUS_STATE 0) = 2 ∧ (s.beam 0).hd = true ∧
          (s.beam 0).lost = 10 ∧ (s.beam 0).lostTold = false ∧
          (∀ x ∈ [(3, 9), (0, 0), (2, 8)], (s.beam 0).searched x.2 = true ∧
            (w x.1 x.2).toNat / 2 ^ 38 = 2 ∧ (w x.1 x.2).toNat / 2 ^ 32 % 16 = x.2 ∧
            crc8Of (w x.1 x.2).toNat = (w x.1 x.2).toNat % 256 ∧ (w x.1 x.2).toNat / 2 ^ 36 % 4 = x.1) ∧
          (0 : BitVec 40).toNat / 2 ^ 38 ≠ 2) ∧
      (let s := put [(BIO_STATUS_STATE 0, 2)];
        s.alive = true ∧ s.get (BIO_STATUS_STATE 0) ≠ 0 ∧ (s.beam 0).hd = false ∧
          evenParity ((0x20001 : BitVec 40).toNat % 2 ^ 20) = true ∧ evenParity ((0x20002 : BitVec 40).toNat % 2 ^ 20) = true ∧
          evenParity ((0x20000 : BitVec 40).toNat % 2 ^ 20) = false) := by decide +kernel

/-- A READY channel, and one in OFF whose samples the back-reflection count takes. -/
theorem test_met_Photodiodes :
    on.up = true ∧ (let s := put [(BIO_PD_STATUS_STATE 0, 2), (BIO_BR_CFG_COUNT 31, 1)]
      s.alive = true ∧ (s.pd 0).cnt < 100 ∧ s.get (BIO_PD_STATUS_STATE 0) ≠ 0 ∧ (s.pd 63).cnt < 100 ∧
        s.get (BIO_PD_STATUS_STATE 63) = 0 ∧ s.get (BIO_BR_CFG_COUNT 31) ≠ 0) := by decide +kernel

/-- All inputs closed under the force, and one open; a reset that is held. -/
theorem test_met_Interlocks :
    on.alive = true ∧ on.up = true ∧ on.flag SAF_ILK_STATUS_FORCE = true ∧ ({ on with supplyHeld := true } : State).alive = false ∧
      (put [(SAF_ILK_STATUS_LEVEL, 15)]).get SAF_ILK_STATUS_LEVEL = 15 ∧ (put [(SAF_ILK_STATUS_LEVEL, 14)]).get SAF_ILK_STATUS_LEVEL = 14 ∧
      runs.alive = true ∧ runs.running 0 = true := by decide +kernel

/-- OFF; STARTING; READY without lock; an engine runs. -/
theorem test_met_VolleyGenerator :
    (on.up = true ∧ on.flag GLB_VOL_CTRL_EN = false ∧ on.get GLB_VOL_STATUS_STATE = 0 ∧ on.anyRunning = false) ∧
      (let s := put [(GLB_VOL_CTRL_EN, 1), (GLB_VOL_STATUS_STATE, 1)];
        s.flag GLB_VOL_CTRL_EN = true ∧ s.get GLB_VOL_STATUS_STATE = 1) ∧
      (let s := put [(GLB_VOL_CTRL_EN, 1), (GLB_VOL_STATUS_STATE, 2)];
        s.flag GLB_VOL_CTRL_EN = bitOf (5 : Word).toNat 0 ∧ s.get GLB_VOL_STATUS_STATE = 2 ∧ s.flag GLB_VOL_STATUS_LOCK = false) ∧ runs.anyRunning = true := by decide +kernel

/-- READY, locked and steered; OFF; STARTING, in LOCAL mode and on TB0. -/
theorem test_met_VolleyEdges :
    (let s := put [(GLB_VOL_STATUS_STATE, 2), (GLB_VOL_STATUS_LOCK, 1)];
        s.alive = true ∧ s.sched = [] ∧ s.imm = [] ∧ s.goPend = false ∧ s.load = none ∧ s.get GLB_VOL_STATUS_STATE = 2 ∧
          s.volLocal = false ∧ s.flag GLB_VOL_STATUS_LOCK = true ∧ s.volEdges = true) ∧
      (on.get GLB_VOL_STATUS_STATE ≠ 2 ∧ on.get GLB_VOL_STATUS_STATE ≠ 3 ∧ on.get GLB_VOL_STATUS_STATE ≠ 5) ∧
      (let s := put [(GLB_VOL_STATUS_STATE, 1), (TIM_TB_STATUS_VALID 0, 1), (TIM_TB_STATUS_STATE 0, 2)];
        s.get GLB_VOL_STATUS_STATE = 1 ∧ s.flag (TIM_TB_STATUS_VALID 0) = true ∧ s.get (TIM_TB_STATUS_STATE 0) = 2 ∧ ({ s with volLocal := true } : State).volLocal = true) := by decide +kernel

/-- The states of test_met_VolleyEdges wait for nothing at their edge. -/
theorem test_VolleyEdges_quiet :
    (put [(GLB_VOL_STATUS_STATE, 2), (GLB_VOL_STATUS_LOCK, 1)]).quiet ∧ on.quiet ∧
      (put [(GLB_VOL_STATUS_STATE, 1), (TIM_TB_STATUS_VALID 0, 1)]).quiet := by
  refine ⟨⟨?_, ?_, ?_, ?_⟩, ⟨?_, ?_, ?_, ?_⟩, ?_, ?_, ?_, ?_⟩ <;> decide +kernel

/-- A running beam with a point in its frame; a safe stop that waits; an empty frame. -/
theorem test_met_PointSlots :
    (let p : OutPt := { (default : OutPt) with g := true, pw := 30000 };
      let s := (put [(SCN_STATUS_RUN 0, 1), (BIO_STATUS_STATE 0, 2)]).modBeam 0 fun r => { r with cur := .pts [p] };
      s.alive = true ∧ s.get (BIO_STATUS_STATE 0) = 2 ∧ (s.beam 0).ssPend = 0 ∧ s.running 0 = true ∧ s.flag (BIO_STATUS_SAFE 0) = false ∧
        (s.beam 0).cur = .pts [p] ∧ [p][if (s.beam 0).hd then 9 else 0]? = some p ∧ on.get (BIO_STATUS_STATE 0) = 0 ∧
        ((s.modBeam 0 fun r => { r with ssPend := 1 }).beam 0).ssPend ≠ 0) := by decide +kernel

/-- A running beam without a full buffer, with a full one, and paused; one that takes a full buffer; a safe stop that waits. -/
theorem test_met_OutputStage :
    (runs.alive = true ∧ runs.running 0 = true ∧ (runs.eng 0).paused = false ∧ runs.holdDue 0 = false ∧
        (runs.eng 0).buf.length < (runs.eng 0).ppv ∧ (runs.beam 0).next = .hold) ∧
      (let s := runs.modEng 0 fun e => { e with buf := [{ (default : Pt) with x := 1000, g := true }] };
        s.running 0 = true ∧ (s.eng 0).ppv ≤ (s.eng 0).buf.length ∧ (s.eng 0).paused = false ∧ (s.eng 0).stopped = false ∧
          ((s.eng 0).buf.filter fun p => p.g && !(s.correct 0 p.x p.y p.z).2 && !s.courtPass 0 p).length = 1 ∧ s.flag ARB_CTRL_CHECK = true ∧
          (s.set ARB_CTRL_CHECK 0).flag ARB_CTRL_CHECK = false) ∧
      ((runs.modEng 0 fun e => { e with paused := true }).eng 0).paused = true ∧
      (on.up = true ∧ ((on.modBeam 0 fun r => { r with ssPend := 2 }).beam 0).ssPend ≠ 0) ∧
      (let s := put [(SCN_STATUS_RUN 0, 1), (GLB_VOL_LIMITS_DB_LIMIT, 3), (SCN_DB_RUN_RUN 0, 4)];
        s.get GLB_VOL_LIMITS_DB_LIMIT ≠ 0 ∧ s.get GLB_VOL_LIMITS_DB_LIMIT < s.get (SCN_DB_RUN_RUN 0) ∧ (s.beam 0).ssPend = 0) := by decide +kernel

theorem test_met_CourtMapAndArbiter :
    on.up = true ∧ on.anyRunning = false ∧ on.starting = 0 ∧ ({ on with starting := 1 } : State).starting ≠ 0 ∧ runs.up = true ∧
      runs.anyRunning = true ∧ on.flag ARB_MAP_LOAD_CTRL_BUSY = false := by decide +kernel

/-- A waiting CLAIMT whose grant shows, one at its last round, and grants that an idle beam loses. -/
theorem test_met_RoundsAndGrants :
    (let c (g : Bool) : Claim := { (default : Claim) with region := 5, granted := g };
      let s (g : Bool) := (put [(GLB_VOL_STATUS_STATE, 2), (ARB_STATUS_STATE, 2), (ARB_REVOKE_ROUNDS, 1), (⟨ARB_BEAM_IDLE 0, 0, 32⟩, 1)]).modEng 0
        fun e => { e with claims := [c g], wait := .claimt 5 (some 1) };
      (∀ g ∈ [true, false], (s g).alive = true ∧ (s g).volEdges = true ∧ (s g).get ARB_STATUS_STATE = 2 ∧
        ((s g).eng 0).wait = .claimt 5 (some 1) ∧ (((s g).eng 0).claimOf 5).any Claim.granted = g) ∧ ((s true).eng 1).wait = .none ∧
        (s true).get ARB_REVOKE_ROUNDS ≠ 0 ∧ (s true).get ARB_REVOKE_ROUNDS ≤ (s true).rdN (ARB_BEAM_IDLE 0) ∧
        (s true).heldRegions 0 ≠ [] ∧ ((s true).eng 0).paused = false) := by decide +kernel

/-- A beam with a claim of tile (5, 0), where the map has a WORK tile in its reach and a take waits on a pool with one staged slot. -/
def court (kind : Nat) : State :=
  ((put [(ARB_STATUS_STATE, 2), (ARB_POOL_STATUS_STATE 0, 2), (⟨COURT_MAP 10, 0, 32⟩, 1), (⟨COURT_MAP 11, 0, 32⟩, kind * 2 ^ 12)]).modEng 0 fun e =>
    { e with claims := [{ (default : Claim) with region := 5 }],
             take := some { pool := 0, addr := 0, result := none, bytes := [], vis := false, written := false } }).modPool 0 fun r =>
      { r with size := 1, staged := [(0, List.replicate 12 0 ++ leBytes 4 5 ++ List.replicate 16 0)] }

/-- No beam but 0 holds anything there. -/
theorem court_held (s : State) (w : Nat) (h : (List.range 32).all (fun o => o == 0 || (s.heldRegions o).isEmpty) = true) :
    ¬ s.othersHold 0 w := by
  rintro ⟨o, ho, hne, hw⟩
  have := List.all_eq_true.mp h o (List.mem_range.mpr ho)
  simp only [Bool.or_eq_true, beq_iff_eq, List.isEmpty_iff] at this
  rcases this with h0 | h1
  · exact hne h0
  · simp [h1] at hw

/-- A free tile fails no item, and a tile that cools down only item 5. -/
theorem court_fails (s : State) (w k : Nat) (h : (List.range 32).all (fun o => o == 0 || (s.heldRegions o).isEmpty) = true)
    (hk : s.regionFails [] 0 w k) : k = 5 ∧ ∃ x ∈ tilesOf w, tabGet (fun _ => 0) s.cool (x.2 * 128 + x.1) ≠ 0 := by
  obtain ⟨x, hx, hf⟩ := hk
  have ho : ∀ t, ¬ s.othersTile [] 0 t := by
    rintro t ⟨v, hv | ⟨o, _, hm⟩, _⟩
    · exact court_held s v h hv
    · exact List.not_mem_nil hm
  unfold State.failsItem at hf
  split at hf
  · obtain ⟨v, hv, _⟩ := hf
    exact absurd hv (court_held s v h)
  · obtain ⟨r, hr, _⟩ := hf
    exact absurd hr List.not_mem_nil
  · exact ⟨rfl, x, hx, hf⟩
  · obtain ⟨t, ht, _⟩ := hf
    exact absurd ht (ho t)
  · obtain ⟨t, ht, _⟩ := hf
    exact absurd ht (ho t)
  · exact hf.elim

/-- The claim of a closed tile is to be refused; that of a free one to be granted, the staged slot too; that of a tile that cools
down to be denied for it; a beam that holds 8 slots takes none. -/
theorem test_met_Rounds_decided :
    (court 0).get ARB_STATUS_STATE = 2 ∧ on.get ARB_STATUS_STATE ≠ 2 ∧
    (((court 1).eng 0).claims.find? fun x => x.idx == 0) = some { (default : Claim) with region := 5 } ∧
    ¬ (court 0).openTo [1] 0 5 ∧ (court 1).openTo [1] 0 5 ∧ (∀ k, ¬ (court 1).regionFails [] 0 5 k) ∧
    (let s : State := { court 1 with cool := recSet [] 5 7 };
      s.openTo [1] 0 5 ∧ s.regionFails [] 0 5 5 ∧ ∀ j, j < 5 → ¬ s.regionFails [] 0 5 j) ∧
    ((court 1).eng 0).take.isSome = true ∧ ((court 1).eng 0).held.length < 8 ∧ (court 1).get (ARB_POOL_STATUS_STATE 0) = 2 ∧
    (∀ x ∈ ((court 1).pool 0).staged, (court 1).slotState 0 x.1 = slFREE ∧ slotRegion x.2 = 5 ∧ (court 1).openTo [1, 2] 0 5) ∧
    8 ≤ (((court 1).modEng 0 fun e => { e with held := List.replicate 8 default }).eng 0).held.length := by
  have hg : ∀ s : State, (List.range 32).all (fun o => o == 0 || (s.heldRegions o).isEmpty) = true →
      s.cool = [] → ∀ k, ¬ s.regionFails [] 0 5 k := by
    rintro s h hc k hk
    obtain ⟨-, x, -, hx⟩ := court_fails s 5 k h hk
    rw [hc] at hx
    exact hx rfl
  refine ⟨by decide +kernel, by decide +kernel, by decide +kernel, ?_, ?_, hg _ (by decide +kernel) (by decide +kernel), ⟨?_, ?_, ?_⟩,
    by decide +kernel, by decide +kernel, by decide +kernel, ?_, by decide +kernel⟩
  · unfold State.openTo
    decide +kernel
  · unfold State.openTo
    decide +kernel
  · unfold State.openTo
    decide +kernel
  · exact ⟨(5, 0), by decide +kernel, show _ ≠ _ by decide +kernel⟩
  · intro j hj hk
    have := (court_fails _ 5 j (by decide +kernel) hk).1
    omega
  · unfold State.openTo
    decide +kernel

/-- OFF with a SIZE in range and out of it; READY. -/
theorem test_met_PoolLifecycle :
    on.up = true ∧ on.flag (ARB_POOL_CTRL_EN 63) = false ∧ on.get (ARB_POOL_STATUS_STATE 63) = 0 ∧
      (put [(ARB_POOL_SIZE_SIZE 63, 4096)]).get (ARB_POOL_SIZE_SIZE 63) = 4096 ∧ (put [(ARB_POOL_SIZE_SIZE 63, 4097)]).get (ARB_POOL_SIZE_SIZE 63) = 4097 ∧
      (let s := put [(ARB_POOL_STATUS_STATE 63, 2), (ARB_POOL_CTRL_EN 63, 1)];
        s.flag (ARB_POOL_CTRL_EN 63) = true ∧ s.get (ARB_POOL_STATUS_STATE 63) = 2) := by decide +kernel

/-- The 16th loaded slot of a READY pool; a map copy under way. -/
theorem test_met_StagingAndRework :
    (let s := (put [(ARB_POOL_STATUS_STATE 0, 2), (ARB_POOL_LOADED_LOADED 0, 16)]).modPool 0 fun r => { r with size := 16 };
      s.alive = true ∧ s.get (ARB_POOL_STATUS_STATE 0) = 2 ∧ s.slotState 0 15 = slFREE ∧ 15 < s.get (ARB_POOL_LOADED_LOADED 0) ∧
        15 < (s.pool 0).size ∧ (s.pool 0).staged = [] ∧ (s.pool 0).staged.Pairwise (fun x y => x.1 < y.1) ∧ s.freeBelow 0 15 < 16 ∧ s.migHeld 0 = false ∧ s.migHeld 1 = false) ∧
      (let s := put [(ARB_MAP_LOAD_CTRL_BUSY, 1)];
        s.alive = true ∧ s.flag ARB_MAP_LOAD_CTRL_BUSY = true ∧ s.load = none) ∧ on.up = true := by decide +kernel

/-- A READY engine; one that has latched and not committed; one beyond its limit. -/
theorem test_met_LatchAndLate :
    (let s := put [(CLE_STATUS_STATE 15, 2)];
        s.alive = true ∧ s.get (CLE_STATUS_STATE 15) = 2 ∧ s.get (CLE_STATUS_STATE 0) ≠ 2) ∧
      ((on.modCle 15 fun r => { r with latched := true }).cle 15).latched = true ∧
      (let s := put [(GLB_VOL_LIMITS_CLE_LIMIT, 1), (CLE_LATE_RUN 0, 2)];
        s.get GLB_VOL_LIMITS_CLE_LIMIT ≠ 0 ∧ s.get GLB_VOL_LIMITS_CLE_LIMIT < s.get (CLE_LATE_RUN 0)) := by decide +kernel

/-- The modes 0 to 3 as latched; a long test delay and none; in mode 3 a Volley in which the outer loop runs, on a camera record. -/
theorem test_met_LoopBanks :
    (∀ mode ∈ [0, 1, 2, 3],
      let s := (on.modCle 0 fun r => { r with latched := true }).modCb 0 fun r => { r with lat := [(CLE_B_CFG 0, BitVec.ofNat 32 mode)] };
      s.alive = true ∧ (s.cle 0).latched = true ∧ fldOf 0 2 ((s.latched 0).rd (CLE_B_CFG 0)) = mode ∧ ((s.cb 0).inner 2).isNone = true ∧
        s.tstCycles 7 0 = 0 ∧ outerRuns ((s.latched 0).rd (CLE_B_CFG 0)) s.vnum = (mode == 3)) ∧
      (let s := put [(TST_STATUS_UNLOCKED, 1), (TST_PT_CFG_EN 0, 1), (TST_PT_CFG_POINT 0, 7), (TST_PT_AMT_AMOUNT 0, 65535)];
        1400 < s.tstCycles 7 0) ∧
      ({ (default : CleB) with outer := some [0, 0, 0, 0x10000, 0x8000] }.outerM 3 = some (0, [0, 0, 0, 0x10000, 0x8000])) ∧
      (let s := put [(CLE_B_BKLOAD_CTRL_BUSY 31, 1)];
        on.up = true ∧ s.alive = true ∧ s.flag (CLE_B_BKLOAD_CTRL_BUSY 31) = true ∧ (s.cb 31).bkTo < 2) := by decide +kernel

/-- A photodiode record that the inner loop can use. -/
theorem test_met_LoopInner :
    (let cfg : Word := 2;
      let r : CleB := { (default : CleB) with pd0 := BitVec.ofNat 32 (24000 + 100 * 2 ^ 16) };
      (r.inner cfg).isSome = true ∧ r.rstL = 0 ∧ r.istL = false) := by decide +kernel

theorem test_met_LoopRegisters :
    on.up = true := by decide +kernel

/-- A following error past its limit; a trace in POST that is complete; an armed one. -/
theorem test_met_FollowingErrorAndTrace :
    (let cfg := (put [(CLE_B_FE_CFG_LIM 0, 1), (CLE_B_FE_CFG_TIME 0, 1)]).rd (CLE_B_FE_CFG 0);
      let s := (put [(⟨CLE_B_FE_RUN 0, 0, 32⟩, 1)]).modCb 0 fun r => { r with lat := [(CLE_B_FE_CFG 0, cfg)] };
        s.alive = true ∧ s.feHit 0 = true ∧ on.feHit 0 = false) ∧
      (let s := (put [(CLE_B_TRC_STATUS_STATE 0, 2)]).modCb 0 fun r => { r with post := 4095 };
        s.get (CLE_B_TRC_STATUS_STATE 0) = 2 ∧ 4095 ≤ (s.cb 0).post + (s.cb 0).pre) ∧ on.up = true ∧
      (put [(CLE_B_TRC_STATUS_STATE 0, 1)]).get (CLE_B_TRC_STATUS_STATE 0) = 1 := by decide +kernel

/-- OFF, STARTING and READY; a context on the port. -/
theorem test_met_CameraPorts :
    on.up = true ∧ on.flag (CAM_CP_CTRL_EN 7) = false ∧ on.get (CAM_CP_STATUS_STATE 7) = 0 ∧
      (put [(CAM_CP_STATUS_STATE 7, 1)]).get (CAM_CP_STATUS_STATE 7) = 1 ∧ cam.alive = true ∧ cam.get (CAM_CP_STATUS_STATE 7) = 2 ∧ 35 ∈ cam.ctxsOn 7 := by decide +kernel

/-- A READY port and one in OFF; headers that are sound, with one inverted bit and with two; types that are listed and not; a context on
virtual channel 0 and none on 1; a frame open and none. -/
theorem test_met_CameraPackets :
    cam.alive = true ∧ cam.get (CAM_CP_STATUS_STATE 7) = 2 ∧ on.get (CAM_CP_STATUS_STATE 7) ≠ 2 ∧ (hdr 0 0).ecc = .good ∧
      (hdr 1 1).ecc = .fixed ∧ (hdr 0 3).ecc = .bad ∧ dtListed 0x2B = true ∧ dtListed 0x3F = false ∧ (hdr 0 0).dt = 0 ∧
      (hdr 1 1).dt = 1 ∧ (hdr 0 0).vc = 0 ∧ (hdr 0 0).port = 7 ∧
      cam.ctxOf 7 0 = some 35 ∧ cam.ctxOf 7 1 = none ∧ (cam.ctx 35).opened = none ∧ ((filming.ctx 35).opened).isSome = true ∧
      cam.get (CAM_CTX_STATUS_STATE 35) = 2 := by decide +kernel

/-- A RAW10 line of 8 pixels, 10 bytes: kept; without a free place; beyond the height; in a truncated frame; without a frame, and in
one that gives no record. -/
theorem test_met_PixelLines :
    (let f : CamFrame := { (default : CamFrame) with open_ := true };
      let h := hdr 0x2B 0;
      filming.alive = true ∧ filming.get (CAM_CP_STATUS_STATE 7) = 2 ∧ h.ecc ≠ .bad ∧ h.dt = 0x2B ∧
        (List.replicate 10 (0 : Byte)).length = h.wc ∧ crc16 (List.replicate 10 (0 : Byte)) ≠ 0 ∧
        filming.ctxOf 7 h.vc = some 35 ∧ filming.get (CAM_CTX_STATUS_STATE 35) = 2 ∧ filming.flag (CAM_CTX_CTRL_DT 35) = true ∧
        filming.paused 35 = false ∧ (filming.ctx 35).opened = some f ∧ f.norec = false ∧ f.mute = false ∧
        ¬ (h.wc ≠ filming.get (CAM_CTX_GEOM_W 35) * 5 / 4 ∨ filming.get (CAM_CTX_GEOM_H 35) ≤ f.seen) ∧
        (filming.port 7).lines.length < 4 ∧ bitOf f.flags 1 = false ∧
        filming.get (CAM_CTX_GEOM_H 35) ≤ ({ f with seen := 2 } : CamFrame).seen ∧
        (let g : CamFrame := { f with flags := 2 };
          bitOf g.flags 1 = true ∧ g.mute = false ∧ g.norec = false) ∧
        (cam.ctx 35).opened = none ∧
        ((filming.modOpen 35 fun f => { f with norec := true }).ctx 35).opened.any (fun f => f.norec && !f.mute) = true ∧
        4 ≤ ((filming.modPort 7 fun r => { r with lines := List.replicate 4 default }).port 7).lines.length) := by decide +kernel

/-- A line in a place; a closed frame, and an open one; a record for the archive; a frame that waits too long. -/
theorem test_met_CameraRecords :
    (let s := cam.modPort 7 fun r => { r with lines := [{ (default : CamLine) with ctx := 35 }] };
        s.alive = true ∧ (s.pick.map Prod.fst) = some 7 ∧ on.pick.isNone = true) ∧
      (let s := cam.modCtx 35 fun x => { x with frames := [default] };
        (s.ctx 35).frames = [default] ∧ (default : CamFrame).open_ = false ∧ (default : CamFrame).wait = 0 ∧ (default : CamFrame).norec = false ∧
          s.paused 35 = false) ∧
      (let s := cam.modCtx 35 fun x => { x with arc := [(0, [1])] };
        (s.ctx 35).arc = [(0, [1])] ∧ s.throttled = false) ∧
      (let s := (filming.set (CAM_CTX_CFG_FTO 35) 1).modOpen 35 fun f => { f with vols := 1 };
        (s.ctx 35).opened.any (fun f => decide (s.get (CAM_CTX_CFG_FTO 35) ≤ f.vols) && !f.mute) = true ∧ s.get (CAM_CTX_CFG_FTO 35) ≠ 0) := by decide +kernel

/-- OFF with a port that is not READY, and READY. -/
theorem test_met_CameraContexts :
    on.up = true ∧ on.flag (CAM_CTX_CTRL_EN 0) = false ∧ on.get (CAM_CTX_STATUS_STATE 0) = 0 ∧ on.ctxOk 0 = false ∧ cam.up = true ∧
      cam.get (CAM_CTX_STATUS_STATE 35) = 2 := by decide +kernel

/-- A sensor write under way; a table that a live context selects, and one that none does. -/
theorem test_met_SensorsAndTriggers :
    (let s := (cam.modPort 7 fun r => { r with cci := [(35, 1)] }).modCtx 35 fun x =>
        { x with gens := [{ num := 1, sets := [], item := 0, done := false, cci := false, force := none }] };
      s.alive = true ∧ (s.port 7).cci = [(35, 1)] ∧ ((s.ctx 35).gens.any fun g => g.num == 1) = true ∧
        s.cciNext 35 1 = none) ∧ cam.up = true ∧ on.tabUsed 0 = false := by decide +kernel

/-- OFF, STARTING and READY sinks, and a strobe; an output that waits, one that is busy, and one that stops in its frame. -/
theorem test_met_Lighting :
    on.up = true ∧ on.alive = true ∧ on.get (LGT_LS_STATUS_STATE 0) = 0 ∧ on.flag (LGT_LS_CTRL_EN 0) = false ∧
      (let s := put [(LGT_LS_STATUS_STATE 0, 2), (LGT_LS_CTRL_EN 0, 1), (⟨LGT_LS_DUTY 0, 0, 16⟩, 1)];
        s.get (LGT_LS_STATUS_STATE 0) = 2 ∧ s.flag (LGT_LS_CTRL_MODE 0) = false ∧ s.rdN (LGT_LS_DUTY 0) % 65536 ≠ 0) ∧
      (let s : State := { put [(LGT_LW_STATUS_STATE 1, 2), (LGT_LW_CTRL_EN 1, 1), (LGT_LW_STATUS_BUSY 1, 1)] with lamps := recSet [] 1 [[syncShare]] };
        s.lamp 1 = [[syncShare]] ∧ s.flag (LGT_LW_STATUS_BUSY 1) = true ∧ s.get (LGT_LW_STATUS_STATE 1) = 2 ∧
          (s.set (LGT_LW_STATUS_STATE 1) 3).get (LGT_LW_STATUS_STATE 1) = 3) ∧ on.lamp 1 = [] ∧ bitOf (1 : Word).toNat 0 = true := by decide +kernel

/-- Firmware that runs, with an operation of each kind in progress; the watchdog; boots of both kinds. -/
theorem test_met_BootUpdateAndWatchdog :
    (∀ op ∈ [0, 1, 2],
      let s : State := { put [(MGT_FW_STATUS_FSTATE, 1), (MGT_WDT_CFG_EN, 1)] with upd := some (op, 0, 0), wdt := 1 };
      s.up = true ∧ s.alive = true ∧ s.upd = some (op, 0, 0) ∧ s.flag MGT_WDT_CFG_EN = true ∧ s.wdt ≠ 0 ∧ s.keyhash = 0) ∧
      on.get MGT_FW_STATUS_FSTATE = 0 ∧ on.upd = none ∧ on.bootSel ≠ 1 ∧ on.bootSel ≠ 2 ∧ (on.slot 0).st ≠ .trying ∧
      on.imageValid (on.slot 0).img = false ∧ ({ on with bootSel := 1 } : State).bootSel = 1 := by decide +kernel

/-- An empty queue; an event that no record absorbs; one that the latest record absorbs; the last number. -/
theorem test_met_EventRecorder :
    (let e : Ev := { (default : Ev) with id := 0x042, inst := 3 };
      let s : State := { on with evq := [e] };
      let r : EvRec := { (default : EvRec) with id := 0x042, inst := 3 };
      let u : State := { (s.wr EVR_WR 1) with recs := [(0, some r)] };
      s.alive = true ∧ s.evNew = [] ∧ on.evq = [] ∧ s.evq = [e] ∧ s.rdN EVR_WR = 0 ∧ u.rdN EVR_WR = 1 ∧ u.record (recPos 0) = some r ∧
        evAbsorbs e.id = true ∧ r.rep < 65535 ∧ (s.wr EVR_WR 0xFFFFFFFF).rdN EVR_WR = 0xFFFFFFFF ∧ on.up = true) := by decide +kernel

/-- Readings at both limits and beyond them; a broken sensor. -/
theorem test_met_ThermalAndVoltage :
    on.alive = true ∧ on.up = true ∧ ([-880, 2400, -881, 2401] : List Int)[3]? = some 2401 ∧ on.tsBad 3 = false ∧
      (put [(⟨CPT_TS_BROKEN, 3, 1⟩, 1)]).tsBad 3 = true ∧ ([4, 5] : List (BitVec 16))[1]? = some 5 ∧ ([4, 5] : List (BitVec 16))[2]? = none := by decide +kernel

/-- No item; items of each step whose conditions hold; one whose condition fails; a head under HEAD, on its way and at its
reference; a frame for GRATIO. -/
theorem test_met_ProofItems :
    on.up = true ∧ on.alive = true ∧ on.flag CAL_STATUS_BUSY = false ∧ on.cal.q = [] ∧
      (let s : State := { put [(CAL_STATUS_BUSY, 1), (BIO_PD_STATUS_STATE 63, 2)] with cal := { (default : Cal) with q := [(3, 63), (5, 7)] } };
        s.flag CAL_STATUS_BUSY = true ∧ s.cal.q = [(3, 63), (5, 7)] ∧ (∀ x ∈ s.cal.q, x.1 < 6 ∧ x.2 < [2, 32, 32, 64, 32, 8].getD x.1 0) ∧
          s.calCond 3 63 = true ∧ s.calCond 5 7 = true ∧ on.calCond 3 63 = false ∧ on.calCond 0 0 = true) ∧
      (let c : Cal := { (default : Cal) with q := [(2, 0)] };
        let s : State := ({ put [(CAL_STATUS_BUSY, 1), (BIO_STATUS_STATE 0, 2)] with cal := c }).modBeam 0 fun r => { r with hd := true };
        s.alive = true ∧ s.calHead 0 = true ∧ s.calCond 1 0 = true ∧ s.calCond 2 0 = true ∧ (s.beam 0).ssPend = 0 ∧
          (s.beam 0).codes = s.calTarget ∧ ((s.set ⟨CAL_REF_X 0, 0, 32⟩ 5).beam 0).codes ≠ (s.set ⟨CAL_REF_X 0, 0, 32⟩ 5).calTarget ∧
          (∀ n ∈ [0, 1000, 1099], ({ s with cal := { c with n := n } } : State).cal.n = n ∧ ({ s with cal := { c with n := n } } : State).cal.ref ≠ 4) ∧
          ({ s with cal := { c with ref := 4, home := (s.beam 0).codes } } : State).cal.ref = 4) ∧
      (let s : State := { cam.modCtx 3 fun x => { x with frames := [default] } with cal := { (default : Cal) with q := [(4, 3)] } };
        s.cal.q.head? = some (4, 3) ∧ s.cal.g = none ∧ (s.ctx 3).frames = [default] ∧ s.paused 3 = false ∧ (s.set CAL_STATUS_BUSY 1).flag CAL_STATUS_BUSY = true ∧
          (s.set (CAM_CTX_STATUS_STATE 3) 2).calCond 4 3 = true) := by decide +kernel

/-- A base with a sample from each source; one that waits; holdover of a base in step. -/
theorem test_met_TimeBases :
    on.up = true ∧ on.alive = true ∧ ((on.tb 0).meas = none) ∧
      (let s : State := { put [(TIM_TB_STATUS_STATE 3, 2), (⟨TIM_TB_SET_NS 3, 0, 32⟩, 999999999)] with tbs := recSet [] 3 { (default : Tb) with meas := some (-7) } };
        (s.tb 3).meas = some (-7) ∧ s.get (TIM_TB_STATUS_STATE 3) = 2 ∧ s.flag (TIM_TB_STATUS_HOLDOVER 3) = false ∧
          ¬ 999999999 < s.rdN (TIM_TB_SET_NS 3)) ∧
      999999999 < (put [(⟨TIM_TB_SET_NS 3, 0, 32⟩, 1000000000)]).rdN (TIM_TB_SET_NS 3) ∧ bitOf (1 : Word).toNat 0 = true ∧ bitOf (2 : Word).toNat 0 = false := by decide +kernel

/-- A READY port with PTP, a PTP frame that it takes, a frame to leave and a timestamp; a link that is ACTIVE, with an exchange under
way, with a credit and without; one that is due. -/
theorem test_met_NetworkTime :
    (let p : PtpTx := { bytes := List.replicate 60 0, ctl := 0x200, tag := 7 };
      let s : State := { put [(NET_STATUS_STATE 1, 2), (NET_PTP_STATUS_STATE 1, 2), (NET_PTP_CTRL_L2 1, 1),
        (LNK_STATUS_LSTATE 0, 5)] with nets := recSet [] 1 { (default : Net) with tx := some p, txts := [default, default] }, exch := some 1000 };
      let frm := beBytes 6 0x011B19000000 ++ List.replicate 6 0 ++ beBytes 2 0x88F7 ++ List.replicate 46 0;
      s.alive = true ∧ s.up = true ∧ s.get (NET_STATUS_STATE 1) = 2 ∧ s.get (NET_PTP_STATUS_STATE 1) = 2 ∧ s.ear 1 = .peer ∧
        (s.ethAccept 1 frm).any (s.isPtp 1) = true ∧ frm.length ≤ 256 ∧ (s.net 1).rxq.length < 32 ∧ (s.net 1).tx = some p ∧
        bitOf p.ctl.toNat 9 = true ∧ (s.net 1).txts.length < 16 ∧ (s.net 1).txts.tail = [default] ∧ s.lnkHears 0 = true ∧ s.exch = some 1000 ∧
        (s.lnk 0).txt = [] ∧ (s.lnk 0).txq = [] ∧ (s.lnk 0).crT = 0 ∧ ((s.modLnk 0 fun l => { l with crT := 1 }).lnk 0).crT ≠ 0 ∧
        max 1 (s.rdN TIM_LINK_CFG % 256) ≤ ({ s with linkVols := 255 } : State).linkVols ∧ s.linkVols < max 1 (s.rdN TIM_LINK_CFG % 256) ∧
        (on.net 1).tx = none ∧ on.lnkHears 0 = false ∧ on.exch = none ∧ (put [(LNK_STATUS_LSTATE 0, 5)]).exch = none ∧
        bitOf (1 : Word).toNat 0 = true) := by decide +kernel

/-- OFF; READY with no descriptor; a fetch; a copy whose burst has been read; one that is complete, and ends the chain. -/
theorem test_met_DmaChannels :
    (let d : BitVec 256 := BitVec.ofNat 256 (0x1000 * 2 ^ 64 + 2 ^ 180 + 64 * 2 ^ 192);
      let b : Burst := { k := 0, len := 64, data := List.replicate 64 1, wr := true };
      let s := (put [(DMA_CH_STATUS_STATE 31, 2), (DMA_CH_STATUS_CSTATE 31, 1)]).modDma 31 fun r => { r with desc := some d, bursts := [b], k := 64 };
      let u := s.modDma 31 fun r => { r with bursts := [] };
      on.up = true ∧ s.alive = true ∧ s.up = true ∧ s.get (DMA_CH_STATUS_STATE 31) = 2 ∧ s.get (DMA_CH_STATUS_CSTATE 31) = 1 ∧ descBad d = false ∧
        dCodecN d = none ∧ dEnd d = true ∧ dLen d = 64 ∧ (s.dma 31).desc = some d ∧ (s.dma 31).bursts = [b] ∧
        u.allRead 31 d = true ∧ u.codecDone 31 d = true ∧ u.blockOpen d = false ∧ (u.dma 31).pages = [] ∧
        ((s.modDma 31 fun r => { r with fetch := 1 }).dma 31).fetch ≠ 0 ∧ (s.dma 31).gap = false ∧ (on.dma 31).desc = none ∧
        (let x := s.modDma 31 fun r => { r with k := 0, bursts := [] };
          x.bursts < 64 ∧ x.throttled = false ∧ x.burstChoice = some 31)) := by decide +kernel

/-- An owned decompressor and an owned compressor, each with output to write and without. -/
theorem test_met_Codecs :
    (∀ x ∈ [(0, (16 * 2 ^ 168 + 64 * 2 ^ 192)), (15, (31 * 2 ^ 168 + 2 ^ 185 + 64 * 2 ^ 192))],
      let d : BitVec 256 := BitVec.ofNat 256 x.2;
      let s := ((put [(CMP_STATUS_STATE x.1, 2), (CMP_STATUS_OWNED x.1, 1), (CMP_STATUS_OWNER x.1, 31), (DMA_CH_STATUS_STATE 31, 2),
        (DMA_CH_STATUS_CSTATE 31, 1)]).modDma 31 fun r => { r with desc := some d }).modCodec x.1 fun c => { c with open_ := true };
      let u := s.modCodec x.1 fun c => { c with outq := [1] };
      s.alive = true ∧ s.up = true ∧ s.feeder x.1 = some (31, d) ∧ (s.codec x.1).outq = [] ∧ (s.codec x.1).idxQ = [] ∧
        (s.codec x.1).open_ = true ∧ u.feeder x.1 = some (31, d) ∧ (u.codec x.1).outq ≠ [] ∧ s.ownerRuns x.1 = true ∧
        descBad d = false) ∧ on.ownerRuns 0 = false := by decide +kernel

/-- OFF, STARTING and READY; frozen; in self-refresh; a fill and a training under way. -/
theorem test_met_MemoryChannels :
    on.up = true ∧ on.alive = true ∧ on.get (MEM_M_STATUS_STATE 1) = 0 ∧ on.flag (MEM_M_CTRL_EN 1) = false ∧ on.memBad 0 = true ∧
      (put [(MEM_M_STATUS_STATE 1, 1)]).get (MEM_M_STATUS_STATE 1) = 1 ∧ (put [(MEM_STATUS_FROZEN, 1)]).frozen = true ∧
      (let s := put [(MEM_M_STATUS_STATE 1, 2), (MEM_M_INIT_BUSY 1, 1), (MEM_M_SR_ACTIVE 1, 1), (MEM_M_TRAIN_BUSY 1, 1), (MEM_M_RETRAIN_PERIOD 1, 1)];
        s.filling 1 = true ∧ s.flag (MEM_M_SR_ACTIVE 1) = true ∧ s.flag (MEM_M_TRAIN_BUSY 1) = true ∧ s.get (MEM_M_RETRAIN_PERIOD 1) ≠ 0) ∧
      dram.frozen = false ∧ dram.anyRunning = false ∧ dram.get (MEM_M_MIG_STATE 1) ≠ 1 := by decide +kernel

/-- Reads and writes within a block and across two, in place and beyond the capacity; each kind of access that waits,
of class V and of class K; a LOST block and a poisoned one; a migration; a diagnostic read. -/
theorem test_met_MemoryAccesses :
    (∀ kind ∈ [JobKind.read, .merge, .full], ∀ k ∈ [true, false],
      let j : RdJob := { req := 3, classK := k, addr := 0, rank := 0, ra := 0, len := 64, data := List.replicate 64 1, kind := kind };
      let s := dram.modMch 0 fun r => { r with jobs := [j] };
      let both : Mch := { s.mch 0 with jobs := [j, { j with classK := !k, ra := 64 }] };
      both.hasReady false = true ∧ both.hasReady true = true ∧ both.slotsV = 0 ∧ s.dramWait = [] ∧
      s.alive = true ∧ (s.mch 0).jobs = [j] ∧ (s.mch 0).nextJob (s.get MEM_QOS_VMIN) k 0 = some j ∧ s.isLost 0 0 0 = false ∧
        s.poisoned (dramKey 0 0 0) = false ∧ (s.setPoison (dramKey 0 0 0) true).poisoned (dramKey 0 0 0) = true ∧
        (s.set ⟨MEM_M_LOST 0, 0, 32⟩ 0xFFFFFFFF).isLost 0 0 0 = true ∧ s.frozen = false ∧ (put [(MEM_STATUS_FROZEN, 1)]).frozen = true) ∧
      (∀ r ∈ [(⟨3, true, 0, 64, none⟩ : DramReq), ⟨3, true, 8, 8, some (List.replicate 8 1)⟩, ⟨3, true, 0, 64, some (List.replicate 64 1)⟩,
        ⟨3, true, 60, 8, none⟩], ∀ d, r.data = some d → d.length = r.len) ∧
      (let j : RdJob := { req := 3, classK := true, addr := 0, rank := 0, ra := 0, len := 64, data := [], kind := .read };
        32 ≤ (((dram.modMch 0 fun r => { r with jobs := List.replicate 32 j }).mch 0).jobs.filter fun x => x.classK == true).length) ∧
      dram.dramWait = [] ∧
      dram.alive = true ∧ dram.up = true ∧ dram.filling 0 = false ∧ dram.filling 1 = false ∧ blockParts 0 64 = [(0, 64)] ∧
      blockParts 8 8 = [(8, 8)] ∧ blockParts 60 8 = [(60, 4), (64, 4)] ∧ (dram.blockPlace true 0).isRight = true ∧
      (dram.blockPlace true (2 ^ 39)).isLeft = true ∧ (on.mch 0).jobs = [] ∧
      (dram.set (MEM_M_MIG_STATE 1) 1).get (MEM_M_MIG_STATE 1) = 1 ∧
      (dram.set (MEM_DIAG_CTRL_BUSY) 1).flag MEM_DIAG_CTRL_BUSY = true := by decide +kernel

/-- A write of another length than its bytes is none; a requester with nothing queued has nothing to give up. -/
theorem test_MemoryAccesses_none :
    (let r : DramReq := ⟨3, true, 0, 8, some [1]⟩;
      ¬ ∀ d, r.data = some d → d.length = r.len) ∧ (dram.mch 0).jobs.filter (fun j => j.req == 3 && j.reads) = [] := by decide +kernel

/-- Scrub works, at a block from which it moves on. -/
theorem test_met_MemoryScrub :
    (let s := dram.set (MEM_M_SCRUB_EN 0) 1;
      s.flag (MEM_M_SCRUB_EN 0) = true ∧ s.throttled = false ∧ s.get (MEM_M_STATUS_STATE 0) = 2 ∧ s.frozen = false ∧
        s.flag (MEM_M_SR_ACTIVE 0) = false ∧ s.get (MEM_M_MIG_STATE 0) ≠ 1 ∧ (s.mch 0).jobs = [] ∧ s.scrubFrom 0 0 = some 0 ∧ s.scrubFrom 0 1 = some 1) := by decide +kernel

/-- A READY axis, and one in STOPPING, for which each command falls due, at rest, in motion and stopped on the way; a limit that blocks; each plan of a
tick. -/
theorem test_met_AxisMotion :
    (∀ code ∈ [1, 2, 3, 4, 5, 6, 7], ∀ ms ∈ [0, 1, 3, 4],
      let s := (put [(MOT_AX_STATUS_STATE 7, 2), (MOT_AX_STATUS_MSTATE 7, ms)]).modAx 7 fun r => { r with due := code };
      s.alive = true ∧ (s.ax 7).due = code ∧ s.axLive 7 = true ∧ (s.set (MOT_AX_STATUS_STATE 7) 3).axLive 7 = true ∧
        s.get (MOT_AX_STATUS_STATE 7) = 2 ∧ s.get (MOT_AX_STATUS_MSTATE 7) = ms ∧ (s.ax 7).v = 0 ∧
        ((s.modAx 7 fun r => { r with v := 5 }).ax 7).v ≠ 0 ∧ s.limActive 7 true = false ∧
        (let u := (s.set (MOT_AX_LIMSEL_POS_SEL 7) 19).set ⟨PFB_LIM_ACT, 0, 16⟩ 8;
          u.limActive 7 true = true)) ∧ on.up = true ∧ (on.ax 7).due ≠ 1 ∧
      (∀ plan ∈ [AxPlan.rest, .run true, .toTarget false, .brake .idle],
        ((on.modAx 7 fun r => { r with plan := plan }).ax 7).plan = plan ∧ ((on.modAx 7 fun r => { r with plan := plan }).ax 7).stop = 0) := by decide +kernel

/-- A READY axis, a READY input and a READY output; a stall, an overcurrent, a line that is stuck. -/
theorem test_met_DriveAndFeedback :
    (let s := (put [(MOT_AX_STATUS_STATE 7, 2), (PFB_QE_STATUS_STATE 7, 2), (PFB_EO_STATUS_STATE 3, 2), (PFB_QE_CFG_STUCK_EN 7, 7),
        (PFB_QE_STATUS_LVL 7, 7)]).modAx 7 fun r => { r with v := 1, stall := 65535, a := { r.a with oc := 2 } };
      s.alive = true ∧ s.up = true ∧ s.get (MOT_AX_STATUS_STATE 7) = 2 ∧ 0 < (s.ax 7).v ∧ 2 ≤ (s.ax 7).a.oc ∧
        orOne ((s.axEff 7).get (MOT_AX_STALL_N 7)) ≤ (s.ax 7).stall ∧ s.get (PFB_QE_STATUS_STATE 7) = 2 ∧ s.get (PFB_EO_STATUS_STATE 3) = 2 ∧
        bitOf (s.get (PFB_QE_CFG_STUCK_EN 7)) 2 = true ∧ bitOf (s.get (PFB_QE_STATUS_LVL 7)) 2 = true ∧ bitOf (s.qe 7).stuck.toNat 2 = false ∧
        bitOf 3 2 = false) := by decide +kernel

/-- A PING of source 6 that is new, stale, a duplicate, of an unknown opcode, timed, and without its checks; a port that takes no
frame; a port that is READY, for which those bytes are no command frame. -/
theorem test_met_CommandFrames :
    (let f := frame 1 0 1 0 [];
      ready.up = true ∧ ready.goPend = false ∧ ready.frameOf 6 f = some (none, f) ∧ ready.frameOf 0 f = none ∧
        ready.takes 6 = true ∧ ready.accepts 6 f = true ∧ ready.accepts 6 (f.drop 1) = false ∧
        frOp f = 1 ∧ ready.forMe 6 f = true ∧ ready.chainCopy 6 f = none ∧ ready.seqAhead 6 f = 1 ∧ cmdCheck f = 0 ∧ frTimed f = false ∧
        ready.seqAhead 6 (frame 1 0 0x80000000 0 []) = 2 ^ 31 ∧ ready.seqAhead 6 (frame 1 0 0 0 []) = 0 ∧
        ready.seqAhead 6 (frame 1 0 0x7FFFFFFF 0 []) = 2 ^ 31 - 1 ∧
        cmdCheck (frame 0x7F 0 1 0 []) ≠ 0 ∧ on.takes 0 = false ∧ (put [(NET_STATUS_STATE 0, 2)]).takes 0 = true ∧
        frTimed (frame 0x20 1 1 5 (leBytes 4 1)) = true ∧ cmdCheck (frame 0x20 1 1 5 (leBytes 4 1)) = 0 ∧
        ready.schedCheck (frame 0x20 1 1 5 (leBytes 4 1)) ≠ 0 ∧ (ready.set GLB_VOL_STATUS_STATE 2).schedCheck (frame 0x20 1 1 5 (leBytes 4 1)) = 0) := by decide +kernel

/-- Each command that acts at once, new and from source 6; BATCH_ABORT while ARMED. -/
theorem test_met_ImmediateCommands :
    (∀ f ∈ [frame 0x01 0 1 0 [], frame 0x02 0 1 0 (leBytes 4 0 ++ leBytes 4 1), frame 0x03 0 1 0 (leBytes 4 0x40 ++ leBytes 4 5),
        frame 0x04 0 1 0 (leBytes 4 0 ++ leBytes 4 0 ++ leBytes 4 4), frame 0x05 0 1 0 (leBytes 4 0 ++ leBytes 4 0 ++ leBytes 4 9),
        frame 0x06 0 1 0 [], frame 0x11 0 1 0 [], frame 0x16 0 1 0 [], frame 0x30 0 1 0 (leBytes 4 6 ++ leBytes 4 1),
        frame 0x31 0 1 0 (leBytes 4 0 ++ leBytes 4 1), frame 0x32 0 1 0 []],
      ready.frameOf 6 f = some (none, f) ∧ ready.takes 6 = true ∧ ready.accepts 6 f = true ∧ ready.forMe 6 f = true ∧
        ready.chainCopy 6 f = none ∧ ready.seqAhead 6 f = 1 ∧ cmdCheck f = 0 ∧ frTimed f = false ∧ frOp f ≠ 0x10 ∧ opEdge (frOp f) = false) ∧
      (let f := frame 0x15 0 1 0 (leBytes 4 0);
        let s := ready.set MGT_BATCH_STATUS_STATE 3;
        s.up = true ∧ s.goPend = false ∧ s.frameOf 6 f = some (none, f) ∧ s.accepts 6 f = true ∧ s.forMe 6 f = true ∧ cmdCheck f = 0 ∧ frOp f = 0x15 ∧ s.get MGT_BATCH_STATUS_STATE = 3) := by decide +kernel

/-- A timed command that falls due, and two; one that is rejected at once and one that is not; each command that acts at an edge;
BATCH_LOAD; each at its edge in a state in which it acts. -/
theorem test_met_BatchCommands :
    (let f := frame 0x20 1 1 5 (leBytes 4 1);
      let c : QCmd := ⟨6, f, none, none, 0⟩;
      let s : State := { ready with sched := [c] };
      (s.sched.filter fun q => frAt q.frame == 5) = [c] ∧ (State.timedOne 5 s c).sched = [] ∧
        (let u : State := { ready with sched := [c, ⟨5, f, none, none, 0⟩] };
          (u.sched.filter fun q => frAt q.frame == 5) = [c, ⟨5, f, none, none, 0⟩] ∧ (State.timedOne 5 u c).sched = [⟨5, f, none, none, 0⟩]) ∧
        ∀ b : Fin 32, ((s.timedEdge 5).immEdge.eng b).first = false) ∧
      isReject ((ready.begun 6 (frame 0x12 0 1 0 [])).doOp (frame 0x12 0 1 0 [])).2.result = true ∧
      isReject ((runs.begun 6 (frame 0x20 0 1 0 (leBytes 4 1))).doOp (frame 0x20 0 1 0 (leBytes 4 1))).2.result = false ∧
    (∀ f ∈ [frame 0x12 0 1 0 [], frame 0x13 0 1 0 (leBytes 4 0 ++ leBytes 4 1), frame 0x14 0 1 0 [], frame 0x15 0 1 0 (leBytes 4 0),
        frame 0x20 0 1 0 (leBytes 4 1), frame 0x21 0 1 0 (leBytes 4 0 ++ leBytes 4 0)],
      ready.frameOf 6 f = some (none, f) ∧ ready.takes 6 = true ∧ ready.accepts 6 f = true ∧ ready.forMe 6 f = true ∧
        ready.chainCopy 6 f = none ∧ ready.seqAhead 6 f = 1 ∧ cmdCheck f = 0 ∧ frTimed f = false ∧ opEdge (frOp f) = true ∧ ({ ready with imm := [(1, ⟨6, f, none, none, 0⟩)] } : State).imm = [(1, ⟨6, f, none, none, 0⟩)]) ∧
      (let f := frame 0x10 0 1 0 (leBytes 4 64 ++ leBytes 4 0);
        ready.accepts 6 f = true ∧ cmdCheck f = 0 ∧ frOp f = 0x10 ∧ ready.get MGT_BATCH_STATUS_STATE ≠ 1 ∧ ready.batchActive = false ∧
          ready.anyRunning = false ∧ (ready.set MGT_BATCH_STATUS_STATE 4).batchActive = true ∧
          ({ ready with load := some { cmd := ⟨6, f, none, none, 0⟩, desc := [], map := false, pools := [], edges := none } } : State).load.isSome = true) ∧
      ready.flag MGT_CMD_GO_BUSY = false ∧ ready.alive = true := by decide +kernel

/-- No register, local memory, the buffer and a lane; a misaligned offset; before the fabric is up; the keys. -/
theorem test_met_RegisterAccesses :
    on.alive = true ∧ on.goPend = false ∧ on.fabricUp = true ∧ State.reset.alive = true ∧ State.reset.fabricUp = false ∧
      regDesc 0x1FFFFC = none ∧ (0x300000 : BitVec 24).toNat = 0x300000 ∧ (BitVec.ofNat 24 (MGT_CMD_BUF 255)).toNat = MGT_CMD_BUF 255 ∧
      (BitVec.ofNat 24 (LANE_STATUS 11)).toNat = LANE_STATUS 11 ∧ MGT_CMD_BUF 255 % 4 = 0 ∧ LANE_STATUS 11 % 4 = 0 ∧
      ({ on with tstArmed := true } : State).tstArmed = true := by decide +kernel

/-- Running, held by the supply and without its clock; the software reset under way and not; an update of each kind. -/
theorem test_met_DeviceResets :
    State.reset.alive = true ∧ State.reset.swrst = false ∧ State.reset.supplyHeld = false ∧ State.reset.clockLost = false ∧
      ({ on with swrst := true } : State).alive = true ∧ ({ on with supplyHeld := true } : State).supplyHeld = true ∧
      ({ on with supplyHeld := true } : State).alive = false ∧ ({ on with clockLost := true } : State).clockLost = true ∧
      ({ on with clockLost := true } : State).alive = false ∧ on.upd = none ∧
      ∀ op ∈ [0, 1, 2], ({ on with upd := some (op, 0, 0) } : State).upd = some (op, 0, 0) := by decide +kernel

/-- A lamp wire sends bit 47 first: a 1 is high for 40 cycles, a 0 for 20, and bits last 63 and 62 cycles in turn (R526, R527). -/
theorem test_lampWave : (lampWave [2 ^ 47]).take 4 = [(true, 40), (false, 23), (true, 20), (false, 42)] := by decide +kernel

/-- The boot ROM's cause after SYSRST_N (R560). -/
theorem test_sysrst_cause : on.sysReset 1 |>.rd MGT_FW_STATUS |> (· = 0x100#32) := by decide +kernel

/-- The fabric down and up; an enabled base and port; READY lanes of an ACTIVE port; the test port up and down. -/
theorem test_met_FabricStartAndTestPort :
    State.reset.alive = true ∧ State.reset.fabricUp = false ∧ on.fabricUp = true ∧
      (put [(TIM_TB_CTRL_EN 3, 1)]).flag (TIM_TB_CTRL_EN 3) = true ∧ (put [(LNK_CTRL_EN 3, 1)]).flag (LNK_CTRL_EN 3) = true ∧
      on.isOff (LANE_STATUS_STATE 2) = true ∧ on.laneOn 2 = true ∧
      (let s := put [(LANE_STATUS_STATE 2, 2), (LNK_STATUS_LSTATE 0, 5)];
        s.alive = true ∧ s.isReady (LANE_STATUS_STATE 2) = true ∧ s.lnkActive 0 = true ∧ s.lnkOf 2 = some 0) ∧
      ({ on with supplyHeld := true } : State).supplyHeld = true ∧ on.supplyHeld = false ∧ on.tapUp = false ∧
      ({ on with tapUp := true } : State).tapUp = true ∧ cellDrives 10 = true ∧ cellDrives 0 = false := by decide +kernel

/-- A lane in OFF, STARTING and READY with signal, lock and blocks, one in hunt, and a checker at work; the lane registers without
their clock; an Ethernet port in OFF and READY. -/
theorem test_met_SerialLanes :
    on.up = true ∧ on.alive = true ∧ on.laneDark = false ∧ ({ on with laneDark := true } : State).laneDark = true ∧
      on.get (LANE_STATUS_STATE 11) = 0 ∧ (put [(LANE_STATUS_STATE 11, 1)]).get (LANE_STATUS_STATE 11) = 1 ∧
      (let s := put [(LANE_STATUS_STATE 11, 2), (LANE_STATUS_SIG 11, 1), (LANE_STATUS_CDR 11, 1), (LANE_STATUS_BLOCK 11, 1), (NET_STATUS_STATE 1, 2),
          (LANE_PRBS_CTRL_CHK 11, 1)];
        s.get (LANE_STATUS_STATE 11) = 2 ∧ s.flag (LANE_STATUS_SIG 11) = true ∧ s.flag (LANE_STATUS_CDR 11) = true ∧ s.flag (LANE_STATUS_BLOCK 11) = true ∧
          (s.lane 11).run = 0 ∧ (s.lane 11).win = [] ∧ s.flag (LANE_PRBS_CTRL_CHK 11) = true ∧
          s.get (NET_STATUS_STATE 1) = 2 ∧ s.flag (NET_STATUS_LINK 1) = false) ∧
      (put [(LANE_STATUS_STATE 11, 2)]).flag (LANE_STATUS_BLOCK 11) = false ∧
      (∀ loop ∈ [1, 2, 3], (put [(LANE_CTRL_LOOP 11, loop), (LANE_PRBS_CTRL_GEN 11, 1)]).get (LANE_CTRL_LOOP 11) = loop ∧
        (put [(LANE_CTRL_LOOP 11, loop), (LANE_STATUS_STATE 11, 2)]).far 11 = (loop == 3)) := by decide +kernel

/-- Every lane follows its own EN and its port’s, where lanes 2 to 9, whose EN is set after reset, have begun to acquire. -/
theorem test_SerialLanes_settled :
    ∀ k : Fin 12, (put [(LANE_STATUS_STATE 2, 1), (LANE_STATUS_STATE 3, 1), (LANE_STATUS_STATE 4, 1), (LANE_STATUS_STATE 5, 1),
      (LANE_STATUS_STATE 6, 1), (LANE_STATUS_STATE 7, 1), (LANE_STATUS_STATE 8, 1), (LANE_STATUS_STATE 9, 1)]).laneSettled k := by
  intro k
  revert k
  unfold State.laneSettled
  decide +kernel

/-- A port in OFF, in each state of its training, and ACTIVE; lanes whose numbers are all there within 16 blocks; a pairing that fits
and one that does not. -/
theorem test_met_LinkTraining :
    on.up = true ∧ on.alive = true ∧ on.get (LNK_STATUS_STATE 3) = 0 ∧
      (∀ l ∈ [1, 2, 3, 4], (put [(LNK_STATUS_STATE 3, 1), (LNK_STATUS_LSTATE 3, l)]).get (LNK_STATUS_LSTATE 3) = l ∧
        (put [(LNK_STATUS_STATE 3, 1), (LNK_STATUS_LSTATE 3, l)]).get (LNK_STATUS_STATE 3) = 1) ∧
      (let s := (put [(LNK_STATUS_STATE 3, 1), (LNK_STATUS_LSTATE 3, 3)]).modLane 8 fun r => { r with num := some (0, 5) };
        let u := s.modLane 9 fun r => { r with num := some (1, 21) };
        u.lnkLanes 3 = [8, 9] ∧ (u.lane 8).num = some (0, 5) ∧ (u.lane 9).num = some (1, 21) ∧ u.lnkEar 3 = .peer) ∧
      (put [(LNK_STATUS_LSTATE 3, 5)]).lnkActive 3 = true ∧ (default : CapInfo).role = 0 ∧ on.chainRoot = false := by decide +kernel

/-- An ACTIVE port without packets, with one that its credits let go, with one that they do not, and with each message of class T; a
root with a port to ask, and one with none. -/
theorem test_met_CreditsAndKickoff :
    (let j : LnkJob := { msg := .pkt (pkt 1 []), src := none };
      let s := (put [(LNK_STATUS_LSTATE 3, 5)]).modLnk 3 fun r => { r with txq := [j] };
      s.up = true ∧ s.alive = true ∧ s.lnkActive 3 = true ∧ s.lnkHears 3 = true ∧ (s.lnk 3).txt = [] ∧ (s.lnk 3).txq = [j] ∧
        (s.lnk 3).crN + 0 < msgCredits j.msg ∧ msgCredits j.msg ≤ (s.lnk 3).crN + 64 ∧ on.lnkHears 3 = false ∧ (on.lnk 3).txq = [] ∧
        (∀ m ∈ [TimeMsg.req, .rsp 7], ((on.modLnk 3 fun r => { r with txt := [m] }).lnk 3).txt = [m] ∧
          ((on.modLnk 3 fun r => { r with txt := [m] }).lnk 3).txq = []) ∧ (on.lnk 3).crT + 0 = 0 ∧ 0 < (on.lnk 3).crT + 1) ∧
      (let s : State := { put [(LNK_STATUS_LSTATE 1, 5)] with chainRoot := true };
        s.chainRoot = true ∧ s.get LNK_KICK_STATUS_KSTATE = 0 ∧ s.asked ≠ [] ∧ ({ on with chainRoot := true } : State).asked = []) := by decide +kernel

/-- Blocks that carry a sound packet, for the device, for another one and for none, with hops to spare and with none; blocks that
carry half of one, and none; a READY Ethernet port with a command for another device. -/
theorem test_met_PacketsAndFrames :
    (let s := put [(LNK_STATUS_LSTATE 3, 5), (LNK_STATUS_LSTATE 0, 5), (LNK_ADDR_VALID, 1), (LNK_ADDR_ADDR, 3), (MGT_CMD_STATUS_STATE, 2), (NET_STATUS_STATE 1, 2)];
      let k := pkt 1 (frame 1 0 1 0 []);
      s.alive = true ∧ s.lnkHears 3 = true ∧ heard (pktBlocks k) = .pkt k ∧ k.ty.toNat = 1 ∧ s.flag LNK_ADDR_VALID = true ∧ s.route k (some 3) = .here ∧
        s.route { k with dest := 9 } (some 3) = .port 0 ∧ ({ s with chainRoot := true } : State).route { k with dest := 9 } (some 3) = .none ∧
        heard (pktBlocks { k with hops := 33 }) = .pkt { k with hops := 33 } ∧ heard [] = .nothing ∧
        heard ((pktBlocks k).take 5) = .bad 32 ∧ s.get (NET_STATUS_STATE 1) = 2 ∧ s.ear 1 = .peer ∧ frBcast k.payload = false ∧
        frTarget k.payload ≠ s.get LNK_ADDR_ADDR ∧ s.fwdGet 0 = none ∧ s.fwdGet 63 = none ∧ s.goPend = false) := by decide +kernel

/-- An Ethernet frame in IPv4 and UDP, to the command port, in which a PING for device 0 arrives. -/
theorem test_met_ethCmdForward :
    (let g := frame 1 0 1 0 [];
      let s := put [(NET_STATUS_STATE 1, 2), (MGT_CMD_STATUS_STATE, 2), (LNK_ADDR_VALID, 1), (LNK_ADDR_ADDR, 3),
        (⟨NET_IPV4 1, 0, 32⟩, 0x0A000001), (MGT_CMD_CTRL_PORT, 0x8000)];
      let ip (sum : Nat) : List Byte := beBytes 2 0x4500 ++ beBytes 2 (28 + g.length) ++ List.replicate 4 0 ++ beBytes 2 0x4011 ++
        beBytes 2 sum ++ beBytes 4 0x0A000002 ++ beBytes 4 0x0A000001;
      let x : List Byte := beBytes 6 (s.mac 1) ++ beBytes 6 2 ++ beBytes 2 0x0800 ++ ip (65535 - onesSum (ip 0)) ++
        beBytes 2 9 ++ beBytes 2 0x8000 ++ beBytes 2 (8 + g.length) ++ beBytes 2 0 ++ g;
      (s.cmdFrame 1 x).map Prod.snd = some g ∧ s.accepts 1 g = true ∧ frTarget g ≠ s.get LNK_ADDR_ADDR ∧ frBcast g = false ∧
        s.cmdFrame 1 (x.drop 1) = none) := by decide +kernel

theorem test_met_invariants :
    State.reset.flushed = true ∧ State.reset.queueOk = true ∧ State.reset.regsOk = true ∧ State.reset.memOk = true ∧ State.reset.pending = [] := by decide +kernel

/-- A step of the machine after reset answers a next state. -/
theorem test_step_of_reset :
    ∃ t, step State.reset = .next t := ⟨_, rfl⟩

end Sys2Proof.Tests
end

section
/-! The end of issue of an instruction of a Scan Engine and its flags, and the data instructions (R163, R168, R169). -/

namespace Sys2Proof.Machine

/-! ### Fields of one register -/

/-- Bits outside a list of fields are bits outside each of them. -/
theorem not_fldsMask_of_mem {f : Fld} : ∀ {fs : List Fld}, f ∈ fs → ~~~fldsMask fs = ~~~fldMask f &&& ~~~fldsMask fs
  | g :: fs, h => by
    have hg : ~~~fldsMask (g :: fs) = ~~~fldMask g &&& ~~~fldsMask fs := BitVec.not_or
    rcases List.mem_cons.mp h with rfl | h
    · rw [hg, ← BitVec.and_assoc, BitVec.and_self]
    · rw [hg, not_fldsMask_of_mem h]
      ac_nf

theorem sameBeside_of_rd {off : Nat} {fs : List Fld} {s t : State} (h : t.rd off = s.rd off) : sameBeside off fs s t := by
  rw [sameBeside, h]

theorem sameBeside_trans {off : Nat} {fs : List Fld} {s t u : State} (h : sameBeside off fs s t) (h' : sameBeside off fs t u) :
    sameBeside off fs s u :=
  Eq.trans h' h

theorem sameBeside_set {fs : List Fld} {f : Fld} (s : State) (off v : Nat) (h : f ∈ fs) : sameBeside off fs s (s.set f v) := by
  rw [sameBeside, not_fldsMask_of_mem h, ← BitVec.and_assoc, ← BitVec.and_assoc, rd_set_beside]

theorem sameBeside_setFlag {fs : List Fld} {f : Fld} (s : State) (off : Nat) (c : Bool) (h : f ∈ fs) :
    sameBeside off fs s (s.setFlag f c) :=
  sameBeside_set s off _ h

theorem get_lt (s : State) (f : Fld) : s.get f < 2 ^ f.w := Nat.mod_lt _ (Nat.two_pow_pos _)

theorem flag_setFlag_beside (s : State) (f g : Fld) (c : Bool) (h : f.lo + f.w ≤ 32)
    (hd : f.lo + f.w ≤ g.lo ∨ g.lo + g.w ≤ f.lo) : (s.setFlag f c).flag g = s.flag g :=
  flag_set_beside s f g _ h hd

theorem bitOf_toNat (x : Word) (i : Nat) : bitOf x.toNat i = x.getLsbD i := by
  rw [← BitVec.testBit_toNat, Nat.testBit_eq_decide_div_mod_eq]
  rfl

/-! ### The records after a step -/

theorem flush_eng (s : State) (b : Nat) : s.flush.eng b = s.eng b :=
  congrArg (recGet · b) (sameBut_flush s .engs (by simp))

theorem flush_beam (s : State) (b : Nat) : s.flush.beam b = s.beam b :=
  congrArg (recGet · b) (sameBut_flush s .beams (by simp))

theorem flush_lmem (s : State) : s.flush.lmem = s.lmem := sameBut_flush s .lmem (by simp)

/-! ### Where the registers of an engine lie -/

theorem SCN_G_notMem_pcRegs (b g : Nat) : SCN_G b g ∉ pcRegs b := by
  simp only [pcRegs, EVR_ALERT_PEND, EVR_DROP, SCN_PC, SCN_STATUS, SCN_G, List.mem_cons, List.not_mem_nil, or_false,
    not_or]
  omega

theorem SCN_FLAGS_notMem_pcRegs (b : Nat) : SCN_FLAGS b ∉ pcRegs b := by
  simp only [pcRegs, EVR_ALERT_PEND, EVR_DROP, SCN_PC, SCN_STATUS, SCN_FLAGS, List.mem_cons, List.not_mem_nil, or_false,
    not_or]
  omega

theorem SCN_G_ne_FLAGS (b g : Nat) : SCN_G b g ≠ SCN_FLAGS b := by unfold SCN_G SCN_FLAGS; omega

theorem SCN_PC_ne_STATUS (b : Nat) : SCN_PC b ≠ SCN_STATUS b := by unfold SCN_PC SCN_STATUS; omega

theorem EVR_DROP_ne_SCN_PC (b : Nat) : EVR_DROP ≠ SCN_PC b := by unfold EVR_DROP SCN_PC; omega

theorem EVR_DROP_ne_SCN_STATUS (b : Nat) : EVR_DROP ≠ SCN_STATUS b := by unfold EVR_DROP SCN_STATUS; omega

/-! ### The end of issue (R117, R140, R194) -/

/-- The step of an instruction that goes on to `pc` keeps every register but those of the issue. -/
theorem sameRegs_goto (s : State) (b pc cost : Nat) : sameRegs (pcRegs b) s (s.goto b pc cost).flush := by
  rw [sameRegs_flush_iff _ _ _ (by simp [pcRegs]), State.goto, State.setWait,
    sameRegs_set_iff _ _ _ _ _ (by simp [pcRegs, SCN_STATUS_WAIT]), sameRegs_modEng_iff,
    sameRegs_set_iff _ _ _ _ _ (by simp [pcRegs, SCN_PC_PC]), sameRegs_self]
  trivial

theorem flag_goto {b : Nat} {f : Fld} (s : State) (pc cost : Nat) (h : f.off ∉ pcRegs b) :
    (s.goto b pc cost).flush.flag f = s.flag f := by
  rw [State.flag, State.get, sameRegs_goto s b pc cost _ h]
  rfl

/-- Of SCNn_STATUS, an instruction that goes on writes the wait code alone. -/
theorem sameBeside_STATUS_goto (s : State) (b pc cost : Nat) :
    sameBeside (SCN_STATUS b) [SCN_STATUS_WAIT b] s (s.goto b pc cost).flush := by
  refine sameBeside_trans ?_ (sameBeside_of_rd (rd_flush _ _ (EVR_DROP_ne_SCN_STATUS b)))
  refine sameBeside_trans ?_ (sameBeside_set _ _ _ (List.mem_singleton_self _))
  exact sameBeside_of_rd ((modEng_rd _ _ _ _).trans (rd_set_ne _ _ _ _ (SCN_PC_ne_STATUS b)))

/-- An instruction whose effects are `u`, of which the engine's record is `e`, goes on to `pc` and has spent its cycles. -/
theorem wentOn_goto {ps : List Part} {b : Nat} {e : Eng} {s u : State} (pc cost : Nat) (he : u.eng b = e)
    (ho : ∀ c, c ≠ b → u.eng c = s.eng c) (hs : sameBut (.engs :: ps) s u) :
    wentOn ps b pc { e with used := e.used + cost } s (u.goto b pc cost).flush := by
  refine ⟨?_, ?_, ?_, fun c hc => ?_, ?_⟩
  · rw [get_flush _ _ (EVR_DROP_ne_SCN_PC b), State.goto, State.setWait, get_set_ne _ _ _ _ (SCN_PC_ne_STATUS b).symm,
      modEng_get, get_set_self _ _ _ (by simp [SCN_PC_PC])]
    rfl
  · rw [get_flush _ _ (EVR_DROP_ne_SCN_STATUS b), State.goto, State.setWait, get_set_self _ _ _ (by simp [SCN_STATUS_WAIT]),
      Nat.zero_mod]
  · rw [flush_eng, State.goto, State.setWait, set_eng, modEng_eng, if_pos rfl, set_eng, he]
  · rw [flush_eng, State.goto, State.setWait, set_eng, modEng_eng, if_neg hc.symm, set_eng, ho c hc]
  · simpa [State.goto, State.setWait] using hs

/-- An instruction that has changed the registers `l` and the parts `ps` of `f`, and now goes on to the next one. -/
theorem done_frame {ps : List Part} {b : Nat} {l : List Nat} {f u : State} (cost : Nat) (hr : sameRegs l f u)
    (hl : ∀ o ∈ l, o ∉ pcRegs b) (he : ∀ c, u.eng c = f.eng c) (hs : sameBut ps f u) :
    sameRegs (l ++ pcRegs b) f (u.done b cost).flush ∧
      wentOn ps b (f.get (SCN_PC_PC b) + 8) { f.eng b with used := (f.eng b).used + cost } f (u.done b cost).flush ∧
      sameBeside (SCN_STATUS b) [SCN_STATUS_WAIT b] f (u.done b cost).flush := by
  have hkeep : ∀ o ∈ pcRegs b, u.rd o = f.rd o := fun o ho => hr o fun hm => hl o hm ho
  have hget : u.get (SCN_PC_PC b) = f.get (SCN_PC_PC b) := congrArg (fldOf _ _) (hkeep (SCN_PC b) (by simp [pcRegs]))
  refine ⟨?_, ?_, sameBeside_trans (sameBeside_of_rd (hkeep _ (by simp [pcRegs]))) (sameBeside_STATUS_goto u b _ cost)⟩
  · exact sameRegs_trans (sameRegs_mono hr fun o ho => List.mem_append_left _ ho)
      (sameRegs_mono (sameRegs_goto u b _ cost) fun o ho => List.mem_append_right _ ho)
  · rw [← hget]
    exact wentOn_goto _ cost (he b) (fun c _ => he c) (sameBut_mono hs fun _ => List.mem_cons_of_mem _)

/-! ### The flags (R115, R163) -/

/-- Write Z and N. -/
def State.putZN (s : State) (b : Nat) (z n : Bool) : State := (s.setFlag (SCN_FLAGS_Z b) z).setFlag (SCN_FLAGS_N b) n

/-- Write Z, N and C. -/
def State.putZNC (s : State) (b : Nat) (z n c : Bool) : State := (s.putZN b z n).setFlag (SCN_FLAGS_C b) c

theorem setZN_eq (s : State) (b : Nat) (v : Word) : s.setZN b v = s.putZN b (v == 0) (v.getLsbD 31) := by
  rw [State.setZN, BitVec.msb_eq_getLsbD_last]
  rfl

theorem setZNC_eq (s : State) (b : Nat) (v : Word) (c : Bool) : s.setZNC b v c = s.putZNC b (v == 0) (v.getLsbD 31) c := by
  rw [State.setZNC, setZN_eq]
  rfl

theorem setCmp_eq (s : State) (b : Nat) (x y : Word) :
    s.setCmp b x y = s.putZNC b (x == y) (decide (x.toInt < y.toInt)) (decide (x.toNat < y.toNat)) := rfl

section
variable (s : State) (b : Nat) (z n c : Bool)

@[simp] theorem putZN_flag_Z : (s.putZN b z n).flag (SCN_FLAGS_Z b) = z := by
  rw [State.putZN, flag_setFlag_beside _ _ _ _ (by simp [SCN_FLAGS_N]) (by simp [SCN_FLAGS_N, SCN_FLAGS_Z]),
    flag_setFlag_self _ _ _ (by simp [SCN_FLAGS_Z]) (by simp [SCN_FLAGS_Z])]

@[simp] theorem putZN_flag_N : (s.putZN b z n).flag (SCN_FLAGS_N b) = n :=
  flag_setFlag_self _ _ _ (by simp [SCN_FLAGS_N]) (by simp [SCN_FLAGS_N])

@[simp] theorem putZNC_flag_Z : (s.putZNC b z n c).flag (SCN_FLAGS_Z b) = z :=
  (flag_setFlag_beside _ _ _ _ (by simp [SCN_FLAGS_C]) (by simp [SCN_FLAGS_C, SCN_FLAGS_Z])).trans (putZN_flag_Z s b z n)

@[simp] theorem putZNC_flag_N : (s.putZNC b z n c).flag (SCN_FLAGS_N b) = n :=
  (flag_setFlag_beside _ _ _ _ (by simp [SCN_FLAGS_C]) (by simp [SCN_FLAGS_C, SCN_FLAGS_N])).trans (putZN_flag_N s b z n)

@[simp] theorem putZNC_flag_C : (s.putZNC b z n c).flag (SCN_FLAGS_C b) = c :=
  flag_setFlag_self _ _ _ (by simp [SCN_FLAGS_C]) (by simp [SCN_FLAGS_C])

theorem sameRegs_putZN : sameRegs [SCN_FLAGS b] s (s.putZN b z n) := by
  rw [State.putZN, sameRegs_setFlag_iff _ _ _ _ _ (by simp [SCN_FLAGS_N]), sameRegs_setFlag_iff _ _ _ _ _ (by simp [SCN_FLAGS_Z])]
  exact sameRegs_refl _ s

theorem sameRegs_putZNC : sameRegs [SCN_FLAGS b] s (s.putZNC b z n c) := by
  rw [State.putZNC, sameRegs_setFlag_iff _ _ _ _ _ (by simp [SCN_FLAGS_C])]
  exact sameRegs_putZN s b z n

theorem sameBut_putZN : sameBut [] s (s.putZN b z n) := sameBut_trans (sameBut_setFlag _ _ _) (sameBut_setFlag _ _ _)

theorem sameBut_putZNC : sameBut [] s (s.putZNC b z n c) := sameBut_trans (sameBut_putZN s b z n) (sameBut_setFlag _ _ _)

theorem sameBeside_putZN : sameBeside (SCN_FLAGS b) [SCN_FLAGS_Z b, SCN_FLAGS_N b] s (s.putZN b z n) :=
  sameBeside_trans (sameBeside_setFlag _ _ _ (by simp)) (sameBeside_setFlag _ _ _ (by simp))

theorem sameBeside_putZNC : sameBeside (SCN_FLAGS b) [SCN_FLAGS_Z b, SCN_FLAGS_N b, SCN_FLAGS_C b] s (s.putZNC b z n c) :=
  sameBeside_trans (sameBeside_trans (sameBeside_setFlag _ _ _ (by simp)) (sameBeside_setFlag _ _ _ (by simp)))
    (sameBeside_setFlag _ _ _ (by simp))

/-- Going on leaves the flags as they are. -/
theorem sameBeside_FLAGS_goto (pc cost : Nat) (fs : List Fld) : sameBeside (SCN_FLAGS b) fs s (s.goto b pc cost).flush :=
  sameBeside_of_rd (sameRegs_goto s b pc cost _ (SCN_FLAGS_notMem_pcRegs b))

theorem putZN_done (cost : Nat) :
    let t := ((s.putZN b z n).done b cost).flush
    t.flag (SCN_FLAGS_Z b) = z ∧ t.flag (SCN_FLAGS_N b) = n ∧
      sameBeside (SCN_FLAGS b) [SCN_FLAGS_Z b, SCN_FLAGS_N b] s t :=
  ⟨(flag_goto _ _ _ (SCN_FLAGS_notMem_pcRegs b)).trans (putZN_flag_Z ..),
    (flag_goto _ _ _ (SCN_FLAGS_notMem_pcRegs b)).trans (putZN_flag_N ..),
    sameBeside_trans (sameBeside_putZN ..) (sameBeside_FLAGS_goto ..)⟩

theorem putZNC_done (cost : Nat) :
    let t := ((s.putZNC b z n c).done b cost).flush
    t.flag (SCN_FLAGS_Z b) = z ∧ t.flag (SCN_FLAGS_N b) = n ∧ t.flag (SCN_FLAGS_C b) = c ∧
      sameBeside (SCN_FLAGS b) [SCN_FLAGS_Z b, SCN_FLAGS_N b, SCN_FLAGS_C b] s t :=
  ⟨(flag_goto _ _ _ (SCN_FLAGS_notMem_pcRegs b)).trans (putZNC_flag_Z ..),
    (flag_goto _ _ _ (SCN_FLAGS_notMem_pcRegs b)).trans (putZNC_flag_N ..),
    (flag_goto _ _ _ (SCN_FLAGS_notMem_pcRegs b)).trans (putZNC_flag_C ..),
    sameBeside_trans (sameBeside_putZNC ..) (sameBeside_FLAGS_goto ..)⟩

end

/-! ### Results (R168 to R170) -/

theorem gReg_goto (s : State) (b g pc cost : Nat) : (s.goto b pc cost).flush.gReg b g = s.gReg b g :=
  sameRegs_goto s b pc cost _ (SCN_G_notMem_pcRegs b g)

theorem sameRegs_wr_G (s : State) (b g : Nat) (v : Word) : sameRegs [SCN_G b g] s (s.wr (SCN_G b g) v) :=
  (sameRegs_wr_iff _ _ _ _ _ (List.mem_singleton_self _)).mpr (sameRegs_refl _ s)

theorem sameBeside_FLAGS_wr_G (s : State) (b g : Nat) (v : Word) (fs : List Fld) :
    sameBeside (SCN_FLAGS b) fs s (s.wr (SCN_G b g) v) :=
  sameBeside_of_rd (rd_wr_ne _ _ _ _ (SCN_G_ne_FLAGS b g))

/-- Flags written after a general register leave it as it is. -/
theorem gReg_of_sameRegs_FLAGS {s u : State} {b g : Nat} {v : Word} (h : sameRegs [SCN_FLAGS b] (s.wr (SCN_G b g) v) u) :
    u.gReg b g = v :=
  (h _ (by simp [SCN_G_ne_FLAGS])).trans (rd_wr_self _ _ _)

theorem sameRegs_G_FLAGS {s u : State} {b g : Nat} {v : Word} (h : sameRegs [SCN_FLAGS b] (s.wr (SCN_G b g) v) u) :
    sameRegs [SCN_G b g, SCN_FLAGS b] s u :=
  sameRegs_trans (sameRegs_mono (sameRegs_wr_G s b g v) (by simp)) (sameRegs_mono h (by simp))

/-- A data instruction of two cycles of engine `b` has put `v` into general register `g` and `c` into C, and goes on. -/
def dataResult (b g : Nat) (v : Word) (c : Bool) (f t : State) : Prop :=
  t.gReg b g = v ∧ t.flag (SCN_FLAGS_Z b) = (v == 0) ∧ t.flag (SCN_FLAGS_N b) = v.getLsbD 31 ∧ t.flag (SCN_FLAGS_C b) = c ∧
    sameBeside (SCN_FLAGS b) [SCN_FLAGS_Z b, SCN_FLAGS_N b, SCN_FLAGS_C b] f t ∧
    sameRegs (SCN_G b g :: SCN_FLAGS b :: pcRegs b) f t ∧
    wentOn [] b (f.get (SCN_PC_PC b) + 8) { f.eng b with used := (f.eng b).used + 2 } f t ∧
    sameBeside (SCN_STATUS b) [SCN_STATUS_WAIT b] f t

theorem dataResult_done (b g : Nat) (v : Word) (c : Bool) (f : State) :
    dataResult b g v c f (((f.wr (SCN_G b g) v).setZNC b v c).done b 2).flush := by
  rw [setZNC_eq]
  have hu := sameRegs_putZNC (f.wr (SCN_G b g) v) b (v == 0) (v.getLsbD 31) c
  obtain ⟨hz, hn, hc, hbeside⟩ := putZNC_done (f.wr (SCN_G b g) v) b (v == 0) (v.getLsbD 31) c 2
  refine ⟨(gReg_goto _ b g _ 2).trans (gReg_of_sameRegs_FLAGS hu), hz, hn, hc,
    sameBeside_trans (sameBeside_FLAGS_wr_G f b g v _) hbeside, done_frame 2 (sameRegs_G_FLAGS hu) ?_ (fun _ => rfl) ?_⟩
  · simp [SCN_G_notMem_pcRegs, SCN_FLAGS_notMem_pcRegs]
  · exact sameBut_trans (sameBut_wr f _ v) (sameBut_putZNC _ b _ _ c)

section
variable {s : State} {b : Fin 32} {n : Fin 5} {x : BitVec 64}

theorem exec_add (h : s.issues b 0x29 none x) : ∃ t, exec (.add b n) s = .next t ∧
    dataResult b (iA x) (s.opA b x + s.opX b x) (carryAdd (s.opA b x) (s.opX b x)) (s.primed b n) t :=
  ⟨_, run_issue (execAddIns b) h, dataResult_done ..⟩

theorem exec_sub (h : s.issues b 0x2A none x) : ∃ t, exec (.sub b n) s = .next t ∧
    dataResult b (iA x) (s.opA b x - s.opX b x) (borrowSub (s.opA b x) (s.opX b x)) (s.primed b n) t :=
  ⟨_, run_issue (execSubIns b) h, dataResult_done ..⟩

theorem exec_and (h : s.issues b 0x2B none x) : ∃ t, exec (.and b n) s = .next t ∧
    dataResult b (iA x) (s.opA b x &&& s.opX b x) false (s.primed b n) t :=
  ⟨_, run_issue (execAndIns b) h, dataResult_done ..⟩

theorem exec_or (h : s.issues b 0x2C none x) : ∃ t, exec (.or b n) s = .next t ∧
    dataResult b (iA x) (s.opA b x ||| s.opX b x) false (s.primed b n) t :=
  ⟨_, run_issue (execOrIns b) h, dataResult_done ..⟩

/-- R169: the bit that SHL by `k` shifts out last is bit `32 - k`. -/
theorem exec_shl (h : s.issues b 0x2D none x) : ∃ t, exec (.shl b n) s = .next t ∧
    dataResult b (iA x) (s.opA b x <<< s.shiftBy b x)
      (s.shiftBy b x != 0 && (s.opA b x).getLsbD (32 - s.shiftBy b x)) (s.primed b n) t := by
  rw [← bitOf_toNat]
  exact ⟨_, run_issue (execShlIns b) h, dataResult_done ..⟩

/-- R169: the bit that SHR by `k` shifts out last is bit `k - 1`; forms 0 and 1 fill with zeros, the others with bit 31. -/
theorem exec_shr (h : s.issues b 0x2E none x) : ∃ t, exec (.shr b n) s = .next t ∧
    dataResult b (iA x)
      (if iM x < 2 then s.opA b x >>> s.shiftBy b x else (s.opA b x).sshiftRight (s.shiftBy b x))
      (s.shiftBy b x != 0 && (s.opA b x).getLsbD (s.shiftBy b x - 1)) (s.primed b n) t := by
  have hfill : (if iM x < 2 then s.opA b x >>> s.shiftBy b x else (s.opA b x).sshiftRight (s.shiftBy b x)) =
      (shrRes (decide (2 ≤ iM x)) (s.opA b x) (s.shiftBy b x)).1 := by
    by_cases hm : iM x < 2
    · simp [shrRes, hm, Nat.not_le.mpr hm]
    · simp [shrRes, hm, Nat.not_lt.mp hm]
  rw [← bitOf_toNat, hfill]
  exact ⟨_, run_issue (execShrIns b) h, dataResult_done ..⟩

end

/-! ### The data instructions -/

/-- Settles O6. Each instruction is its result written to registers, then the common end of issue. -/
theorem dataInstructions : Obligations.DataInstructions := by
  refine ⟨fun s b n x => ⟨fun h => ?ldi, exec_add, exec_sub, exec_and, exec_or, fun h => ?cmp⟩, fun s b n x => ⟨exec_shl, exec_shr⟩⟩
  case ldi =>
    exact ⟨_, run_issue (execLdiIns b) h, (gReg_goto _ b _ _ 2).trans (rd_wr_self _ _ _),
      done_frame 2 (sameRegs_wr_G _ b _ _) (by simp [SCN_G_notMem_pcRegs]) (fun _ => rfl) (sameBut_wr _ _ _)⟩
  case cmp =>
    refine ⟨_, run_issue (execCmpIns b) h, ?_⟩
    rw [execCmpIns, setCmp_eq]
    obtain ⟨hz, hn, hc, hbeside⟩ := putZNC_done (s.primed b n) b (s.opA b x == s.opX b x)
      (decide ((s.opA b x).toInt < (s.opX b x).toInt)) (decide ((s.opA b x).toNat < (s.opX b x).toNat)) 2
    exact ⟨hz, hn, hc, hbeside,
      done_frame 2 (sameRegs_putZNC _ b _ _ _) (by simp [SCN_FLAGS_notMem_pcRegs]) (fun _ => rfl) (sameBut_putZNC _ b _ _ _)⟩

end Sys2Proof.Machine
end

section
/-! What a safe-stop cause, a trap and a wait for a page leave (R104, R119, R191), and the loads and stores (R163, R170). -/

namespace Sys2Proof.Machine

theorem raise_eng (s : State) (id inst : Nat) (arg : Word) (c : Nat) : (s.raise id inst arg).eng c = s.eng c := (rfl)

theorem raise_beam (s : State) (id inst : Nat) (arg : Word) (c : Nat) : (s.raise id inst arg).beam c = s.beam c := (rfl)

theorem raise_ssNow (s : State) (id inst : Nat) (arg : Word) : (s.raise id inst arg).ssNow = s.ssNow := (rfl)

/-! ### A safe-stop cause (R104) -/

theorem ssDeaf_congr {s t : State} {b : Nat} (cause : Nat) (hb : t.beam b = s.beam b) (hr : t.rd (BIO_STATUS b) = s.rd (BIO_STATUS b))
    (hn : t.ssNow = s.ssNow) : t.ssDeaf b cause = s.ssDeaf b cause := by
  have hget : ∀ f : Fld, f.off = BIO_STATUS b → t.get f = s.get f := fun f hf => by rw [State.get, hf, hr, ← hf]; rfl
  simp only [State.ssDeaf, State.isOff, State.flag, hget (BIO_STATUS_STATE b) rfl, hget (BIO_STATUS_SAFE b) rfl, hb, hn]

/-- Everything that a safe-stop cause can change. -/
theorem ssRequest_frame (s : State) (b cause : Nat) :
    (s.ssRequest b cause).evNew = s.evNew ∧ (s.ssRequest b cause).evq = s.evq ∧ (∀ c, (s.ssRequest b cause).eng c = s.eng c) ∧
    (∀ c, c ≠ b → (s.ssRequest b cause).beam c = s.beam c) ∧ sameRegs [BIO_SS_CAUSE b] s (s.ssRequest b cause) ∧
    sameBut [.beams] s (s.ssRequest b cause) := by
  unfold State.ssRequest
  split
  · exact ⟨rfl, rfl, fun _ => rfl, fun _ _ => rfl, sameRegs_refl _ s, sameBut_refl _ s⟩
  · refine ⟨rfl, rfl, fun _ => rfl, fun c hc => ?_, ?_, ?_⟩
    · exact (modBeam_beam (s.set (BIO_SS_CAUSE_CAUSE b) cause) b (fun r => { r with ssPend := cause }) c).trans (if_neg hc.symm)
    · exact (sameRegs_set_iff _ _ _ (BIO_SS_CAUSE_CAUSE b) cause (List.mem_singleton_self _)).mpr (sameRegs_refl _ s)
    · exact sameBut_trans (sameBut_mono (sameBut_set s (BIO_SS_CAUSE_CAUSE b) cause) (by simp))
        (sameBut_trans (sameBut_modBeam _ b fun r => { r with ssPend := cause }) (sameBut_of fun p => by cases p <;> rfl))

theorem stopAsked_ssRequest (s : State) (b : Nat) {cause : Nat} (hc : cause < 16) : stopAsked b cause s (s.ssRequest b cause) := by
  unfold stopAsked State.ssRequest
  split
  · exact ⟨rfl, rfl⟩
  · refine ⟨?_, ?_⟩
    · exact congrArg Beam.ssPend ((modBeam_beam (s.set (BIO_SS_CAUSE_CAUSE b) cause) b (fun r => { r with ssPend := cause }) b).trans (if_pos rfl))
    · exact (get_set_self s (BIO_SS_CAUSE_CAUSE b) cause (by simp [BIO_SS_CAUSE_CAUSE])).trans (Nat.mod_eq_of_lt hc)

theorem stopAsked_flush {s t : State} {b cause : Nat} (h : stopAsked b cause s t) : stopAsked b cause s t.flush := by
  have hne : EVR_DROP ≠ BIO_SS_CAUSE b := by unfold EVR_DROP BIO_SS_CAUSE; omega
  unfold stopAsked at h ⊢
  rwa [flush_beam, get_flush t (BIO_SS_CAUSE_CAUSE b) hne]

/-- A cause is put to a beam by what its record, the channel's status and the causes of this cycle are. -/
theorem stopAsked_of_same {s s' t : State} {b cause : Nat} (h : stopAsked b cause s' t) (hb : s'.beam b = s.beam b)
    (hr : s'.rd (BIO_STATUS b) = s.rd (BIO_STATUS b)) (hc : s'.rd (BIO_SS_CAUSE b) = s.rd (BIO_SS_CAUSE b))
    (hn : s'.ssNow = s.ssNow) : stopAsked b cause s t := by
  have hget : s'.get (BIO_SS_CAUSE_CAUSE b) = s.get (BIO_SS_CAUSE_CAUSE b) := congrArg (fldOf _ _) hc
  unfold stopAsked at h ⊢
  rwa [ssDeaf_congr cause hb hr hn, hb, hget] at h

/-! ### A trap (R191) -/

/-- A trap before its report: issue has stopped, and the trap registers and the latch are written. -/
def State.trapMarked (s : State) (b cause pc : Nat) (info : Word) : State :=
  let s := s.modEng b fun e => { e with stopped := true, wait := .none, ready := none, fillB := none }
  let s := ((s.set (SCN_TRAP_CAUSE b) cause).set (SCN_TRAP_PC b) pc).wr (SCN_TRAP_INFO b) info
  (s.setFlag (SCN_STATUS_TRAPPED b) true).setWait b 0

theorem trapAt_eq (s : State) (b cause pc : Nat) (info : Word) :
    s.trapAt b cause pc info = ((s.trapMarked b cause pc info).raise 0x055 b).ssRequest b 0xD := rfl

section
variable (s : State) (b cause pc : Nat) (info : Word)

theorem sameRegs_trapMarked : sameRegs [SCN_TRAP b, SCN_TRAP_INFO b, SCN_STATUS b] s (s.trapMarked b cause pc info) := by
  unfold State.trapMarked State.setWait
  rw [sameRegs_set_iff _ _ _ _ _ (by simp [SCN_STATUS_WAIT]), sameRegs_setFlag_iff _ _ _ _ _ (by simp [SCN_STATUS_TRAPPED]),
    sameRegs_wr_iff _ _ _ _ _ (by simp), sameRegs_set_iff _ _ _ _ _ (by simp [SCN_TRAP_PC]),
    sameRegs_set_iff _ _ _ _ _ (by simp [SCN_TRAP_CAUSE]), sameRegs_modEng_iff]
  exact sameRegs_refl _ s

theorem sameBut_trapMarked : sameBut [.engs] s (s.trapMarked b cause pc info) := by simp [State.trapMarked, State.setWait]

theorem trapMarked_stopped : ((s.trapMarked b cause pc info).eng b).stopped = true :=
  congrArg Eng.stopped ((modEng_eng s b (fun e => { e with stopped := true, wait := .none, ready := none, fillB := none }) b).trans
    (if_pos rfl))

theorem trapMarked_eng_ne {c : Nat} (h : c ≠ b) : (s.trapMarked b cause pc info).eng c = s.eng c :=
  (modEng_eng s b (fun e => { e with stopped := true, wait := .none, ready := none, fillB := none }) c).trans (if_neg h.symm)

theorem trapMarked_beam (c : Nat) : (s.trapMarked b cause pc info).beam c = s.beam c := by
  simp [State.trapMarked, State.setWait]

theorem trapMarked_ssNow : (s.trapMarked b cause pc info).ssNow = s.ssNow := by
  simp [State.trapMarked, State.setWait]

theorem trapMarked_evq : (s.trapMarked b cause pc info).evq = s.evq := by
  simp [State.trapMarked, State.setWait]

theorem trapMarked_rd (off : Nat) (h : SCN_STATUS b ≠ off) : (s.trapMarked b cause pc info).rd off =
    (((s.set (SCN_TRAP_CAUSE b) cause).set (SCN_TRAP_PC b) pc).wr (SCN_TRAP_INFO b) info).rd off :=
  (rd_set_ne _ (SCN_STATUS_WAIT b) _ _ h).trans (rd_setFlag_ne _ (SCN_STATUS_TRAPPED b) _ _ h)

theorem trapMarked_rd_TRAP : (s.trapMarked b cause pc info).rd (SCN_TRAP b) =
    ((s.set (SCN_TRAP_CAUSE b) cause).set (SCN_TRAP_PC b) pc).rd (SCN_TRAP b) :=
  (trapMarked_rd s b cause pc info _ (by unfold SCN_STATUS SCN_TRAP; omega)).trans
    (rd_wr_ne _ _ _ _ (by unfold SCN_TRAP_INFO SCN_TRAP; omega))

theorem trapMarked_cause (hc : cause < 16) : (s.trapMarked b cause pc info).get (SCN_TRAP_CAUSE b) = cause :=
  calc (s.trapMarked b cause pc info).get (SCN_TRAP_CAUSE b)
    _ = ((s.set (SCN_TRAP_CAUSE b) cause).set (SCN_TRAP_PC b) pc).get (SCN_TRAP_CAUSE b) :=
        congrArg (fldOf _ _) (trapMarked_rd_TRAP s b cause pc info)
    _ = (s.set (SCN_TRAP_CAUSE b) cause).get (SCN_TRAP_CAUSE b) :=
        get_set_beside _ _ _ _ (by simp [SCN_TRAP_PC]) (by simp [SCN_TRAP_PC, SCN_TRAP_CAUSE])
    _ = cause := (get_set_self _ _ _ (by simp [SCN_TRAP_CAUSE])).trans (Nat.mod_eq_of_lt hc)

theorem trapMarked_pc (hpc : pc < 65536) : (s.trapMarked b cause pc info).get (SCN_TRAP_PC b) = pc :=
  calc (s.trapMarked b cause pc info).get (SCN_TRAP_PC b)
    _ = ((s.set (SCN_TRAP_CAUSE b) cause).set (SCN_TRAP_PC b) pc).get (SCN_TRAP_PC b) :=
        congrArg (fldOf _ _) (trapMarked_rd_TRAP s b cause pc info)
    _ = pc := (get_set_self _ _ _ (by simp [SCN_TRAP_PC])).trans (Nat.mod_eq_of_lt hpc)

theorem trapMarked_info : (s.trapMarked b cause pc info).rd (SCN_TRAP_INFO b) = info :=
  (trapMarked_rd s b cause pc info _ (by unfold SCN_STATUS SCN_TRAP_INFO; omega)).trans (rd_wr_self _ _ _)

theorem trapMarked_trapped : (s.trapMarked b cause pc info).flag (SCN_STATUS_TRAPPED b) = true :=
  (flag_set_beside _ (SCN_STATUS_WAIT b) _ 0 (by simp [SCN_STATUS_WAIT]) (by simp [SCN_STATUS_WAIT, SCN_STATUS_TRAPPED])).trans
    (flag_setFlag_self _ _ _ (by simp [SCN_STATUS_TRAPPED]) (by simp [SCN_STATUS_TRAPPED]))

end

/-- The report of an event and a safe-stop cause keep every register but those of events and the cause. -/
theorem sameRegs_raise_ssRequest (s : State) (b id inst cause : Nat) (arg : Word) :
    sameRegs [EVR_ALERT_PEND, EVR_DROP, BIO_SS_CAUSE b] s ((s.raise id inst arg).ssRequest b cause).flush := by
  obtain ⟨-, -, -, -, hregs, -⟩ := ssRequest_frame (s.raise id inst arg) b cause
  refine sameRegs_flush (sameRegs_trans ?_ (sameRegs_mono hregs (by simp))) (by simp)
  exact (sameRegs_raise_iff _ _ _ _ _ _ (by simp)).mpr (sameRegs_refl _ s)

/-- An event raised before a safe-stop cause is recorded when the step ends. -/
theorem recorded_raise_ssRequest {s u : State} (b cause id inst : Nat) (arg : Word) (hid : id < 0x400) (hq : u.evq = s.evq) :
    recorded s ((u.raise id inst arg).ssRequest b cause).flush id inst := by
  obtain ⟨hnew, hevq, -, -, hregs, -⟩ := ssRequest_frame (u.raise id inst arg) b cause
  obtain ⟨e, he, heid, heinst, -⟩ := raise_evNew u id inst arg
  refine recorded_flush s _ id inst e (by simp [hnew, he]) heid heinst (hevq.trans hq) ?_
  rw [State.rdN, hregs EVR_ALERT_PEND (by simp only [EVR_ALERT_PEND, BIO_SS_CAUSE, List.mem_singleton]; omega)]
  exact bitOf_raise u id inst arg hid

theorem trapRegs_notMem {b off : Nat} (h : off ∈ [SCN_TRAP b, SCN_TRAP_INFO b, SCN_STATUS b]) :
    off ∉ [EVR_ALERT_PEND, EVR_DROP, BIO_SS_CAUSE b] := by
  simp only [SCN_TRAP, SCN_TRAP_INFO, SCN_STATUS, EVR_ALERT_PEND, EVR_DROP, BIO_SS_CAUSE, List.mem_cons, List.not_mem_nil,
    or_false, not_or] at h ⊢
  omega

/-- A reported trap has not written the beam channel's status or the cause of its safe stop. -/
theorem rd_raise_trapMarked (s : State) {b off : Nat} (cause pc id inst : Nat) (info arg : Word)
    (h : off = BIO_STATUS b ∨ off = BIO_SS_CAUSE b) : ((s.trapMarked b cause pc info).raise id inst arg).rd off = s.rd off := by
  have hne : EVR_ALERT_PEND ≠ off ∧ off ∉ [SCN_TRAP b, SCN_TRAP_INFO b, SCN_STATUS b] := by
    simp only [EVR_ALERT_PEND, SCN_TRAP, SCN_TRAP_INFO, SCN_STATUS, BIO_STATUS, BIO_SS_CAUSE, List.mem_cons, List.not_mem_nil,
      or_false, not_or] at h ⊢
    omega
  exact (rd_raise_ne _ _ _ _ _ hne.1).trans (sameRegs_trapMarked s b cause pc info _ hne.2)

/-- A trap of engine `b` records its cause, address and information, reports it, and puts the beam into safe stop (R191). -/
theorem trapped_trapAt (s : State) {b cause pc : Nat} (info : Word) (hc : cause < 16) (hpc : pc < 65536) :
    trapped b cause pc info s (s.trapAt b cause pc info).flush := by
  rw [trapAt_eq]
  have hmark := sameRegs_trapMarked s b cause pc info
  have hstop := stopAsked_ssRequest ((s.trapMarked b cause pc info).raise 0x055 b) b (cause := 0xD) (by decide)
  have hregs := sameRegs_raise_ssRequest (s.trapMarked b cause pc info) b 0x055 b 0xD 0
  obtain ⟨-, -, hengs, hbeams, -, hparts⟩ := ssRequest_frame ((s.trapMarked b cause pc info).raise 0x055 b) b 0xD
  have hrd : ∀ off ∈ [SCN_TRAP b, SCN_TRAP_INFO b, SCN_STATUS b],
      (((s.trapMarked b cause pc info).raise 0x055 b).ssRequest b 0xD).flush.rd off = (s.trapMarked b cause pc info).rd off :=
    fun off h => hregs off (trapRegs_notMem h)
  have heng : ∀ c, (((s.trapMarked b cause pc info).raise 0x055 b).ssRequest b 0xD).flush.eng c =
      (s.trapMarked b cause pc info).eng c := fun c => (flush_eng _ c).trans ((hengs c).trans (raise_eng _ _ _ _ c))
  refine ⟨?_, ?_, ?_, ?_, ?_, recorded_raise_ssRequest b 0xD _ b 0 (by decide) (trapMarked_evq ..), ?_, fun c h => ⟨?_, ?_⟩, ?_, ?_⟩
  · exact (congrArg (fldOf _ _) (hrd (SCN_TRAP b) (by simp))).trans (trapMarked_cause s b cause pc info hc)
  · exact (congrArg (fldOf _ _) (hrd (SCN_TRAP b) (by simp))).trans (trapMarked_pc s b cause pc info hpc)
  · exact (hrd (SCN_TRAP_INFO b) (by simp)).trans (trapMarked_info s b cause pc info)
  · exact (congrArg (fldOf _ _ · != 0) (hrd (SCN_STATUS b) (by simp))).trans (trapMarked_trapped s b cause pc info)
  · rw [heng, trapMarked_stopped]
  · exact stopAsked_of_same (stopAsked_flush hstop) ((raise_beam ..).trans (trapMarked_beam ..))
      (rd_raise_trapMarked s cause pc _ b info 0 (.inl rfl)) (rd_raise_trapMarked s cause pc _ b info 0 (.inr rfl))
      ((raise_ssNow ..).trans (trapMarked_ssNow ..))
  · rw [heng, trapMarked_eng_ne _ _ _ _ _ h]
  · exact (flush_beam _ c).trans ((hbeams c h).trans ((raise_beam ..).trans (trapMarked_beam ..)))
  · exact sameRegs_trans (sameRegs_mono hmark (by simp)) (sameRegs_mono hregs (by simp))
  · refine (sameBut_flush_iff _ _ _).mpr (sameBut_trans ?_ (sameBut_mono hparts (by simp)))
    exact (sameBut_raise_iff _ _ _ _ _ _).mpr (sameBut_mono (sameBut_trapMarked s b cause pc info) (by simp))

/-- A trap of the instruction now issuing. -/
theorem trapped_trap (s : State) {b cause : Nat} (info : Word) (hc : cause < 16) :
    trapped b cause (s.get (SCN_PC_PC b)) info s (s.trap b cause info).flush :=
  trapped_trapAt s info hc (get_lt s (SCN_PC_PC b))

/-! ### A wait for a page (R119) -/

theorem waitsFor_waitPage (s : State) (b : Nat) : waitsFor b 3 s (s.waitPage b).flush := by
  refine ⟨?_, ?_, ?_, ?_⟩
  · exact (get_flush _ _ (EVR_DROP_ne_SCN_STATUS b)).trans (get_set_self _ _ _ (by simp [SCN_STATUS_WAIT]))
  · exact sameRegs_flush ((sameRegs_set_iff _ _ _ _ _ (by simp [SCN_STATUS_WAIT])).mpr (sameRegs_refl _ s)) (by simp)
  · exact sameBeside_trans (sameBeside_set _ _ _ (by simp)) (sameBeside_of_rd (rd_flush _ _ (EVR_DROP_ne_SCN_STATUS b)))
  · exact (sameBut_flush_iff _ _ _).mpr (sameBut_set _ _ _)

/-! ### Loads and stores (R170) -/

theorem badWordAddr_iff (a : Int) : badWordAddr a = true ↔ a < 0 ∨ 0xFFFC < a ∨ a % 4 ≠ 0 := by
  simp [badWordAddr, or_assoc]

/-- The three ways of LD and ST: a bad address traps, an absent page is waited for, and otherwise the access `u` is made. -/
theorem memAccess {s : State} {b : Nat} {a : Int} {u : State} {P : State → Prop} (h : P u.flush) :
    let t := (if badWordAddr a then s.trap b tcMem (wordOf a) else if !s.present b a.toNat then s.waitPage b else u).flush
    if a < 0 ∨ 0xFFFC < a ∨ a % 4 ≠ 0 then trapped b 4 (s.get (SCN_PC_PC b)) (BitVec.ofInt 32 a) s t
    else if s.present b a.toNat then P t
    else waitsFor b 3 s t := by
  by_cases hbad : badWordAddr a = true
  · rw [if_pos hbad, if_pos ((badWordAddr_iff a).mp hbad)]
    exact trapped_trap s (wordOf a) (by decide)
  · rw [if_neg hbad, if_neg (mt (badWordAddr_iff a).mpr hbad)]
    by_cases hpage : s.present b a.toNat = true
    · simpa [hpage] using h
    · simpa [hpage] using waitsFor_waitPage s b

/-- LD of engine `b` has put `v` into general register `g`, and goes on. -/
def ldResult (b g : Nat) (v : Word) (f t : State) : Prop :=
  t.gReg b g = v ∧ t.flag (SCN_FLAGS_Z b) = (v == 0) ∧ t.flag (SCN_FLAGS_N b) = v.getLsbD 31 ∧
    sameBeside (SCN_FLAGS b) [SCN_FLAGS_Z b, SCN_FLAGS_N b] f t ∧ sameRegs (SCN_G b g :: SCN_FLAGS b :: pcRegs b) f t ∧
    wentOn [] b (f.get (SCN_PC_PC b) + 8) { f.eng b with used := (f.eng b).used + 3 } f t ∧
    sameBeside (SCN_STATUS b) [SCN_STATUS_WAIT b] f t

theorem ldResult_done (b g : Nat) (v : Word) (f : State) :
    ldResult b g v f (((f.wr (SCN_G b g) v).setZN b v).done b 3).flush := by
  rw [setZN_eq]
  have hu := sameRegs_putZN (f.wr (SCN_G b g) v) b (v == 0) (v.getLsbD 31)
  obtain ⟨hz, hn, hbeside⟩ := putZN_done (f.wr (SCN_G b g) v) b (v == 0) (v.getLsbD 31) 3
  refine ⟨(gReg_goto _ b g _ 3).trans (gReg_of_sameRegs_FLAGS hu), hz, hn,
    sameBeside_trans (sameBeside_FLAGS_wr_G f b g v _) hbeside, done_frame 3 (sameRegs_G_FLAGS hu) ?_ (fun _ => rfl) ?_⟩
  · simp [SCN_G_notMem_pcRegs, SCN_FLAGS_notMem_pcRegs]
  · exact sameBut_trans (sameBut_wr f _ v) (sameBut_putZN _ b _ _)

/-- ST of engine `b` has put `v` at local address `a` and nowhere else, and goes on. -/
def stResult (b a : Nat) (v : Word) (f t : State) : Prop :=
  memTake t.lmem (lmOff b a) 4 = leBytes 4 v.toNat ∧
    (∀ k, k < lmOff b a ∨ lmOff b a + 4 ≤ k → memGet t.lmem k = memGet f.lmem k) ∧ sameRegs (pcRegs b) f t ∧
    wentOn [.lmem] b (f.get (SCN_PC_PC b) + 8) { f.eng b with used := (f.eng b).used + 3 } f t ∧
    sameBeside (SCN_STATUS b) [SCN_STATUS_WAIT b] f t

theorem lmem_goto (s : State) (b pc cost : Nat) : (s.goto b pc cost).flush.lmem = s.lmem := flush_lmem _

theorem sameBut_lmStore (s : State) (b a : Nat) (v : Word) : sameBut [.lmem] s (s.lmStore b a v) := by
  intro p hp
  cases p
  case lmem => exact absurd (List.mem_singleton_self _) hp
  all_goals exact rfl

theorem memGet_lmStore_outside (s : State) (b a : Nat) (v : Word) {k : Nat} (h : k < lmOff b a ∨ lmOff b a + 4 ≤ k) :
    memGet (s.lmStore b a v).lmem k = memGet s.lmem k := by
  refine (memGet_memPut _ _ _ _).trans (if_neg ?_)
  rw [length_leBytes]
  omega

theorem memTake_lmStore (s : State) (b a : Nat) (v : Word) :
    memTake (s.lmStore b a v).lmem (lmOff b a) 4 = leBytes 4 v.toNat :=
  memTake_memPut (leBytes 4 v.toNat) s.lmem (lmOff b a)

theorem stResult_done (b a : Nat) (v : Word) (f : State) : stResult b a v f ((f.lmStore b a v).done b 3).flush := by
  unfold stResult
  rw [State.done, lmem_goto]
  exact ⟨memTake_lmStore f b a v, fun k hk => memGet_lmStore_outside f b a v hk,
    done_frame (l := []) 3 (sameRegs_refl _ f) (by simp) (fun _ => rfl) (sameBut_lmStore f b a v)⟩

/-- Settles O7. Both instructions take one of three ways by their address; the way that accesses memory is the load or the store
followed by the common end of issue. -/
theorem loadStoreInstructions : Obligations.LoadStoreInstructions := by
  intro s b n x
  refine ⟨fun h => ⟨_, run_issue (execLdIns b) h, ?ld⟩, fun h => ⟨_, run_issue (execStIns b) h, ?st⟩⟩
  case ld =>
    exact memAccess (P := ldResult b (iA x) (s.lmWord b (s.ldAddr b x).toNat) (s.primed b n)) (ldResult_done ..)
  case st =>
    exact memAccess (P := stResult b (s.ldAddr b x).toNat (s.opA b x) (s.primed b n)) (stResult_done ..)

end Sys2Proof.Machine
end

section
/-! The event recorder: the taking of the oldest entry of its queue, and the read of EVR_D0 (R542 to R547). -/

namespace Sys2Proof.Machine

/-! ### A step that records no event -/

theorem flush_of_evNew_nil {s : State} (h : s.evNew = []) : s.flush = { s with evNew := [], ssNow := 0, seen := [] } := by
  rw [State.flush, h]
  rfl

theorem rd_bumpSat_self (s : State) (a : Nat) : (s.bumpSat a).rd a = satInc (s.rd a) :=
  (rd_bumpSat s a a).trans (if_pos rfl)

theorem rd_bumpWrap_self (s : State) (a : Nat) : (s.bumpWrap a).rd a = BitVec.ofNat 32 (s.rdN a + 1) := by
  rw [rd_bumpWrap, if_pos rfl, BitVec.ofNat_add, State.rdN, BitVec.ofNat_toNat, BitVec.setWidth_eq]
  rfl

/-! ### The records (R542, R543) -/

/-- The record that `s` writes next, for the event `e`. -/
def State.recordFor (s : State) (e : Ev) : EvRec :=
  { seq := s.rdN EVR_WR, id := e.id, inst := e.inst, rep := 0, volley := e.volley, lastv := e.volley % 2 ^ 32, arg := e.arg,
    tns := e.tns, loss := s.evLoss, snaps := s.snapshots e.id }

theorem newRecord_eq (s : State) (e : Ev) : s.newRecord e =
    State.bumpWrap { s.putRecord (recPos (s.rdN EVR_WR)) (s.recordFor e) with evLoss := false } EVR_WR := rfl

section
variable (s : State) (p q : Nat) (r : EvRec) (e : Ev)

theorem record_putRecord : (s.putRecord p r).record q = if p = q then some r else s.record q :=
  tabGet_tabSet (fun _ => none) s.recs p q (some r)

theorem record_putRecord_self : (s.putRecord p r).record p = some r := (record_putRecord s p p r).trans (if_pos rfl)

theorem record_putRecord_ne {p q : Nat} (h : q ≠ p) : (s.putRecord p r).record q = s.record q :=
  (record_putRecord s p q r).trans (if_neg h.symm)

theorem sameBut_putRecord : sameBut [.recs] s (s.putRecord p r) := by
  intro x hx
  cases x
  case recs => exact absurd (List.mem_singleton_self _) hx
  all_goals exact rfl

theorem sameRegs_putRecord (l : List Nat) : sameRegs l s (s.putRecord p r) := fun _ _ => rfl

theorem record_newRecord_self : (s.newRecord e).record (recPos (s.rdN EVR_WR)) = some (s.recordFor e) :=
  record_putRecord_self ..

theorem record_newRecord_ne {q : Nat} (h : q ≠ recPos (s.rdN EVR_WR)) : (s.newRecord e).record q = s.record q :=
  record_putRecord_ne _ _ h

theorem newRecord_evLoss : (s.newRecord e).evLoss = false := rfl

theorem rd_EVR_WR_newRecord : (s.newRecord e).rd EVR_WR = BitVec.ofNat 32 (s.rdN EVR_WR + 1) := rd_bumpWrap_self _ EVR_WR

theorem sameRegs_newRecord : sameRegs [EVR_WR] s (s.newRecord e) :=
  (sameRegs_bumpWrap_iff _ _ _ _ (List.mem_singleton_self _)).mpr (sameRegs_refl _ s)

theorem sameBut_newRecord : sameBut [.recs] s (s.newRecord e) := by
  rw [newRecord_eq, sameBut_bumpWrap_iff]
  exact sameBut_trans (sameBut_putRecord s _ _) (sameBut_of fun p => by cases p <;> rfl)

end

/-! ### The recorder takes an entry (R544, R545) -/

/-- The recorder, about to take `e`, absorbs it into `r`: the latest record written, of the same event, with repeats to spare. -/
def State.absorbs (s : State) (e : Ev) (r : EvRec) : Prop :=
  s.record (recPos (s.rdN EVR_WR - 1)) = some r ∧ s.rdN EVR_WR ≠ 0 ∧ evAbsorbs e.id = true ∧ r.id = e.id ∧ r.inst = e.inst ∧
    r.rep < 65535

/-- A record into which an occurrence of `e` has been absorbed. -/
def EvRec.absorb (r : EvRec) (e : Ev) : EvRec := { r with rep := r.rep + 1, lastv := e.volley % 2 ^ 32 }

theorem eventRecord_nil {s : State} (hq : s.evq = []) : eventRecord s = s := by rw [eventRecord, hq]

section
variable {s : State} {e : Ev} {rest : List Ev} (hq : s.evq = e :: rest)
include hq

/-- After the last number the entry counts as dropped (R542). -/
theorem eventRecord_last (hk : s.rdN EVR_WR = 0xFFFFFFFF) : eventRecord s = State.bumpSat { s with evq := rest } EVR_DROP := by
  rw [eventRecord, hq]
  exact if_pos hk

theorem eventRecord_absorbed (hk : s.rdN EVR_WR ≠ 0xFFFFFFFF) {r : EvRec} (h : s.absorbs e r) :
    eventRecord s = State.putRecord { s with evq := rest } (recPos (s.rdN EVR_WR - 1)) (r.absorb e) := by
  obtain ⟨hrec, hsame⟩ := h
  have hrec' : State.record { s with evq := rest } (recPos (State.rdN { s with evq := rest } EVR_WR - 1)) = some r := hrec
  rw [eventRecord, hq]
  dsimp only
  rw [if_neg (show ¬ State.rdN { s with evq := rest } EVR_WR = 0xFFFFFFFF from hk), hrec']
  exact if_pos hsame

theorem eventRecord_new (hk : s.rdN EVR_WR ≠ 0xFFFFFFFF) (h : ¬ ∃ r, s.absorbs e r) :
    eventRecord s = State.newRecord { s with evq := rest } e := by
  rw [eventRecord, hq]
  dsimp only
  rw [if_neg (show ¬ State.rdN { s with evq := rest } EVR_WR = 0xFFFFFFFF from hk)]
  split
  next r hrec => exact if_neg fun hsame => h ⟨r, hrec, hsame⟩
  next => rfl

/-- Whatever it does with the entry, the recorder takes it from its queue, and changes the records and registers alone. -/
theorem eventRecord_frame :
    (eventRecord s).evNew = s.evNew ∧ (eventRecord s).evq = rest ∧ sameBut [.recs] s (eventRecord s) := by
  have hpop : sameBut [.recs] s { s with evq := rest } := sameBut_of fun p => by cases p <;> rfl
  by_cases hk : s.rdN EVR_WR = 0xFFFFFFFF
  · rw [eventRecord_last hq hk]
    exact ⟨bumpSat_evNew _ _, bumpSat_evq _ _, (sameBut_bumpSat_iff _ _ _ _).mpr hpop⟩
  by_cases h : ∃ r, s.absorbs e r
  · obtain ⟨r, hr⟩ := h
    rw [eventRecord_absorbed hq hk hr]
    exact ⟨rfl, rfl, sameBut_trans hpop (sameBut_putRecord _ _ _)⟩
  · rw [eventRecord_new hq hk h]
    exact ⟨rfl, rfl, sameBut_trans hpop (sameBut_newRecord _ _)⟩

end

/-! ### A read of EVR_D0 (R547) -/

theorem runRead_up {s : State} (f : State → State) (h : s.up = true) : runRead f s = .next (f (s.tstHit 9 0)).flush := by
  rw [runRead, run_alive _ (State.up_alive h), if_pos h]

theorem sameRegs_tstHit (s : State) (p i : Nat) : sameRegs wrRegs s (s.tstHit p i) := by
  obtain ⟨-, -, -, -, hrd⟩ := tstHit_frame s p i
  have hcnt : ∀ k, k < 8 → TST_PT_CNT k ∈ wrRegs := by decide
  exact fun off hoff => hrd off fun k hk heq => hoff (heq ▸ hcnt k hk)

theorem sameBut_tstHit (s : State) (p i : Nat) : sameBut [] s (s.tstHit p i) := by
  obtain ⟨-, -, -, hparts, -⟩ := tstHit_frame s p i
  exact hparts

theorem forN_succ (n : Nat) (f : Nat → State → State) (s : State) : forN (n + 1) f s = f n (forN n f s) := by
  rw [forN, List.range_succ, List.foldl_append]
  rfl

section
variable (s : State) (n : Nat) {a : Nat → Nat} (v : Nat → Word)

/-- Registers written one after another, at places that differ, each hold what was written there. -/
theorem rd_forN_wr (ha : Function.Injective a) {j : Nat} (hj : j < n) :
    (forN n (fun i t => t.wr (a i) (v i)) s).rd (a j) = v j := by
  induction n with
  | zero => omega
  | succ n ih =>
    rw [forN_succ]
    by_cases h : j = n
    · rw [h, rd_wr_self]
    · rw [rd_wr_ne _ _ _ _ fun heq => h (ha heq).symm, ih (by omega)]

theorem sameRegs_forN_wr : sameRegs ((List.range n).map a) s (forN n (fun i t => t.wr (a i) (v i)) s) :=
  forN_induct n _ (fun _ _ hi ht =>
    (sameRegs_wr_iff _ _ _ _ _ (List.mem_map_of_mem (List.mem_range.mpr hi))).mpr ht) s (sameRegs_refl _ s)

theorem sameBut_forN_wr : sameBut [] s (forN n (fun i t => t.wr (a i) (v i)) s) :=
  forN_induct n _ (fun _ _ _ ht => (sameBut_wr_iff _ _ _ _ _).mpr ht) s (sameBut_refl _ s)

end

theorem EVR_D_injective : Function.Injective EVR_D := by
  intro i j h
  unfold EVR_D at h
  omega

/-- The selected record is what the records and EVR_SEL make it. -/
theorem recWord_congr {s t : State} (hrecs : t.recs = s.recs) (hsel : t.rd EVR_SEL = s.rd EVR_SEL) (i : Nat) :
    t.recWord i = s.recWord i := by
  unfold State.recWord State.record State.rdN
  rw [hrecs, hsel]

theorem recWord_tstHit (s : State) (p i k : Nat) : (s.tstHit p i).recWord k = s.recWord k :=
  recWord_congr (sameBut_tstHit s p i .recs (by simp)) (sameRegs_tstHit s p i EVR_SEL (by decide)) k

/-- A read of EVR_D0 puts the selected record into the holding copy, and changes nothing else but what every access can. -/
theorem evrD0Read_tstHit_flush (s : State) : let t := (evrD0Read (s.tstHit 9 0)).flush
    (∀ i : Fin 16, t.rd (EVR_D i) = s.recWord i) ∧ sameRegs ((List.range 16).map EVR_D ++ wrRegs) s t ∧ sameBut [] s t := by
  refine ⟨fun i => ?_, ?_, ?_⟩
  · rw [rd_flush _ _ (by unfold EVR_DROP EVR_D; omega), evrD0Read, rd_forN_wr _ _ _ EVR_D_injective i.isLt, recWord_tstHit]
  · refine sameRegs_flush (sameRegs_trans ?_ (sameRegs_mono (sameRegs_forN_wr _ 16 _) ?_)) (by simp [wrRegs])
    · exact sameRegs_mono (sameRegs_tstHit s 9 0) fun _ => List.mem_append_right _
    · exact fun _ => List.mem_append_left _
  · exact (sameBut_flush_iff _ _ _).mpr (sameBut_trans (sameBut_tstHit s 9 0) (sameBut_forN_wr _ 16 _))

/-- Settles O40. The recorder takes one of three ways with the oldest entry, by the next number and by the latest record; the step
itself records no event, so what the recorder did stands at its end. -/
theorem eventRecorder : Obligations.EventRecorder := by
  intro s
  refine ⟨fun halive hnone => ⟨_, run_alive eventRecord halive, fun hq => ?idle, ?taken⟩,
    fun hup => ⟨_, runRead_up evrD0Read hup, evrD0Read_tstHit_flush s⟩⟩
  case idle =>
    rw [eventRecord_nil hq, flush_of_evNew_nil hnone]
    exact ⟨hq, sameRegs_refl _ s, sameBut_of fun p => by cases p <;> rfl⟩
  case taken =>
    intro e rest hq k last absorbs
    obtain ⟨hnew, hrest, hparts⟩ := eventRecord_frame hq
    rw [flush_of_evNew_nil (hnew.trans hnone)]
    refine ⟨hrest, sameBut_trans hparts (sameBut_of fun p => by cases p <;> rfl), fun hk => ?_, fun hk =>
      ⟨fun r hr => ?_, fun hno => ?_⟩⟩
    · rw [eventRecord_last hq hk]
      exact ⟨rd_bumpSat_self _ _, sameBut_bumpSat _ EVR_DROP .recs (by simp),
        (sameRegs_bumpSat_iff _ _ _ _ (List.mem_singleton_self _)).mpr (sameRegs_refl _ s)⟩
    · rw [eventRecord_absorbed hq hk hr]
      exact ⟨record_putRecord_self _ _ _, fun p hp => record_putRecord_ne _ _ hp, sameRegs_putRecord _ last (r.absorb e) []⟩
    · rw [eventRecord_new hq hk hno]
      exact ⟨record_newRecord_self _ e, rd_EVR_WR_newRecord _ e, fun p hp => record_newRecord_ne _ e hp,
        newRecord_evLoss { s with evq := rest } e, sameRegs_newRecord _ e⟩

end Sys2Proof.Machine
end
